-- ==== Sys2Proof/Word.lean ====
section
/-!
DEFINITION. The byte of a management frame, and the fixed-length table in which like things are kept
(six ports, eight screens, sixteen sources …), with its plainest operations.
-/

namespace Sys2Proof

/-- A byte of a management frame (R186). -/
abbrev Byte := BitVec 8

/-- A fixed number of like things, in order: one for each index below `n`. -/
structure Tab (n : Nat) (α : Type) where
  cells : List α
  size : cells.length = n
deriving DecidableEq, Repr

/-- The cell of an index. -/
def Tab.get {n : Nat} {α : Type} (t : Tab n α) (i : Fin n) : α :=
  t.cells[i.val]'(by rw [t.size]; exact i.isLt)

/-- The table with the cell of one index replaced. -/
def Tab.set {n : Nat} {α : Type} (t : Tab n α) (i : Fin n) (a : α) : Tab n α :=
  ⟨t.cells.set i.val a, by rw [List.length_set]; exact t.size⟩

/-- The table with the cell of one index changed by a function. -/
def Tab.upd {n : Nat} {α : Type} (t : Tab n α) (i : Fin n) (f : α → α) : Tab n α :=
  t.set i (f (t.get i))

/-- The same cell at every index. -/
def Tab.fill {n : Nat} {α : Type} (a : α) : Tab n α :=
  ⟨List.replicate n a, List.length_replicate⟩

/-- A function applied to every cell. -/
def Tab.map {n : Nat} {α β : Type} (f : α → β) (t : Tab n α) : Tab n β :=
  ⟨t.cells.map f, by rw [List.length_map]; exact t.size⟩

/-- Two tables combined cell by cell. -/
def Tab.zip {n : Nat} {α β γ : Type} (f : α → β → γ) (t : Tab n α) (u : Tab n β) : Tab n γ :=
  ⟨List.zipWith f t.cells u.cells, by rw [List.length_zipWith, t.size, u.size, Nat.min_self]⟩

/-- The table whose cell at each index is the function's value there. -/
def Tab.make {n : Nat} {α : Type} (f : Fin n → α) : Tab n α :=
  ⟨(List.finRange n).map f, by rw [List.length_map, List.length_finRange]⟩

/-- A set of numbered members (buttons, lamps, computers, screens, notice kinds): one flag for each. -/
abbrev Flags (n : Nat) := Tab n Bool

/-- The set with no member. -/
def Flags.none {n : Nat} : Flags n := Tab.fill false

/-- The set with every member. -/
def Flags.all {n : Nat} : Flags n := Tab.fill true

/-- Does the set have a member? -/
def Flags.any {n : Nat} (f : Flags n) : Bool := f.cells.any id

/-- Union of two sets. -/
def Flags.union {n : Nat} (f g : Flags n) : Flags n := Tab.zip (· || ·) f g

/-- The members of the first set that are not in the second. -/
def Flags.minus {n : Nat} (f g : Flags n) : Flags n := Tab.zip (fun a b => a && !b) f g

/-- The members of both sets. -/
def Flags.inter {n : Nat} (f g : Flags n) : Flags n := Tab.zip (· && ·) f g

end Sys2Proof
end

