-- ==== Sys2Proof/Syntax.lean ====
section
/-!
DEFINITION. The commands of the TD-6816: one constructor of `Instr` for each row of spec/opcode_table.json, with the
operands that the row's rules name, and the types of those operands.

Numbered things are indexes from 0: the computer Cn, the port Cn, the source Vn, the screen Sn, the output On, the
layout n and the hotkey entry n are the index n - 1.
-/

namespace Sys2Proof

/-! ## Names (00_scope.md, "Names") -/

/-- A computer C1 to C6, and its port. -/
abbrev Computer := Fin 6
/-- A port C1 to C6: a port and the computer attached to it share a name. -/
abbrev Port := Fin 6
/-- A video source V1 to V16. -/
abbrev Source := Fin 16
/-- A screen S1 to S8. -/
abbrev Screen := Fin 8
/-- A share output O1 or O2. -/
abbrev ShareOut := Fin 2
/-- A layout table entry 1 to 16. -/
abbrev LayoutNo := Fin 16
/-- A hotkey table entry 1 to 32. -/
abbrev EntryNo := Fin 32

/-- A key usage number: ordinary keys 4 to 221, modifiers 224 to 231. -/
abbrev Key := Nat
/-- A set of keys, as the list of its members in ascending usage order. -/
abbrev KeySet := List Key
/-- A set of the pointer buttons 1 to 5; button n is the index n - 1. -/
abbrev Buttons := Flags 5
/-- A set of the lamps Num Lock, Caps Lock, Scroll Lock, Compose, Kana, in that order (section 1.5). -/
abbrev Lamps := Flags 5
/-- A set of computers. -/
abbrev ComputerSet := Flags 6
/-- A set of screens. -/
abbrev ScreenSet := Flags 8
/-- A set of the sixteen notice kinds, in the order of R187. -/
abbrev NoticeSet := Flags 16

/-! ## Named values -/

/-- The seven link states of a port (section 5.2). -/
inductive LinkState where
  | detached | settling | active | stalled | suspended | waking | recovering
deriving DecidableEq, Repr

/-- The four states of a video source (section 6.3). -/
inductive SourceState where
  | noSignal | acquiring | locked | unstable
deriving DecidableEq, Repr

/-- A change of a source's state: the state left and the new one (R111, R122). -/
structure SourceChange where
  old : SourceState
  new : SourceState
deriving DecidableEq, Repr

/-- The last cause of the focus record (section 4.1). -/
inductive FocusCause where
  | glide | hotkey | management | layout | route | restart
deriving DecidableEq, Repr

/-- The cause of a cursor-screen change (R68). -/
inductive CursorCause where
  | glide | management | restart
deriving DecidableEq, Repr

/-- Which trigger of R12, after the first, reaches the Console Input Port: a change of keyboard focus, or
an event of one port (its LED state, or entering or leaving Active). -/
inductive LedCause where
  | focusChange
  | port (p : Port)
deriving DecidableEq, Repr

/-- The focus field of a layout (section 7.5). -/
inductive FocusField where
  | keep | follow
  | computer (c : Computer)
deriving DecidableEq, Repr

/-- The sixteen notice kinds, in the order of R187. -/
inductive NoticeKind where
  | focusChanged | routeDone | routeForced | layoutDone | layoutSuperseded | holdExpired | sourceLocked | sourceLost
  | portChanged | portStalled | wakeFailed | wakeRefused | shareBlanked | inputCoalesced | deskSleepChanged | saveEnded
deriving DecidableEq, Repr

/-- How a save ends (R184): by success, or at the step that the memory does not answer: clearing the marker, writing
the table of the given place in the order of step 2, or writing the marker valid. -/
inductive SaveOutcome where
  | success
  | failedAtClear
  | failedAtTable (k : Fin 6)
  | failedAtMark
deriving DecidableEq, Repr

/-! ## Reports and events -/

/-- A console keyboard report: the flags of usages 224 to 231 in order, and six slots (section 1.2). -/
structure KeyboardReport where
  modifiers : Flags 8
  slots : Tab 6 Nat
deriving DecidableEq, Repr

/-- A console pointer report as the pointer sent it: the numbers of the buttons held, the motion, the wheel and a
horizontal pan (section 1.3). -/
structure ConsolePointerReport where
  buttons : List Nat
  dx : Int
  dy : Int
  wheel : Int
  pan : Int
deriving DecidableEq, Repr

/-- A key event as the Console Input Port hands it: usage, direction, and the held set carried with it (R4). -/
structure KeyEvent where
  key : Key
  press : Bool
  held : KeySet
deriving DecidableEq, Repr

/-- A pointer event as the Console Input Port hands it (R8). -/
structure PointerEvent where
  dx : Int
  dy : Int
  wheel : Int
  held : Buttons
  pressed : Buttons
  released : Buttons
deriving DecidableEq, Repr

/-- A pointer report to a port, and an entry of its pointer queue (R54, section 5.5). -/
structure PointerReport where
  absX : Nat
  absY : Nat
  buttons : Buttons
  wheel : Int
deriving DecidableEq, Repr

/-! ## Management requests

A request carries its port, its tag and the three argument bytes of its frame (R186). A table write carries the fields
of its entry as the raw numbers of the payload, checked by the rules of R177. -/

/-- What every management request carries: the port it arrived on, its tag, and argument bytes 5 to 7. -/
structure Request where
  port : Port
  tag : Nat
  arg1 : Nat
  arg2 : Nat
  arg3 : Nat
deriving DecidableEq, Repr

/-- The fields of a desk record as written, in the order of R187; the mask is one bit a computer. -/
structure RawDesk where
  prefixKey : Nat
  tapCount : Nat
  tapWindow : Nat
  sequenceTimeout : Nat
  holdThreshold : Nat
  glideGain : Nat
  crossingResistance : Nat
  pressureHold : Nat
  broadcastMask : Nat
  routeHoldLimit : Nat
  startLayout : Nat
  dimFloor : Nat
  unfocusedLevel : Nat
  rampRate : Nat
  screenSleepDelay : Nat
  wakeTimeout : Nat
  wakeRetries : Nat
  recoveryTime : Nat
  deskWakeWakes : Nat
  noticePacing : Nat
deriving DecidableEq, Repr

/-- The fields of a port entry as written (section 5.1). -/
structure RawPort where
  enabled : Nat
  managementAllowed : Nat
  wakeOnGlide : Nat
  wakeOnKey : Nat
  settlePolls : Nat
  stallTimeout : Nat
deriving DecidableEq, Repr

/-- The fields of a source entry as written (section 6.1). -/
structure RawSource where
  owner : Nat
  x0 : Nat
  y0 : Nat
  w : Nat
  h : Nat
  priv : Nat
deriving DecidableEq, Repr

/-- The fields of a screen entry as written (section 3.1). -/
structure RawScreen where
  placed : Nat
  x : Nat
  y : Nat
  w : Nat
  h : Nat
  switchLine : Nat
  switchMode : Nat
  fade : Nat
deriving DecidableEq, Repr

/-- The fields of a layout entry as written (section 7.5). -/
structure RawLayout where
  routes : Tab 8 Nat
  focus : Nat
deriving DecidableEq, Repr

/-- An action as written: its kind and two arguments (R31). -/
structure RawAction where
  kind : Nat
  arg1 : Nat
  arg2 : Nat
deriving DecidableEq, Repr

/-- The fields of a hotkey entry as written (section 2.2); the conditions in the order Ctrl, Shift, Alt, Meta; the hold
action preceded by its presence. -/
structure RawHotkey where
  valid : Nat
  path : Nat
  key : Nat
  conditions : Tab 4 Nat
  tap : RawAction
  holdPresent : Nat
  hold : RawAction
deriving DecidableEq, Repr

/-! ## The commands -/

/-- One constructor for each row of spec/opcode_table.json, in the table's order. -/
inductive Instr where
  /-- RESET: the reset pin or power-on. -/
  | reset
  /-- SETTINGS_LOAD_END: does the settings memory answer, and is each console device present? -/
  | settingsLoadEnd (memoryAnswers keyboardPresent pointerPresent : Bool)
  | keyboardAttach
  | keyboardDetach
  | pointerAttach
  | pointerDetach
  | keyboardReport (r : KeyboardReport)
  | pointerReport (r : ConsolePointerReport)
  | ledTrigger (c : LedCause)
  | keyEvent (e : KeyEvent)
  | tapWindowExpiry
  | sequenceTimerExpiry
  | holdTimerExpiry
  | keyboardDetachedIndication
  | consumeRequest (k : Key)
  | passedEvent (k : Key) (press : Bool)
  | focus (c : Computer)
  | focusNext
  | focusPrevious
  | momentaryFocus (c : Computer)
  | momentaryReturn
  | lock
  | broadcast
  | dimOverride
  | dimOverrideHold
  | dimOverrideRelease
  /-- CURSOR_SCREEN_CHANGE: the cursor screen itself is read from the Glide Unit (R64). -/
  | cursorScreenChange (c : CursorCause)
  /-- JUMP_ANSWER: the jump's computer and cause, and the landing screen, or none when blind. -/
  | jumpAnswer (c : Computer) (cause : FocusCause) (landing : Option Screen)
  | switchNotice (sc : Screen)
  /-- LAYOUT_COMPLETION: the focus field, and whether it is the restart completion of R132. -/
  | layoutCompletion (f : FocusField) (restart : Bool)
  | pointerEvent (e : PointerEvent)
  | cursorNotice
  | jumpRequest (c : Computer) (cause : FocusCause)
  | homeRecordRequest (c : Computer)
  | pressureHoldTimerExpiry
  | linkConfigured (p : Port)
  | linkSuspended (p : Port)
  | linkResumed (p : Port)
  | linkDetached (p : Port)
  | keyboardPoll (p : Port)
  | pointerPoll (p : Port)
  | wakeArmed (p : Port)
  | wakeDisarmed (p : Port)
  | ledOutputReport (p : Port) (lamps : Lamps)
  | portKeyPress (p : Port) (k : Key)
  | portKeyRelease (p : Port) (k : Key)
  | ignoreRelease (p : Port) (k : Key)
  | leaveIndication (p : Port)
  | joinIndication (p : Port) (keys : KeySet)
  | portPointerReport (p : Port) (r : PointerReport)
  | wakeBegins (p : Port)
  | wakeFailed (p : Port)
  | recoveryEnded (p : Port)
  | stallTimerExpiry (p : Port)
  /-- FRAME_START: `now` is the timebase value at the frame start. -/
  | frameStart (v : Source) (now : Nat)
  | lineStart (v : Source)
  | lossTimerExpiry (v : Source)
  | route (sc : Screen) (target : Option Source)
  | layout (l : LayoutNo)
  | peek (v : Source) (sc : Screen) (entry : EntryNo) (held : Bool)
  | peekRevert (entry : EntryNo)
  | lineValue (v : Source) (line : Nat)
  /-- SOURCE_STATE_CHANGE: the source, the state it left and its new state (R122, log 40). -/
  | sourceStateChange (v : Source) (change : SourceChange)
  | fadeWaitReport (sc : Screen) (number : Nat)
  | routeHoldTimerExpiry
  | rampStep (sc : Screen) (v : Source)
  | substituteTickExpiry (sc : Screen)
  | stateChangeAtDimStage (sc : Screen) (v : Source) (st : SourceState)
  | fadeRequest (sc : Screen) (number : Nat)
  | drop (sc : Screen)
  | switchAtDimStage (sc : Screen) (source : Option Source)
  | targetRefresh (sc : Screen)
  | screenWake (sc : Screen)
  | share (o : ShareOut) (sc : Screen)
  | shareOff (o : ShareOut)
  | followedScreenSwitch (sc : Screen) (source : Option Source)
  | wakeRequest (p : Port)
  | wakeBeginsRefusal (p : Port)
  | linkStateChange (p : Port) (st : LinkState)
  | wakeSignalEnd (p : Port)
  | wakeTimerExpiry (p : Port)
  | recoveryTimerExpiry (p : Port)
  | switchAtWakeController (sc : Screen) (source : Option Source)
  | stateChangeAtWakeController (v : Source) (st : SourceState)
  | noSignalTimerExpiry (sc : Screen)
  | deskSleepAction
  /-- DESK_WAKE_INPUT: the key of a diverted key press; none for a diverted pointer report. -/
  | deskWakeInput (k : Option Key)
  | noticeRaise (k : NoticeKind)
  | pacingTimerExpiry
  | readEntry (q : Request)
  | writeDeskRecord (q : Request) (e : RawDesk)
  | writePortEntry (q : Request) (e : RawPort)
  | writeSourceEntry (q : Request) (e : RawSource)
  | writeScreenEntry (q : Request) (e : RawScreen)
  | writeLayoutEntry (q : Request) (e : RawLayout)
  | writeHotkeyEntry (q : Request) (e : RawHotkey)
  | routeScreen (q : Request)
  | recallLayout (q : Request)
  | setFocus (q : Request)
  | setShareOff (q : Request)
  | setShareFollow (q : Request)
  /-- SET_SHARE_FIXED; it also carries a Set Share whose mode names none of the three (R152, log 20). -/
  | setShareFixed (q : Request)
  | wake (q : Request)
  | deskSleep (q : Request)
  | holdRoutes (q : Request)
  | releaseRoutes (q : Request)
  | readState (q : Request)
  | readNotices (q : Request)
  | setNoticeMask (q : Request) (mask : NoticeSet)
  | readCountersLatch (q : Request)
  | readCountersLatchAndClear (q : Request)
  /-- READ_COUNTERS_REPEAT; it also carries a Read Counters whose option names none of the three (R182, log 20). -/
  | readCountersRepeat (q : Request)
  | saveSettings (q : Request)
  | saveEnd (outcome : SaveOutcome)
  | deskRestart (q : Request)
  | deskRestartCompletion (p : Port)
  /-- BADREQ: a served frame that is no request, with the request-kind byte that its reply copies. -/
  | badReq (q : Request) (kind : Nat)
deriving DecidableEq, Repr

end Sys2Proof
end

