-- ==== Sys2Proof/Config.lean ====
section
/-!
DEFINITION. The free value of the model: the order in which the part's blocks take what has been handed to
them, where the manual gives none (R111, R123, R77; log 3).
-/

namespace Sys2Proof

/-- Which of the moves open to the part is made next, for each free choice in turn. It has no body: nothing
can be proved of its values (log 3). -/
opaque Config.handoffChoice : Nat → Nat

end Sys2Proof
end

