-- ==== Sys2Proof/Machine/Tables.lean ====
section
/-!
DEFINITION. The six tables of the part: the types of their entries, their factory defaults, and the fixed
figures that are not table fields.
-/

namespace Sys2Proof.Machine

/-! ## Entries -/

/-- The desk record; fields in the order of R187. Times are in the unit of their field. -/
structure DeskRecord where
  prefixKey : Key
  tapCount : Nat
  tapWindow : Nat
  sequenceTimeout : Nat
  holdThreshold : Nat
  glideGain : Nat
  crossingResistance : Nat
  pressureHold : Nat
  broadcastMask : ComputerSet
  routeHoldLimit : Nat
  startLayout : LayoutNo
  dimFloor : Nat
  unfocusedLevel : Nat
  rampRate : Nat
  screenSleepDelay : Nat
  wakeTimeout : Nat
  wakeRetries : Nat
  recoveryTime : Nat
  deskWakeWakes : Bool
  noticePacing : Nat
deriving DecidableEq, Repr

/-- A port table entry (section 5.1). -/
structure PortEntry where
  enabled : Bool
  managementAllowed : Bool
  wakeOnGlide : Bool
  wakeOnKey : Bool
  settlePolls : Nat
  stallTimeout : Nat
deriving DecidableEq, Repr

/-- A source table entry (section 6.1): owner, absolute rectangle, private flag. -/
structure SourceEntry where
  owner : Option Computer
  x0 : Nat
  y0 : Nat
  w : Nat
  h : Nat
  priv : Bool
deriving DecidableEq, Repr

/-- Switch mode of a screen (section 7.1). -/
inductive SwitchMode where
  | frame | immediate
deriving DecidableEq, Repr

/-- A screen table entry (sections 3.1 and 7.1). -/
structure ScreenEntry where
  placed : Bool
  x : Nat
  y : Nat
  w : Nat
  h : Nat
  switchLine : Nat
  switchMode : SwitchMode
  fade : Bool
deriving DecidableEq, Repr

/-- A route field of a layout (section 7.5): Keep, or a target (None or a source). -/
inductive RouteField where
  | keep
  | to (target : Option Source)
deriving DecidableEq, Repr

/-- A layout table entry (section 7.5). -/
structure LayoutEntry where
  routes : Tab 8 RouteField
  focus : FocusField
deriving DecidableEq, Repr

/-- Path of a hotkey entry (section 2.2). -/
inductive HotkeyPath where
  | prefixed | direct
deriving DecidableEq, Repr

/-- Condition of a hotkey entry on one logical modifier (R19). -/
inductive Condition where
  | any | held | notHeld
deriving DecidableEq, Repr

/-- An action with its arguments (R31). A screen of none is the argument 0, the cursor screen, and a Wake computer
of none is the argument 0, the owner of the cursor screen's source (R32). -/
inductive Action where
  | focus (c : Computer)
  | focusNext
  | focusPrevious
  | layout (l : LayoutNo)
  | route (sc : Option Screen) (target : Option Source)
  | share (o : ShareOut) (sc : Option Screen)
  | shareOff (o : ShareOut)
  | peek (v : Source) (sc : Option Screen)
  | wake (c : Option Computer)
  | wakeAll
  | lock
  | broadcast
  | dimOverride
  | deskSleep
deriving DecidableEq, Repr

/-- A hotkey table entry (section 2.2); conditions in the order Ctrl, Shift, Alt, Meta. -/
structure HotkeyEntry where
  valid : Bool
  path : HotkeyPath
  key : Key
  conditions : Tab 4 Condition
  tap : Action
  hold : Option Action
deriving DecidableEq, Repr

/-- The six tables. -/
structure Tables where
  desk : DeskRecord
  ports : Tab 6 PortEntry
  sources : Tab 16 SourceEntry
  screens : Tab 8 ScreenEntry
  layouts : Tab 16 LayoutEntry
  hotkeys : Tab 32 HotkeyEntry
deriving DecidableEq, Repr

/-! ## Factory defaults (R185) -/

/-- Sections 2.1, 3.1, 8.1 and 10.1, R125, R126, R180; broadcast mask empty (section 4.1). -/
def factoryDesk : DeskRecord where
  prefixKey := 71
  tapCount := 2
  tapWindow := 400
  sequenceTimeout := 2000
  holdThreshold := 600
  glideGain := 256
  crossingResistance := 256
  pressureHold := 300
  broadcastMask := Flags.none
  routeHoldLimit := 2000
  startLayout := 0
  dimFloor := 96
  unfocusedLevel := 160
  rampRate := 24
  screenSleepDelay := 10
  wakeTimeout := 3000
  wakeRetries := 2
  recoveryTime := 20
  deskWakeWakes := true
  noticePacing := 0

/-- Section 5.1: management allowed is on for C1 only. -/
def factoryPort (p : Port) : PortEntry :=
  { enabled := true, managementAllowed := decide (p = 0), wakeOnGlide := true, wakeOnKey := true,
    settlePolls := 3, stallTimeout := 500 }

/-- R103: V1 to V12 belong to C1 to C6 in pairs, V13 to V16 to none; odd sources show the left half. -/
def factorySource (v : Source) : SourceEntry :=
  { owner := if h : v.val / 2 < 6 then some ⟨v.val / 2, h⟩ else none,
    x0 := if v.val % 2 = 0 then 0 else 16384, y0 := 0, w := 16384, h := 32768, priv := false }

/-- R40 (two rows of four screens, 16000 by 9000) with the switch fields of section 7.1 and fade off. -/
def factoryScreen (sc : Screen) : ScreenEntry :=
  { placed := true, x := sc.val % 4 * 16000, y := sc.val / 4 * 9000, w := 16000, h := 9000,
    switchLine := 0, switchMode := .frame, fade := false }

/-- R127: layout 1 routes Sk to Vk with focus C1; the others keep everything. -/
def factoryLayout (l : LayoutNo) : LayoutEntry :=
  if l = 0 then
    { routes := Tab.make (fun sc : Screen => .to (some ⟨sc.val, by omega⟩)), focus := .computer 0 }
  else { routes := Tab.fill .keep, focus := .keep }

/-- R18: the key and the tap action of the seventeen valid factory entries, in order. -/
def factoryHotkeyActions : List (Key × Action) :=
  [(30, .focus 0), (31, .focus 1), (32, .focus 2), (33, .focus 3), (34, .focus 4), (35, .focus 5),
   (58, .layout 0), (59, .layout 1), (60, .layout 2), (61, .layout 3), (62, .layout 4), (63, .layout 5),
   (64, .layout 6), (65, .layout 7), (15, .lock), (5, .broadcast), (26, .wake none)]

/-- R18: every factory entry is Prefixed with four Any conditions and no hold action; entries 18 to 32 are off. -/
def factoryHotkey (n : EntryNo) : HotkeyEntry :=
  match factoryHotkeyActions[n.val]? with
  | some (k, a) =>
    { valid := true, path := .prefixed, key := k, conditions := Tab.fill .any, tap := a, hold := none }
  | none =>
    { valid := false, path := .prefixed, key := 4, conditions := Tab.fill .any, tap := .focusNext, hold := none }

/-- The tables that the part uses when the settings memory holds no valid image (R185). -/
def factoryTables : Tables where
  desk := factoryDesk
  ports := Tab.make factoryPort
  sources := Tab.make factorySource
  screens := Tab.make factoryScreen
  layouts := Tab.make factoryLayout
  hotkeys := Tab.make factoryHotkey

/-! ## Fixed figures -/

/-- Section 6.2: the period window for agreement, its lower limit in µs. -/
def periodWindowLow : Nat := 8000
/-- Section 6.2: the period window for agreement, its upper limit in µs. -/
def periodWindowHigh : Nat := 50000
/-- Section 6.2: the agreement tolerance in µs. -/
def agreementTolerance : Nat := 64
/-- Section 6.2: the agreeing periods needed to lock. -/
def periodsToLock : Nat := 3
/-- Section 6.2: the loss timeout, 100 ms, in µs. -/
def lossTimeout : Nat := 100000
/-- Section 6.2: the substitute tick period in µs. -/
def tickPeriod : Nat := 16667
/-- R163: the wake signal is driven for 10 ms. -/
def wakeSignalTime : Nat := 10000
/-- Section 5.5: the capacity of a port's queue. -/
def queueCapacity : Nat := 8
/-- Section 11.4: counters saturate here. -/
def counterLimit : Nat := 65535
/-- R106: the current line holds here. -/
def lineLimit : Nat := 4095
/-- A millisecond in µs. -/
def ms (n : Nat) : Nat := n * 1000

/-! ## Lists of the numbered things, in ascending order -/

/-- C1 to C6. -/
def allPorts : List Port := List.finRange 6
/-- S1 to S8. -/
def allScreens : List Screen := List.finRange 8
/-- V1 to V16. -/
def allSources : List Source := List.finRange 16
/-- O1 and O2. -/
def allOutputs : List ShareOut := List.finRange 2
/-- Hotkey entries 1 to 32. -/
def allEntries : List EntryNo := List.finRange 32

end Sys2Proof.Machine
end

