-- ==== Sys2Proof/Machine/State.lean ====
section
/-!
DEFINITION. The state of the TD-6816 as plain data: the queue of waiting commands, the hand-offs in flight between its
blocks, its timebase, its tables and settings memory, and the state of each of its eleven blocks; and the state right
after reset.
-/

namespace Sys2Proof.Machine

/-! ## Timers and hand-offs -/

/-- A timer: none when stopped, else the timebase value (in µs) at which it expires. -/
abbrev Timer := Option Nat

/-- The blocks of the part, replicated ones with their number (00_scope.md, "Block overview"). -/
inductive Block where
  | cip | hkm | glu | fcu
  | cpe (p : Port)
  | fmn (v : Source)
  | xpc
  | dms (sc : Screen)
  | sou | wkc | mfe
deriving DecidableEq, Repr

/-- A piece of work that one block has handed and no block has taken yet: who handed it, and the command that is its
taking (log 1). -/
structure Handoff where
  src : Block
  cmd : Instr
deriving DecidableEq, Repr

/-- A keyboard snapshot: the held modifiers, and zero to six held ordinary keys in ascending order (R94). -/
structure Snapshot where
  modifiers : KeySet
  keys : KeySet
deriving DecidableEq, Repr

/-- What the part sends on its links (log 24). -/
inductive Sent where
  /-- An LED report to the console keyboard (R11). -/
  | led (lamps : Lamps)
  /-- An answer to a keyboard poll: a snapshot, or none for "no change" (R96). -/
  | keyboardAnswer (p : Port) (snapshot : Option Snapshot)
  /-- An answer to a pointer poll: an entry, or none for "no change" (R96). -/
  | pointerAnswer (p : Port) (entry : Option PointerReport)
  /-- A management frame sent on a port's link: a reply or a notice report (R97, R186). -/
  | frame (p : Port) (bytes : List Byte)
deriving DecidableEq, Repr

/-! ## Console Input Port (chapter 1) -/

/-- The mark of a console pointer button (section 1.3). -/
inductive ButtonMark where
  | up | passed | swallowed
deriving DecidableEq, Repr

/-- Work the Console Input Port has in hand: the events still to be handed of a report or of a detach, the indication
that ends a detach, and what is held behind them (R4, R5). -/
inductive ConsoleWork where
  | event (k : Key) (press : Bool)
  | indication
  | report (r : KeyboardReport)
  | detach
  | attach
deriving DecidableEq, Repr

/-- Console Input Port state (table of R13), with the work in hand of R4. -/
structure Cip where
  keyboardAttached : Bool
  pointerAttached : Bool
  held : KeySet
  buttons : Tab 5 ButtonMark
  ledLast : Option Lamps
  baseline : Bool
  work : List ConsoleWork
deriving DecidableEq, Repr

/-! ## Hotkey Matcher (chapter 2) -/

/-- Matcher states (section 2.3). -/
inductive MatcherState where
  | idle | counting | sequence | holding | held
deriving DecidableEq, Repr

/-- The holding entry: number, key usage, copies of both actions (section 2.3). -/
structure HoldingEntry where
  entry : EntryNo
  key : Key
  tap : Action
  hold : Option Action
deriving DecidableEq, Repr

/-- Hotkey Matcher state (section 2.3), with the desk counter HotkeyMisses (R26). -/
structure Hkm where
  state : MatcherState
  buffer : List (Key × Bool)
  consumed : KeySet
  tapCounter : Nat
  tapWindow : Timer
  sequence : Timer
  hold : Timer
  holding : Option HoldingEntry
  misses : Nat
deriving DecidableEq, Repr

/-! ## Glide Unit (chapter 3) -/

/-- A position in the desk space. -/
structure Pos where
  x : Nat
  y : Nat
deriving DecidableEq, Repr

/-- The pressure record (R48). -/
structure Pressure where
  target : Screen
  amount : Nat
deriving DecidableEq, Repr

/-- A home record (R57). -/
structure Home where
  screen : Screen
  pos : Pos
deriving DecidableEq, Repr

/-- Glide Unit state (section 3.2). `sourceOwner` is the owner of the cursor source as the unit read it when it set that
source: a new owner reaches it only through a cursor notice (R60, log 39). -/
structure Glu where
  pos : Pos
  screen : Screen
  source : Option Source
  sourceOwner : Option Computer
  residueX : Int
  residueY : Int
  pressure : Option Pressure
  pressureHold : Timer
  homes : Tab 6 (Option Home)
deriving DecidableEq, Repr

/-! ## Focus Control (chapter 4) -/

/-- The focus record and the passed-key set (section 4.1). -/
structure Fcu where
  focus : Option Computer
  owner : Option Computer
  lock : Bool
  broadcast : Bool
  dimOverride : Bool
  slot : Option (Option Computer)
  lastCause : FocusCause
  passedKeys : KeySet
deriving DecidableEq, Repr

/-! ## Computer Port Engines (chapter 5) -/

/-- The link condition (R81). -/
inductive LinkCondition where
  | down | up | asleep
deriving DecidableEq, Repr

/-- The four counters of a port (R100). -/
structure PortCounters where
  keysCoalesced : Nat
  clicksCoalesced : Nat
  keysDiscarded : Nat
  stalls : Nat
deriving DecidableEq, Repr

/-- Computer Port Engine state of one port (table of R101). -/
structure Cpe where
  linkState : LinkState
  link : LinkCondition
  wakeArmed : Bool
  lamps : Lamps
  reported : KeySet
  ignored : KeySet
  pointerIgnored : Buttons
  keyQueue : List Snapshot
  pointerQueue : List PointerReport
  settle : Nat
  stall : Timer
  lastReport : Option PointerReport
  counters : PortCounters
deriving DecidableEq, Repr

/-! ## Frame Monitors (chapter 6) -/

/-- Frame Monitor state of one source (section 6.2). -/
structure Fmn where
  state : SourceState
  lastStart : Option Nat
  measured : Option Nat
  agreement : Nat
  lockedPeriod : Option Nat
  linesPerFrame : Option Nat
  currentLine : Nat
  loss : Timer
deriving DecidableEq, Repr

/-! ## Crosspoint Controller (chapters 7 and 9) -/

/-- The cause of a route request (R116). -/
inductive RouteCause where
  | route | layout | peek | management
deriving DecidableEq, Repr

/-- A pending switch (R116). -/
structure Pending where
  target : Option Source
  line : Nat
  cause : RouteCause
  quiet : Bool
  number : Nat
deriving DecidableEq, Repr

/-- A route record (R116). -/
structure RouteRecord where
  active : Option Source
  pending : Option Pending
deriving DecidableEq, Repr

/-- Route hold while it is on: when it started and when its timer expires (R125). -/
structure RouteHold where
  start : Nat
  expiry : Nat
deriving DecidableEq, Repr

/-- The layout-in-flight record (R128). -/
structure LayoutInFlight where
  number : LayoutNo
  outstanding : ScreenSet
  focus : FocusField
deriving DecidableEq, Repr

/-- The peek record (R156). -/
structure PeekRecord where
  screen : Screen
  back : Option Source
  entry : EntryNo
  held : Bool
deriving DecidableEq, Repr

/-- Crosspoint Controller state (R116, R128, R136, R156), with its two desk counters (R134). `fadeWait` is the last
reported phase of each screen: true for FadeWait, false for none. -/
structure Xpc where
  routes : Tab 8 RouteRecord
  counts : Tab 8 Nat
  fadeWait : Flags 8
  hold : Option RouteHold
  layout : Option LayoutInFlight
  peek : Option PeekRecord
  pendingReplaced : Nat
  layoutsSuperseded : Nat
deriving DecidableEq, Repr

/-! ## Dim Stages (chapter 8) -/

/-- Fade phases (section 8.4). -/
inductive FadePhase where
  | normal | fadeOut | fadeWait | fadeIn
deriving DecidableEq, Repr

/-- Dim Stage state of one screen (section 8.1). -/
structure Dms where
  level : Nat
  target : Nat
  phase : FadePhase
  source : Option Source
  inHand : Option Nat
  number : Nat
  tick : Timer
deriving DecidableEq, Repr

/-! ## Share Output Unit (chapter 9) -/

/-- The mode of a share output with the fields present in it (section 9.2). -/
inductive ShareMode where
  | off
  | follow (sc : Screen) (source : Option Source)
  | fixed (v : Source)
deriving DecidableEq, Repr

/-- A share record (section 9.2). -/
structure ShareRecord where
  mode : ShareMode
  blanked : Bool
deriving DecidableEq, Repr

/-! ## Wake Controller (chapter 10) -/

/-- Wake phases (section 10.2). -/
inductive WakePhase where
  | idle | asked | signalling | recovering
deriving DecidableEq, Repr

/-- The wake record of a port (section 10.2). The wake signal is driven while `signal` runs. -/
structure WakeRecord where
  phase : WakePhase
  retries : Nat
  timer : Timer
  signal : Timer
  recovery : Timer
deriving DecidableEq, Repr

/-- The power record of a screen (section 10.3). -/
structure PowerRecord where
  on : Bool
  noSignal : Timer
deriving DecidableEq, Repr

/-- Wake Controller state (chapter 10). -/
structure Wkc where
  wakes : Tab 6 WakeRecord
  power : Tab 8 PowerRecord
  deskAsleep : Bool
deriving DecidableEq, Repr

/-! ## Management Frame Engine (chapter 11) -/

/-- The settings memory: its valid marker and its image (section 11.6). -/
structure SettingsMemory where
  valid : Bool
  image : Tables
deriving DecidableEq, Repr

/-- A request in flight: its kind and what its reply copies (R175, R186). -/
structure InFlight where
  kind : Nat
  request : Request
deriving DecidableEq, Repr

/-- A save in flight: the requesting port, and the memory as it was before its marker was cleared (R184). -/
structure SaveInFlight where
  port : Port
  prior : SettingsMemory
deriving DecidableEq, Repr

/-- The last save result (chapter 11, first table). -/
inductive SaveResult where
  | none | succeeded | failed
deriving DecidableEq, Repr

/-- The load result (chapter 11, first table). -/
inductive LoadResult where
  | image | factory
deriving DecidableEq, Repr

/-- Management Frame Engine state (chapter 11, first table). -/
structure Mfe where
  inFlight : Tab 6 (Option InFlight)
  notices : NoticeSet
  mask : NoticeSet
  pacing : Timer
  snapshot : Tab 27 Nat
  save : Option SaveInFlight
  lastSave : SaveResult
  loadResult : LoadResult
deriving DecidableEq, Repr

/-! ## The whole state -/

/-- The state of the part. `pending` is the queue of commands that wait, `handoffs` the hand-offs in flight,
`choices` the number of free choices of order already made (log 1, log 3). -/
structure State where
  pending : List Instr
  handoffs : List Handoff
  choices : Nat
  timebase : Nat
  sent : List Sent
  loading : Bool
  memory : SettingsMemory
  tables : Tables
  cip : Cip
  hkm : Hkm
  glu : Glu
  fcu : Fcu
  cpe : Tab 6 Cpe
  fmn : Tab 16 Fmn
  xpc : Xpc
  dms : Tab 8 Dms
  sou : Tab 2 ShareRecord
  wkc : Wkc
  mfe : Mfe
deriving DecidableEq, Repr

/-- Why the part stops with a fault: the manual gives it no fault, so there is none (safe: nothing raises one). -/
inductive Fault where
deriving DecidableEq, Repr

/-- Why a command has no meaning. -/
inductive Refusal where
  /-- Raised by `exec` for a command of the table that has no meaning yet; every command has one, so nothing raises it.
  Safe: it stops where the part would go on. -/
  | notModelled (mnemonic : String)
deriving DecidableEq, Repr

/-- What a command answers. -/
abbrev Result := Host.Outcome State Fault Refusal

/-! ## Reset (R13, R36, R61, R78, R101, R114, R132, R148, R155, R172, R185) -/

/-- R13. -/
def Cip.reset : Cip where
  keyboardAttached := false
  pointerAttached := false
  held := []
  buttons := Tab.fill .up
  ledLast := none
  baseline := true
  work := []

/-- Section 2.3. -/
def Hkm.reset : Hkm where
  state := .idle
  buffer := []
  consumed := []
  tapCounter := 0
  tapWindow := none
  sequence := none
  hold := none
  holding := none
  misses := 0

/-- R61 sets the cursor when the load ends; the values before it are the model's (log 12). -/
def Glu.reset : Glu where
  pos := { x := 8000, y := 4500 }
  screen := 0
  source := none
  sourceOwner := none
  residueX := 0
  residueY := 0
  pressure := none
  pressureHold := none
  homes := Tab.fill none

/-- R78. -/
def Fcu.reset : Fcu where
  focus := none
  owner := none
  lock := false
  broadcast := false
  dimOverride := false
  slot := none
  lastCause := .restart
  passedKeys := []

/-- R101. -/
def Cpe.reset : Cpe where
  linkState := .detached
  link := .down
  wakeArmed := false
  lamps := Flags.none
  reported := []
  ignored := []
  pointerIgnored := Flags.none
  keyQueue := []
  pointerQueue := []
  settle := 0
  stall := none
  lastReport := none
  counters := { keysCoalesced := 0, clicksCoalesced := 0, keysDiscarded := 0, stalls := 0 }

/-- Section 6.2, R114. -/
def Fmn.reset : Fmn where
  state := .noSignal
  lastStart := none
  measured := none
  agreement := 0
  lockedPeriod := none
  linesPerFrame := none
  currentLine := 0
  loss := none

/-- R132. -/
def Xpc.reset : Xpc where
  routes := Tab.fill { active := none, pending := none }
  counts := Tab.fill 0
  fadeWait := Flags.none
  hold := none
  layout := none
  peek := none
  pendingReplaced := 0
  layoutsSuperseded := 0

/-- R148; the target before the restart routing is the model's (log 12). -/
def Dms.reset : Dms where
  level := 0
  target := 0
  phase := .normal
  source := none
  inHand := none
  number := 0
  tick := none

/-- R155. -/
def ShareRecord.reset : ShareRecord where
  mode := .off
  blanked := false

/-- Section 10.2. -/
def WakeRecord.reset : WakeRecord where
  phase := .idle
  retries := 0
  timer := none
  signal := none
  recovery := none

/-- R172. -/
def Wkc.reset : Wkc where
  wakes := Tab.fill WakeRecord.reset
  power := Tab.fill { on := true, noSignal := none }
  deskAsleep := false

/-- Chapter 11, first table; the load result before the load ends is the model's (log 12). -/
def Mfe.reset : Mfe where
  inFlight := Tab.fill none
  notices := Flags.none
  mask := Flags.all
  pacing := none
  snapshot := Tab.fill 0
  save := none
  lastSave := .none
  loadResult := .factory

/-- The part right after reset (power-on): the settings load is running (R185), every block is at its reset values,
nothing waits and nothing is in flight. The settings memory's contents are the model's (log 11). -/
def State.reset : State where
  pending := []
  handoffs := []
  choices := 0
  timebase := 0
  sent := []
  loading := true
  memory := { valid := false, image := factoryTables }
  tables := factoryTables
  cip := Cip.reset
  hkm := Hkm.reset
  glu := Glu.reset
  fcu := Fcu.reset
  cpe := Tab.fill Cpe.reset
  fmn := Tab.fill Fmn.reset
  xpc := Xpc.reset
  dms := Tab.fill Dms.reset
  sou := Tab.fill ShareRecord.reset
  wkc := Wkc.reset
  mfe := Mfe.reset

end Sys2Proof.Machine
end

