-- ==== Sys2Proof/Machine/Ops.lean ====
section
/-!
DEFINITION. The named operations over the state that the blocks share: sets of keys and buttons, hand-offs, timers,
changes of one block's state, and the readings of the ownership bridge.
-/

namespace Sys2Proof.Machine

/-! ## Sets of keys (00_scope.md, "Keys and buttons" and "Collections") -/

/-- A key joins a set; the set stays in ascending order with no duplicates. -/
def keyInsert (k : Key) : KeySet → KeySet
  | [] => [k]
  | x :: xs => if k < x then k :: x :: xs else if k = x then x :: xs else x :: keyInsert k xs

/-- A key leaves a set. -/
def keyErase (k : Key) (s : KeySet) : KeySet := s.filter (fun x => decide (x ≠ k))

/-- Every key of the first set joins the second. -/
def keyUnion (a b : KeySet) : KeySet := a.foldl (fun s k => keyInsert k s) b

/-- The keys of the first set that are not in the second. -/
def keyMinus (a b : KeySet) : KeySet := a.filter (fun k => decide (k ∉ b))

/-- The eight modifier usages. -/
def isModifier (k : Key) : Bool := decide (224 ≤ k ∧ k ≤ 231)

/-- The ordinary key usages. -/
def isOrdinary (k : Key) : Bool := decide (4 ≤ k ∧ k ≤ 221)

/-- The n-th logical modifier (Ctrl, Shift, Alt, Meta) is held when its left or its right key is. -/
def logicalHeld (n : Nat) (held : KeySet) : Bool := decide (224 + n ∈ held) || decide (228 + n ∈ held)

/-! ## Sets carried as flags -/

/-- A member joins a set. -/
def flagOn {n : Nat} (i : Fin n) (f : Flags n) : Flags n := f.set i true

/-- A member leaves a set. -/
def flagOff {n : Nat} (i : Fin n) (f : Flags n) : Flags n := f.set i false

/-- The flags of a list as a number, the lowest-numbered member in the lowest bit (R186). -/
def bitsNat : List Bool → Nat
  | [] => 0
  | b :: bs => (if b then 1 else 0) + 2 * bitsNat bs

/-- A set as a number (R186). -/
def flagsNat {n : Nat} (f : Flags n) : Nat := bitsNat f.cells

/-- The set that a number carries (R186). -/
def natFlags (n : Nat) (v : Nat) : Flags n := Tab.make (fun i : Fin n => v.testBit i.val)

/-! ## Changes of one part of the state -/

/-- Changes the Console Input Port. -/
def State.modCip (f : Cip → Cip) (s : State) : State := { s with cip := f s.cip }
/-- Changes the Hotkey Matcher. -/
def State.modHkm (f : Hkm → Hkm) (s : State) : State := { s with hkm := f s.hkm }
/-- Changes the Glide Unit. -/
def State.modGlu (f : Glu → Glu) (s : State) : State := { s with glu := f s.glu }
/-- Changes Focus Control. -/
def State.modFcu (f : Fcu → Fcu) (s : State) : State := { s with fcu := f s.fcu }
/-- Changes one port's engine. -/
def State.modCpe (p : Port) (f : Cpe → Cpe) (s : State) : State := { s with cpe := s.cpe.upd p f }
/-- Changes one source's Frame Monitor. -/
def State.modFmn (v : Source) (f : Fmn → Fmn) (s : State) : State := { s with fmn := s.fmn.upd v f }
/-- Changes the Crosspoint Controller. -/
def State.modXpc (f : Xpc → Xpc) (s : State) : State := { s with xpc := f s.xpc }
/-- Changes one screen's route record. -/
def State.modRoute (sc : Screen) (f : RouteRecord → RouteRecord) (s : State) : State :=
  s.modXpc (fun x => { x with routes := x.routes.upd sc f })
/-- Changes one screen's Dim Stage. -/
def State.modDms (sc : Screen) (f : Dms → Dms) (s : State) : State := { s with dms := s.dms.upd sc f }
/-- Changes one share record. -/
def State.modSou (o : ShareOut) (f : ShareRecord → ShareRecord) (s : State) : State := { s with sou := s.sou.upd o f }
/-- Changes the Wake Controller. -/
def State.modWkc (f : Wkc → Wkc) (s : State) : State := { s with wkc := f s.wkc }
/-- Changes one port's wake record. -/
def State.modWake (p : Port) (f : WakeRecord → WakeRecord) (s : State) : State :=
  s.modWkc (fun w => { w with wakes := w.wakes.upd p f })
/-- Changes one screen's power record. -/
def State.modPower (sc : Screen) (f : PowerRecord → PowerRecord) (s : State) : State :=
  s.modWkc (fun w => { w with power := w.power.upd sc f })
/-- Changes the Management Frame Engine. -/
def State.modMfe (f : Mfe → Mfe) (s : State) : State := { s with mfe := f s.mfe }
/-- Changes the running tables. -/
def State.modTables (f : Tables → Tables) (s : State) : State := { s with tables := f s.tables }

/-! ## Hand-offs (log 1) -/

/-- A block hands a command on: it joins the end of the hand-offs. -/
def State.hand (src : Block) (c : Instr) (s : State) : State :=
  { s with handoffs := s.handoffs ++ [{ src := src, cmd := c }] }

/-- A block raises a notice kind (R179): the kind is handed to the Management Frame Engine. -/
def State.raise (src : Block) (k : NoticeKind) (s : State) : State := s.hand src (.noticeRaise k)

/-- The hand-offs without the oldest one of a command. -/
def withoutFirst (c : Instr) : List Handoff → List Handoff
  | [] => []
  | h :: hs => if h.cmd = c then hs else h :: withoutFirst c hs

/-- A command that is a waiting hand-off is that hand-off being taken: it leaves the hand-offs (log 1). -/
def State.taking (c : Instr) (s : State) : State := { s with handoffs := withoutFirst c s.handoffs }

/-- The part sends something on one of its links (log 24). -/
def State.send (o : Sent) (s : State) : State := { s with sent := s.sent ++ [o] }

/-- One hand-off to each screen's block, in ascending screen order. -/
def State.handEachScreen (src : Block) (c : Screen → Instr) (s : State) : State :=
  allScreens.foldl (fun s sc => s.hand src (c sc)) s

/-! ## Time (log 5) -/

/-- A timer started with a time in µs. -/
def State.after (s : State) (us : Nat) : Timer := some (s.timebase + us)

/-- An event at a timebase value: the free-running timebase has reached at least that value. -/
def State.reach (t : Nat) (s : State) : State := { s with timebase := max s.timebase t }

/-- An expiry row: taken when its timer runs, at or after the timer's expiry; else it changes nothing (log 5). -/
def State.onExpiry (timer : Timer) (f : State → State) (s : State) : State :=
  match timer with
  | none => s
  | some e => f (s.reach e)

/-! ## The ownership bridge -/

/-- The owner of what a screen shows or could show: none for no source and for a source with no owner. -/
def State.ownerOf (s : State) (v : Option Source) : Option Computer :=
  v.bind (fun v => (s.tables.sources.get v).owner)

/-- The active source of a screen, from its route record (R116). -/
def State.active (s : State) (sc : Screen) : Option Source := (s.xpc.routes.get sc).active

/-- The owner of a screen's active source. -/
def State.screenOwner (s : State) (sc : Screen) : Option Computer := s.ownerOf (s.active sc)

/-- Is a source Locked, as its Frame Monitor holds it? -/
def State.sourceLocked (s : State) (v : Source) : Bool := decide ((s.fmn.get v).state = .locked)

/-- Is what a screen shows a Locked source? -/
def State.showsLocked (s : State) (v : Option Source) : Bool :=
  match v with
  | none => false
  | some v => s.sourceLocked v

/-- Is what a screen shows dark: None, or a source in NoSignal (R167)? -/
def State.showsDark (s : State) (v : Option Source) : Bool :=
  match v with
  | none => true
  | some v => decide ((s.fmn.get v).state = .noSignal)

/-- What the crosspoint feeds a consumer of a source, of a component of that source's picture: the component, and black for a
source in NoSignal (R149, log 31). -/
def State.fed (s : State) (v : Source) (component : Nat) : Nat :=
  if (s.fmn.get v).state = .noSignal then 0 else component

/-- The table entry of a screen. -/
def State.screenEntry (s : State) (sc : Screen) : ScreenEntry := s.tables.screens.get sc

/-- The table entry of a port. -/
def State.portEntry (s : State) (p : Port) : PortEntry := s.tables.ports.get p

/-- The console held buttons marked passed (section 1.3). -/
def State.passedButtons (s : State) : Buttons := s.cip.buttons.map (fun m => decide (m = .passed))

/-- The lowest-numbered placed screen. -/
def State.lowestPlaced (s : State) : Option Screen := allScreens.find? (fun sc => (s.screenEntry sc).placed)

/-- Is a port a keyboard target (R63)? -/
def State.isTarget (s : State) (p : Port) : Bool :=
  decide (s.fcu.focus = some p) || (s.fcu.broadcast && s.tables.desk.broadcastMask.get p)

/-! ## Share outputs (R150) -/

/-- The wanted source of a share record. -/
def ShareRecord.wanted (r : ShareRecord) : Option Source :=
  match r.mode with
  | .off => none
  | .follow _ v => v
  | .fixed v => some v

/-- Is a source private? -/
def State.isPrivate (s : State) (v : Option Source) : Bool :=
  match v with
  | none => false
  | some v => (s.tables.sources.get v).priv

/-- The source that an output carries: the wanted source when it is not private, else nothing. -/
def State.carried (s : State) (o : ShareOut) : Option Source :=
  let w := (s.sou.get o).wanted
  if s.isPrivate w then none else w

/-- A component of the picture of an output at a place where each source has the given component: that of the source it
carries, undimmed, and none for the blank picture of an output that carries nothing (R149, R150, log 31). -/
def State.outputComponent (s : State) (o : ShareOut) (pixel : Source → Nat) : Option Nat :=
  (s.carried o).map (fun v => s.fed v (pixel v))

/-! ## The block that takes a handed command -/

/-- The block that takes each command that one block of the part hands another; none for a command that comes from
outside the part. -/
def taker : Instr → Option Block
  | .ledTrigger _ => some .cip
  | .keyEvent _ | .keyboardDetachedIndication | .consumeRequest _ => some .hkm
  | .passedEvent _ _ | .focus _ | .focusNext | .focusPrevious | .momentaryFocus _ | .momentaryReturn | .lock | .broadcast
  | .dimOverride | .dimOverrideHold | .dimOverrideRelease | .cursorScreenChange _ | .jumpAnswer _ _ _ | .switchNotice _
  | .layoutCompletion _ _ => some .fcu
  | .pointerEvent _ | .cursorNotice | .jumpRequest _ _ | .homeRecordRequest _ => some .glu
  | .portKeyPress p _ | .portKeyRelease p _ | .ignoreRelease p _ | .leaveIndication p | .joinIndication p _
  | .portPointerReport p _ | .wakeBegins p | .wakeFailed p | .recoveryEnded p => some (.cpe p)
  | .route _ _ | .layout _ | .peek _ _ _ _ | .peekRevert _ | .lineValue _ _ | .sourceStateChange _ _
  | .fadeWaitReport _ _ => some .xpc
  | .rampStep sc _ | .stateChangeAtDimStage sc _ _ | .fadeRequest sc _ | .drop sc | .switchAtDimStage sc _
  | .targetRefresh sc | .screenWake sc => some (.dms sc)
  | .share _ _ | .shareOff _ | .followedScreenSwitch _ _ => some .sou
  | .wakeRequest _ | .wakeBeginsRefusal _ | .linkStateChange _ _ | .switchAtWakeController _ _
  | .stateChangeAtWakeController _ _ | .deskSleepAction | .deskWakeInput _ => some .wkc
  | .noticeRaise _ | .deskRestartCompletion _ => some .mfe
  | .reset | .settingsLoadEnd _ _ _ | .keyboardAttach | .keyboardDetach | .pointerAttach | .pointerDetach
  | .keyboardReport _ | .pointerReport _ | .tapWindowExpiry | .sequenceTimerExpiry | .holdTimerExpiry
  | .pressureHoldTimerExpiry | .linkConfigured _ | .linkSuspended _ | .linkResumed _ | .linkDetached _
  | .keyboardPoll _ | .pointerPoll _ | .wakeArmed _ | .wakeDisarmed _ | .ledOutputReport _ _ | .stallTimerExpiry _
  | .frameStart _ _ | .lineStart _ | .lossTimerExpiry _ | .routeHoldTimerExpiry | .substituteTickExpiry _
  | .wakeSignalEnd _ | .wakeTimerExpiry _ | .recoveryTimerExpiry _ | .noSignalTimerExpiry _ | .pacingTimerExpiry
  | .readEntry _ | .writeDeskRecord _ _ | .writePortEntry _ _ | .writeSourceEntry _ _ | .writeScreenEntry _ _
  | .writeLayoutEntry _ _ | .writeHotkeyEntry _ _ | .routeScreen _ | .recallLayout _ | .setFocus _ | .setShareOff _
  | .setShareFollow _ | .setShareFixed _ | .wake _ | .deskSleep _ | .holdRoutes _ | .releaseRoutes _ | .readState _
  | .readNotices _ | .setNoticeMask _ _ | .readCountersLatch _ | .readCountersLatchAndClear _ | .readCountersRepeat _
  | .saveSettings _ | .saveEnd _ | .deskRestart _ | .badReq _ _ => none

end Sys2Proof.Machine
end

