-- ==== Sys2Proof/Machine/Flags.lean ====
section
/-!
DEFINITION. The notice set and the counters: the place of each notice kind in a set, what the mask lets through, and the
saturating count.
-/

namespace Sys2Proof.Machine

/-- The bit of a notice kind in a notice set (R187). -/
def noticeBit : NoticeKind → Fin 16
  | .focusChanged => 0
  | .routeDone => 1
  | .routeForced => 2
  | .layoutDone => 3
  | .layoutSuperseded => 4
  | .holdExpired => 5
  | .sourceLocked => 6
  | .sourceLost => 7
  | .portChanged => 8
  | .portStalled => 9
  | .wakeFailed => 10
  | .wakeRefused => 11
  | .shareBlanked => 12
  | .inputCoalesced => 13
  | .deskSleepChanged => 14
  | .saveEnded => 15

/-- Does the notice set hold at least one kind that the mask holds (R180, R181)? -/
def State.noticesWanted (s : State) : Bool := (Flags.inter s.mfe.notices s.mfe.mask).any

/-- A counter increases by 1 and saturates at 65535 (section 11.4). -/
def bump (n : Nat) : Nat := if n < counterLimit then n + 1 else n

/-- Changes the counters of a port (R100). -/
def State.modCounters (p : Port) (f : PortCounters → PortCounters) (s : State) : State :=
  s.modCpe p (fun e => { e with counters := f e.counters })

/-- The 27 live counters in the order of R182. -/
def State.liveCounters (s : State) : List Nat :=
  (s.cpe.cells.flatMap fun e =>
    [e.counters.keysCoalesced, e.counters.clicksCoalesced, e.counters.keysDiscarded, e.counters.stalls])
  ++ [s.hkm.misses, s.xpc.pendingReplaced, s.xpc.layoutsSuperseded]

/-- The live counters as a table of 27 (R182). -/
def State.counterTable (s : State) : Tab 27 Nat := Tab.make (fun i : Fin 27 => (s.liveCounters)[i.val]?.getD 0)

/-- Every live counter becomes 0 (R182, latch and clear). -/
def State.clearCounters (s : State) : State :=
  let zero : PortCounters := { keysCoalesced := 0, clicksCoalesced := 0, keysDiscarded := 0, stalls := 0 }
  let s := allPorts.foldl (fun s p => s.modCounters p (fun _ => zero)) s
  let s := s.modHkm (fun h => { h with misses := 0 })
  s.modXpc (fun x => { x with pendingReplaced := 0, layoutsSuperseded := 0 })

end Sys2Proof.Machine
end

