-- ==== Sys2Proof/Machine/Monitors.lean ====
section
/-!
DEFINITION. The Frame Monitors (chapter 6): frame starts, line starts and the loss timer, and what the monitors hand on.
-/

namespace Sys2Proof.Machine

/-! ## Handing on (R111) -/

/-- A state change is handed to the Crosspoint Controller, to every Dim Stage and to the Wake Controller (R111). -/
def handSourceState (v : Source) (old st : SourceState) (s : State) : State :=
  let s := s.hand (.fmn v) (.sourceStateChange v { old := old, new := st })
  let s := s.handEachScreen (.fmn v) (fun sc => .stateChangeAtDimStage sc v st)
  s.hand (.fmn v) (.stateChangeAtWakeController v st)

/-- Does a frame start of a source concern a screen: does it show the source, or wait to switch onto it? A switch at this frame
start may reach the Dim Stage before the frame start, which is then a step; a Dim Stage that has not switched drops it (R139,
log 42). -/
def frameConcerns (s : State) (v : Source) (sc : Screen) : Bool :=
  decide (s.active sc = some v)
  || match (s.xpc.routes.get sc).pending with
    | some p => decide (p.target = some v)
    | none => false

/-- A frame start of a Locked source is handed to the Dim Stage of every screen that it concerns, and line 0 to the Crosspoint
Controller (R111). -/
def handFrame (v : Source) (s : State) : State :=
  let t := allScreens.foldl (fun t sc => if frameConcerns s v sc then t.hand (.fmn v) (.rampStep sc v) else t) s
  t.hand (.fmn v) (.lineValue v 0)

/-! ## The source states (R107 to R110) -/

/-- Is a period within the window for agreement? -/
def inWindow (period : Nat) : Bool := decide (periodWindowLow ≤ period) && decide (period ≤ periodWindowHigh)

/-- Do two periods lie within the tolerance of one another? -/
def agree (a b : Nat) : Bool := decide (a ≤ b + agreementTolerance) && decide (b ≤ a + agreementTolerance)

/-- The agreement count after a period, from the measured period before it and the count before it (R107). -/
def weighPeriod (before : Option Nat) (count period : Nat) : Nat :=
  if inWindow period = false then 0
  else
    match before with
    | some b => if 1 ≤ count ∧ agree period b = true then count + 1 else 1
    | none => 1

/-- The monitor in Acquiring or Unstable after a period (R107, R109): Locked when the count reaches 3. -/
def gather (f : Fmn) (before : Option Nat) (period lines : Nat) : Fmn :=
  let a := weighPeriod before f.agreement period
  if periodsToLock ≤ a then
    { f with state := .locked, agreement := periodsToLock, lockedPeriod := some period, linesPerFrame := some lines }
  else { f with agreement := a }

/-- The monitor in Locked after a period (R108). -/
def holdLock (f : Fmn) (period : Nat) : Fmn :=
  match f.lockedPeriod with
  | some l =>
    if agree period l then f else { f with state := .unstable, agreement := if inWindow period then 1 else 0 }
  | none => f

/-- The monitor after a frame start at a timebase value (R105). -/
def Fmn.frame (f : Fmn) (now : Nat) : Fmn :=
  let period := f.lastStart.map (fun l => now - l)
  let lines := min (f.currentLine + 1) lineLimit
  let g : Fmn :=
    { f with
      measured := if period.isSome then period else f.measured
      lastStart := some now, currentLine := 0, loss := some (now + lossTimeout) }
  match f.state, period with
  | .noSignal, _ => { g with state := .acquiring, agreement := 0 }
  | .acquiring, some p => gather g f.measured p lines
  | .unstable, some p => gather g f.measured p lines
  | .locked, some p => holdLock g p
  | .acquiring, none => g
  | .unstable, none => g
  | .locked, none => g

/-- The source enters NoSignal at the loss timer's expiry (R110). -/
def signalLost (v : Source) (s : State) : State :=
  let old := (s.fmn.get v).state
  let s := s.modFmn v (fun _ => Fmn.reset)
  let s := if old = .locked ∨ old = .unstable then s.raise (.fmn v) .sourceLost else s
  if old = .noSignal then s else handSourceState v old .noSignal s

/-- A source enters Locked from another state: SourceLocked is raised (R107, R109). -/
def noteLock (v : Source) (old : SourceState) (s : State) : State :=
  if s.sourceLocked v && decide (old ≠ .locked) then s.raise (.fmn v) .sourceLocked else s

/-- The results of a frame start: the state change first, then a Locked source's frame and line 0 (R111). -/
def frameResults (v : Source) (old : SourceState) (s : State) : State :=
  let st := (s.fmn.get v).state
  let s := noteLock v old s
  let s := if st = old then s else handSourceState v old st s
  if st = .locked then handFrame v s else s

/-- Has the loss timer run out before a timebase value? -/
def lossBefore (t : Timer) (now : Nat) : Bool :=
  match t with
  | some e => decide (e < now)
  | none => false

/-- A frame start (R105). A loss timer that ran out before it expires first (R105, R110). -/
def takeFrameStart (v : Source) (now : Nat) (s : State) : State :=
  let s := s.reach now
  let s := if lossBefore (s.fmn.get v).loss s.timebase then signalLost v s else s
  frameResults v (s.fmn.get v).state (s.modFmn v (fun f => f.frame s.timebase))

/-- A line start (R106, R111). -/
def takeLineStart (v : Source) (s : State) : State :=
  let f := s.fmn.get v
  if f.state = .noSignal ∨ lineLimit ≤ f.currentLine then s
  else
    let s := s.modFmn v (fun f => { f with currentLine := f.currentLine + 1 })
    if f.state = .locked then s.hand (.fmn v) (.lineValue v (f.currentLine + 1)) else s

/-! ## The commands -/

/-- FRAME_START (R105). -/
def execFrameStart (v : Source) (now : Nat) (s : State) : Result := .next (takeFrameStart v now s)

/-- LINE_START (R106). -/
def execLineStart (v : Source) (s : State) : Result := .next (takeLineStart v s)

/-- LOSS_TIMER_EXPIRY (R110). -/
def execLossTimerExpiry (v : Source) (s : State) : Result := .next (s.onExpiry (s.fmn.get v).loss (signalLost v))

end Sys2Proof.Machine
end

