-- ==== Sys2Proof/Machine/Dimming.lean ====
section
/-!
DEFINITION. The Dim Stages (chapter 8): targets, steps, pixel scaling, the fade phases, and the substitute tick.
-/

namespace Sys2Proof.Machine

/-! ## Target and level (R137 to R140) -/

/-- The target of a screen outside a fade (R137, cases 2 to 5). -/
def ordinaryTarget (s : State) (source : Option Source) : Nat :=
  if s.fcu.dimOverride then 255
  else
    match s.ownerOf source with
    | none => s.tables.desk.dimFloor
    | some c => if s.isTarget c then 255 else max s.tables.desk.unfocusedLevel s.tables.desk.dimFloor

/-- The target of a Dim Stage (R137). -/
def dimTarget (s : State) (d : Dms) : Nat :=
  match d.phase with
  | .fadeOut | .fadeWait => 0
  | .normal | .fadeIn => ordinaryTarget s d.source

/-- A Dim Stage recomputes its target (R138). -/
def retarget (sc : Screen) (s : State) : State := s.modDms sc (fun d => { d with target := dimTarget s d })

/-- Every Dim Stage recomputes its target. -/
def retargetAll (s : State) : State := allScreens.foldl (fun s sc => retarget sc s) s

/-- A level moved toward a target by a rate or by the remaining distance, whichever is smaller (R139). -/
def stepLevel (rate level target : Nat) : Nat :=
  if level ≤ target then level + min rate (target - level) else level - min rate (level - target)

/-- A component scaled to a level (R140). -/
def dimComponent (level component : Nat) : Nat := component * (level + 1) / 256

/-- A component of the picture that the crosspoint feeds a screen, at a place where each source has the given component: that of
its active source, and black for None (R121, R149, log 31). -/
def State.fedToScreen (s : State) (sc : Screen) (pixel : Source → Nat) : Nat :=
  match s.active sc with
  | some v => s.fed v (pixel v)
  | none => 0

/-- A component of a screen's picture as it is sent, scaled to the level of its own Dim Stage: nothing while the screen is
Sleeping (R140, R149, section 10.3, log 31). -/
def State.screenComponent (s : State) (sc : Screen) (pixel : Source → Nat) : Option Nat :=
  if (s.wkc.power.get sc).on then some (dimComponent (s.dms.get sc).level (s.fedToScreen sc pixel)) else none

/-! ## Phases (R141 to R145) -/

/-- A fade phase is entered and the target recomputed (R138). -/
def enterPhase (sc : Screen) (ph : FadePhase) (s : State) : State :=
  retarget sc (s.modDms sc (fun d => { d with phase := ph }))

/-- FadeWait is reported with the number of the request in hand (R142). -/
def reportFadeWait (sc : Screen) (s : State) : State :=
  match (s.dms.get sc).inHand with
  | some n => s.hand (.dms sc) (.fadeWaitReport sc n)
  | none => s

/-- FadeWait is entered and reported (R142). -/
def enterFadeWait (sc : Screen) (s : State) : State := reportFadeWait sc (enterPhase sc .fadeWait s)

/-- A step (R139, R142, R143). -/
def dimStep (sc : Screen) (s : State) : State :=
  let s := s.modDms sc (fun d => { d with level := stepLevel s.tables.desk.rampRate d.level d.target })
  let d := s.dms.get sc
  match d.phase with
  | .fadeOut => if d.level = 0 then enterFadeWait sc s else s
  | .fadeIn => if d.level = d.target then enterPhase sc .normal s else s
  | .normal | .fadeWait => s

/-- A frame start of a source at a Dim Stage (R139): a step when it is the screen source, and dropped otherwise. -/
def frameStepped (sc : Screen) (v : Source) (s : State) : State :=
  if (s.dms.get sc).source = some v then dimStep sc s else s

/-- A request is taken (R141). -/
def takeFade (sc : Screen) (n : Nat) (s : State) : State :=
  let s := s.modDms sc (fun d => { d with inHand := some n, number := n })
  let d := s.dms.get sc
  match d.phase, (s.screenEntry sc).fade with
  | .normal, true => if d.level = 0 then enterFadeWait sc s else enterPhase sc .fadeOut s
  | .fadeIn, true => if d.level = 0 then enterFadeWait sc s else enterPhase sc .fadeOut s
  | .fadeOut, true => s
  | .fadeWait, true => reportFadeWait sc s
  | .normal, false => s
  | .fadeIn, false => s
  | .fadeOut, false => enterPhase sc .normal s
  | .fadeWait, false => enterPhase sc .normal s

/-- A drop is taken (R144). -/
def takeDrop (sc : Screen) (s : State) : State :=
  match (s.dms.get sc).phase with
  | .fadeOut | .fadeWait => enterPhase sc .fadeIn (s.modDms sc (fun d => { d with inHand := none }))
  | .normal | .fadeIn => s

/-- Fade is written from on to off (R145). -/
def fadeWrittenOff (sc : Screen) (s : State) : State :=
  match (s.dms.get sc).phase with
  | .normal => s
  | .fadeOut | .fadeWait | .fadeIn => enterPhase sc .normal (s.modDms sc (fun d => { d with inHand := none }))

/-! ## The substitute tick (R112) -/

/-- The tick runs while what the screen shows is not Locked: it stops, starts, or goes on (R112). -/
def tickUpdate (sc : Screen) (locked : Bool) (s : State) : State :=
  s.modDms sc (fun d => { d with
    tick := if locked then none else if d.tick.isSome then d.tick else s.after tickPeriod })

/-- The ticks start when the restart routing has been set (R114, R115). -/
def startTicks (s : State) : State :=
  allScreens.foldl (fun s sc => tickUpdate sc (s.showsLocked (s.active sc)) s) s

/-- The tick expires: a step, and the tick starts anew (R112). -/
def tickExpires (sc : Screen) (s : State) : State :=
  dimStep sc (s.modDms sc (fun d => { d with tick := s.after tickPeriod }))

/-- A source state change is taken by a Dim Stage (R112). -/
def dimSourceChange (sc : Screen) (v : Source) (st : SourceState) (s : State) : State :=
  if (s.dms.get sc).source = some v then tickUpdate sc (decide (st = .locked)) s else s

/-- A switch is taken (R143). The new source starts or stops the tick by its monitor as it stands when the switch is taken: the manual
does not say which state counts when it has changed since the switch took effect (R112, log 53). -/
def dimSwitch (sc : Screen) (source : Option Source) (s : State) : State :=
  let s := s.modDms sc (fun d => { d with source := source, inHand := none })
  let s := enterPhase sc (if (s.screenEntry sc).fade then .fadeIn else .normal) s
  tickUpdate sc (s.showsLocked source) s

/-- A screen wake is taken (R147). -/
def dimWake (sc : Screen) (s : State) : State :=
  let s := s.modDms sc (fun d => { d with level := 0 })
  match (s.dms.get sc).phase with
  | .fadeOut => enterFadeWait sc s
  | .normal | .fadeWait | .fadeIn => retarget sc s

/-- The Dim Stages at Desk Restart (R148): the screen source and the request number are kept. -/
def dimRestart (s : State) : State :=
  { s with dms := s.dms.map (fun d => { d with level := 0, phase := .normal, inHand := none, tick := none }) }

/-! ## The commands -/

/-- RAMP_STEP (R139). -/
def execRampStep (sc : Screen) (v : Source) (s : State) : Result := .next (frameStepped sc v (s.taking (.rampStep sc v)))

/-- SUBSTITUTE_TICK_EXPIRY (R112). -/
def execSubstituteTickExpiry (sc : Screen) (s : State) : Result :=
  .next (s.onExpiry (s.dms.get sc).tick (tickExpires sc))

/-- STATE_CHANGE_AT_DIM_STAGE (R112). -/
def execStateChangeAtDimStage (sc : Screen) (v : Source) (st : SourceState) (s : State) : Result :=
  .next (dimSourceChange sc v st (s.taking (.stateChangeAtDimStage sc v st)))

/-- FADE_REQUEST (R141). -/
def execFadeRequest (sc : Screen) (number : Nat) (s : State) : Result :=
  .next (takeFade sc number (s.taking (.fadeRequest sc number)))

/-- DROP (R144). -/
def execDrop (sc : Screen) (s : State) : Result := .next (takeDrop sc (s.taking (.drop sc)))

/-- SWITCH_AT_DIM_STAGE (R143). -/
def execSwitchAtDimStage (sc : Screen) (source : Option Source) (s : State) : Result :=
  .next (dimSwitch sc source (s.taking (.switchAtDimStage sc source)))

/-- TARGET_REFRESH (R138). -/
def execTargetRefresh (sc : Screen) (s : State) : Result := .next (retarget sc (s.taking (.targetRefresh sc)))

/-- SCREEN_WAKE (R147). -/
def execScreenWake (sc : Screen) (s : State) : Result := .next (dimWake sc (s.taking (.screenWake sc)))

end Sys2Proof.Machine
end

