-- ==== Sys2Proof/Machine/Focus.lean ====
section
/-!
DEFINITION. Focus Control (chapter 4): the keyboard targets, changes of keyboard focus and pointer owner applied whole, and
every cause of such a change.
-/

namespace Sys2Proof.Machine

/-! ## Key events (R63) -/

/-- A key event passed by the matcher (R63). -/
def takePassed (k : Key) (press : Bool) (s : State) : State :=
  if press then
    let s := s.modFcu (fun f => { f with passedKeys := keyInsert k f.passedKeys })
    allPorts.foldl (fun t p => if s.isTarget p then t.hand .fcu (.portKeyPress p k) else t) s
  else
    let s := s.modFcu (fun f => { f with passedKeys := keyErase k f.passedKeys })
    allPorts.foldl
      (fun t p => if s.isTarget p then t.hand .fcu (.portKeyRelease p k) else t.hand .fcu (.ignoreRelease p k)) s

/-! ## Applying a change whole (R65, R66) -/

/-- A target refresh to each Dim Stage. -/
def refreshDims (s : State) : State := s.handEachScreen .fcu .targetRefresh

/-- The leave and join indications by which the keyboard targets go from those of `before` to those of `s` (R65, step 4,
R75). -/
def leaveJoin (before s : State) : State :=
  allPorts.foldl (fun t p =>
    if before.isTarget p && !s.isTarget p then t.hand .fcu (.leaveIndication p)
    else if !before.isTarget p && s.isTarget p then t.hand .fcu (.joinIndication p s.fcu.passedKeys)
    else t) s

/-- A wake request for a new keyboard focus whose port is Suspended with wake armed (R65, step 6). -/
def wakeFocus (c : Option Computer) (s : State) : State :=
  match c with
  | none => s
  | some c =>
    if (s.cpe.get c).linkState = .suspended ∧ (s.cpe.get c).wakeArmed = true then s.hand .fcu (.wakeRequest c) else s

/-- A home-record request for the old keyboard focus, when the cause moves the cursor (R65, step 1). -/
def askHome (old : Option Computer) (jump : Bool) (s : State) : State :=
  match old with
  | none => s
  | some f => if jump then s.hand .fcu (.homeRecordRequest f) else s

/-- A jump request naming the new keyboard focus, when the cause moves the cursor (R65, step 5). -/
def askJump (new : Option Computer) (cause : FocusCause) (jump : Bool) (s : State) : State :=
  match new with
  | none => s
  | some c => if jump then s.hand .fcu (.jumpRequest c cause) else s

/-- A change of keyboard focus (R65, R67). `jump` says that the cause moves the cursor, `keepSlot` that the change is the
firing of a momentary Focus or is made at a jump answer. -/
def changeFocus (new : Option Computer) (cause : FocusCause) (jump keepSlot : Bool) (s : State) : State :=
  if s.fcu.focus = new then s else
  let s := askHome s.fcu.focus jump s
  let t := s.modFcu (fun f => { f with
    slot := if keepSlot then f.slot else none, focus := new, lastCause := cause })
  let t := wakeFocus new (askJump new cause jump (leaveJoin s t))
  (refreshDims (t.hand .fcu (.ledTrigger .focusChange))).raise .fcu .focusChanged

/-- A change of keyboard focus to a computer with a jump, which is asked for whatever the focus is (R67, R69). -/
def focusTo (c : Computer) (cause : FocusCause) (keepSlot : Bool) (s : State) : State :=
  if s.fcu.focus = some c then s.hand .fcu (.jumpRequest c cause) else changeFocus (some c) cause true keepSlot s

/-- The latest report handed to a port and not taken yet, or else the last that its engine holds (R66, step 1). -/
def State.lastHanded (s : State) (p : Port) : Option PointerReport :=
  s.handoffs.foldl (fun r h =>
    match h.cmd with
    | .portPointerReport q x => if q = p then some x else r
    | _ => r) (s.cpe.get p).lastReport

/-- The old pointer owner is handed a buttons-released report where one is due, and its pointer-ignore set empties (R66,
step 1). -/
def releaseOwner (old : Option Computer) (s : State) : State :=
  match old with
  | none => s
  | some p =>
    let due := (Flags.minus s.passedButtons (s.cpe.get p).pointerIgnored).any
    let s :=
      match s.lastHanded p with
      | some r =>
        if due then s.hand .fcu (.portPointerReport p { r with buttons := Flags.none, wheel := 0 }) else s
      | none => s
    s.modCpe p (fun e => { e with pointerIgnored := Flags.none })

/-- The held buttons join the new pointer owner's pointer-ignore set (R66, step 2). -/
def claimOwner (new : Option Computer) (s : State) : State :=
  match new with
  | none => s
  | some p => s.modCpe p (fun e => { e with pointerIgnored := Flags.union s.passedButtons e.pointerIgnored })

/-- A change of pointer owner (R66, R67). `notice` says that a cursor notice is handed. -/
def changeOwner (new : Option Computer) (cause : FocusCause) (notice : Bool) (s : State) : State :=
  if s.fcu.owner = new then s else
  let s := claimOwner new (releaseOwner s.fcu.owner s)
  let s := s.modFcu (fun f => { f with owner := new, lastCause := cause })
  let s := if notice then s.hand .fcu .cursorNotice else s
  (refreshDims s).raise .fcu .focusChanged

/-- The pointer owner is recomputed (R64). -/
def recomputeOwner (cause : FocusCause) (notice : Bool) (s : State) : State :=
  changeOwner (s.screenOwner s.glu.screen) cause notice s

/-- The keyboard focus follows a pointer owner that has changed to a computer, with no jump. A change is one of the record: a
crossing onto another owner's screen that finds that owner recorded already leaves the focus (R68, log 56). -/
def followOwner (cause : FocusCause) (before s : State) : State :=
  match s.fcu.owner with
  | some c => if before.fcu.owner = some c then s else changeFocus (some c) cause false false s
  | none => s

/-! ## The causes of change (R68 to R73) -/

/-- A cursor-screen change (R68, R78). -/
def cursorScreenChanged (c : CursorCause) (s : State) : State :=
  match c with
  | .glide => followOwner .glide s (recomputeOwner .glide false s)
  | .management =>
    let t := recomputeOwner .management false s
    if t.fcu.lock then t else followOwner .management s t
  | .restart =>
    let t := recomputeOwner .restart true s
    match t.fcu.owner with
    | some c => changeFocus (some c) .restart false false t
    | none => t

/-- The answer to a jump request (R69). -/
def jumpAnswered (c : Computer) (cause : FocusCause) (landing : Option Screen) (s : State) : State :=
  match landing with
  | none => s
  | some _ =>
    let t := recomputeOwner cause true s
    let t := if t.fcu.owner = s.fcu.owner then t.hand .fcu .cursorNotice else t
    if t.fcu.owner = some c then changeFocus (some c) cause false true t else t

/-- What a switch or an owner write on the cursor screen does (R72): the owner is recomputed, the Glide Unit is noticed in
every case, and with lock off the keyboard focus follows. -/
def cursorScreenRouted (cause : FocusCause) (s : State) : State :=
  let t := recomputeOwner cause true s
  let t := if t.fcu.owner = s.fcu.owner then t.hand .fcu .cursorNotice else t
  if t.fcu.lock then t else followOwner cause s t

/-- A switch notice (R72). -/
def switchNoticed (sc : Screen) (s : State) : State :=
  refreshDims (if sc = s.glu.screen then cursorScreenRouted .route s else s)

/-- A source-table write that changes a source's owner, and perhaps its absolute rectangle too (R72, R104): the cursor screen's
active source is noticed in any case, and the cursor source for its new rectangle. -/
def sourceOwnerWritten (v : Source) (rectangle : Bool) (s : State) : State :=
  refreshDims
    (if s.active s.glu.screen = some v then cursorScreenRouted .management s
    else if rectangle = true ∧ s.glu.source = some v then s.hand .fcu .cursorNotice
    else s)

/-- A source-table write that changes only a source's absolute rectangle (R72, R104). -/
def sourceRectangleWritten (v : Source) (s : State) : State :=
  if s.active s.glu.screen = some v ∨ s.glu.source = some v then s.hand .fcu .cursorNotice else refreshDims s

/-- A layout completion (R73), or the restart completion of the start layout (R78). -/
def layoutCompleted (f : FocusField) (restart : Bool) (s : State) : State :=
  let cause : FocusCause := if restart then .restart else .layout
  match f with
  | .keep => if restart then changeFocus s.fcu.owner .restart false false s else s
  | .follow =>
    match s.fcu.owner with
    | some c => changeFocus (some c) cause false false s
    | none => if restart then changeFocus none .restart false false s else s
  | .computer c => focusTo c cause false s

/-- A candidate of Focus Next and Focus Previous (R70). -/
def isCandidate (s : State) (p : Port) : Bool :=
  match (s.cpe.get p).linkState with
  | .active | .recovering => true
  | .suspended => (s.cpe.get p).wakeArmed
  | .detached | .settling | .stalled | .waking => false

/-- The ports in the order in which Focus Next looks at them, the keyboard focus left out (R70). -/
def nextOrder (f : Option Computer) : List Port :=
  match f with
  | none => allPorts
  | some f => allPorts.filter (fun p => decide (f < p)) ++ allPorts.filter (fun p => decide (p < f))

/-- The ports in the order in which Focus Previous looks at them, the keyboard focus left out (R70). -/
def previousOrder (f : Option Computer) : List Port := (nextOrder f).reverse

/-- The keyboard focus steps to the first candidate of an order (R70). -/
def stepFocus (order : List Port) (s : State) : State :=
  match order.find? (isCandidate s) with
  | some c => focusTo c .hotkey false s
  | none => s

/-- A momentary Focus (R71). -/
def momentary (c : Computer) (s : State) : State :=
  focusTo c .hotkey true (s.modFcu (fun f => { f with slot := some f.focus }))

/-- The momentary return (R71). -/
def momentaryReturned (s : State) : State :=
  match s.fcu.slot with
  | none => s
  | some v =>
    let s := s.modFcu (fun f => { f with slot := none })
    match v with
    | some c => focusTo c .hotkey false s
    | none => changeFocus none .hotkey false false s

/-- A Set Focus request (R69). -/
def setFocusTo (c : Option Computer) (s : State) : State :=
  match c with
  | some c => focusTo c .management false s
  | none => changeFocus none .management false false s

/-! ## Lock, broadcast and dim override (R74 to R76) -/

/-- A Lock action (R74). -/
def toggleLock (s : State) : State := (s.modFcu (fun f => { f with lock := !f.lock })).raise .fcu .focusChanged

/-- A Broadcast action (R75). -/
def toggleBroadcast (s : State) : State :=
  refreshDims ((leaveJoin s (s.modFcu (fun f => { f with broadcast := !f.broadcast }))).raise .fcu .focusChanged)

/-- Dim override is asked to a value (R76). -/
def setOverride (b : Bool) (s : State) : State :=
  if s.fcu.dimOverride = b then s
  else (refreshDims (s.modFcu (fun f => { f with dimOverride := b }))).raise .fcu .focusChanged

/-! ## The commands -/

/-- PASSED_EVENT (R63). -/
def execPassedEvent (k : Key) (press : Bool) (s : State) : Result :=
  .next (takePassed k press (s.taking (.passedEvent k press)))

/-- FOCUS (R69). -/
def execFocus (c : Computer) (s : State) : Result := .next (focusTo c .hotkey false (s.taking (.focus c)))

/-- FOCUS_NEXT (R70). -/
def execFocusNext (s : State) : Result := .next (stepFocus (nextOrder s.fcu.focus) (s.taking .focusNext))

/-- FOCUS_PREVIOUS (R70). -/
def execFocusPrevious (s : State) : Result := .next (stepFocus (previousOrder s.fcu.focus) (s.taking .focusPrevious))

/-- MOMENTARY_FOCUS (R71). -/
def execMomentaryFocus (c : Computer) (s : State) : Result := .next (momentary c (s.taking (.momentaryFocus c)))

/-- MOMENTARY_RETURN (R71). -/
def execMomentaryReturn (s : State) : Result := .next (momentaryReturned (s.taking .momentaryReturn))

/-- LOCK (R74). -/
def execLock (s : State) : Result := .next (toggleLock (s.taking .lock))

/-- BROADCAST (R75). -/
def execBroadcast (s : State) : Result := .next (toggleBroadcast (s.taking .broadcast))

/-- DIM_OVERRIDE (R76): the tap action toggles. -/
def execDimOverride (s : State) : Result := .next (setOverride (!s.fcu.dimOverride) (s.taking .dimOverride))

/-- DIM_OVERRIDE_HOLD (R76). -/
def execDimOverrideHold (s : State) : Result := .next (setOverride true (s.taking .dimOverrideHold))

/-- DIM_OVERRIDE_RELEASE (R76). -/
def execDimOverrideRelease (s : State) : Result := .next (setOverride false (s.taking .dimOverrideRelease))

/-- CURSOR_SCREEN_CHANGE (R68, R78). -/
def execCursorScreenChange (c : CursorCause) (s : State) : Result :=
  .next (cursorScreenChanged c (s.taking (.cursorScreenChange c)))

/-- JUMP_ANSWER (R69). -/
def execJumpAnswer (c : Computer) (cause : FocusCause) (landing : Option Screen) (s : State) : Result :=
  .next (jumpAnswered c cause landing (s.taking (.jumpAnswer c cause landing)))

/-- SWITCH_NOTICE (R72). -/
def execSwitchNotice (sc : Screen) (s : State) : Result := .next (switchNoticed sc (s.taking (.switchNotice sc)))

/-- LAYOUT_COMPLETION (R73, R78). -/
def execLayoutCompletion (f : FocusField) (restart : Bool) (s : State) : Result :=
  .next (layoutCompleted f restart (s.taking (.layoutCompletion f restart)))

end Sys2Proof.Machine
end

