-- ==== Sys2Proof/Machine/Glide.lean ====
section
/-!
DEFINITION. The Glide Unit (chapter 3): eligibility, the glide arithmetic, crossings and pressure, absolute mapping, pointer
reports, home records and jumps, and what a placement write does under the cursor.
-/

namespace Sys2Proof.Machine

/-! ## Rectangles and eligibility (R42, R43, R45, R49) -/

/-- Does a signed point lie inside the rectangle of a screen entry? -/
def insideScreen (e : ScreenEntry) (x y : Int) : Bool :=
  decide ((e.x : Int) ≤ x) && decide (x < e.x + e.w) && decide ((e.y : Int) ≤ y) && decide (y < e.y + e.h)

/-- A signed coordinate clamped into a span (R49). -/
def clampCoord (lo size : Nat) (v : Int) : Nat :=
  if v < lo then lo else if (lo + size : Int) ≤ v then lo + size - 1 else v.toNat

/-- A signed point clamped into the rectangle of a screen entry (R49). -/
def clampInto (e : ScreenEntry) (x y : Int) : Pos := { x := clampCoord e.x e.w x, y := clampCoord e.y e.h y }

/-- The centre of a screen entry's rectangle. -/
def centre (e : ScreenEntry) : Pos := { x := e.x + e.w / 2, y := e.y + e.h / 2 }

/-- May the cursor enter a screen that belongs to a port (R43)? -/
def portEnterable (s : State) (p : Port) : Bool :=
  match (s.cpe.get p).linkState with
  | .settling | .active | .recovering | .waking | .stalled => true
  | .suspended => (s.portEntry p).wakeOnGlide && (s.cpe.get p).wakeArmed
  | .detached => false

/-- Is a screen eligible (R43)? -/
def eligible (s : State) (sc : Screen) : Bool :=
  (s.screenEntry sc).placed &&
    match s.screenOwner sc with
    | none => false
    | some c => portEnterable s c

/-- The placed screen in which a signed point lies; there is at most one (R39). -/
def screenAt (s : State) (x y : Int) : Option Screen :=
  allScreens.find? (fun sc => (s.screenEntry sc).placed && insideScreen (s.screenEntry sc) x y)

/-! ## Pointer reports (R53, R54) -/

/-- The cursor mapped into the absolute rectangle of a source (R53). -/
def mapCursor (s : State) (v : Source) : Nat × Nat :=
  let a := s.tables.sources.get v
  let e := s.screenEntry s.glu.screen
  (a.x0 + (s.glu.pos.x - e.x) * a.w / e.w, a.y0 + (s.glu.pos.y - e.y) * a.h / e.h)

/-- The pointer report of the current cursor to a port, with buttons less the port's pointer-ignore set (R54). -/
def reportFor (s : State) (v : Source) (p : Port) (held : Buttons) (wheel : Int) : PointerReport :=
  { absX := (mapCursor s v).1, absY := (mapCursor s v).2
    buttons := Flags.minus held (s.cpe.get p).pointerIgnored, wheel := wheel }

/-- A report is built and handed to the owner of the cursor source, as the Glide Unit holds it (R60), when that owner is the
pointer owner; otherwise it is discarded (R54). -/
def buildReport (held : Buttons) (wheel : Int) (s : State) : State :=
  match s.glu.source, s.glu.sourceOwner with
  | some v, some p =>
    if s.fcu.owner = some p then s.hand .glu (.portPointerReport p (reportFor s v p held wheel)) else s
  | none, _ => s
  | some _, none => s

/-- Buttons released on the console leave every port's pointer-ignore set (R66). -/
def dropIgnored (released : Buttons) (s : State) : State :=
  allPorts.foldl (fun s p => s.modCpe p (fun e => { e with pointerIgnored := Flags.minus e.pointerIgnored released })) s

/-! ## Cursor-screen changes taken within the event (R50, R59, R69) -/

/-- Focus Control takes one input from the Glide Unit. -/
def takeFromGlide (c : Instr) (s : State) : State :=
  match c with
  | .cursorScreenChange cause => cursorScreenChanged cause (s.taking c)
  | .jumpAnswer n cause landing => jumpAnswered n cause landing (s.taking c)
  | _ => s

/-- Focus Control takes what the Glide Unit has handed it before, in the order handed. -/
def takeGlideInputs (s : State) : State :=
  (s.handoffs.filter (fun h => decide (h.src = .glu))).foldl (fun t h => takeFromGlide h.cmd t) s

/-! ## The glide (R44 to R50) -/

/-- The scaled motion of an axis and its new residue (R44). -/
def scaled (d : Int) (gain : Nat) (residue : Int) : Int × Int :=
  let t := d * gain + residue
  let move := t.tdiv 256
  (move, t - 256 * move)

/-- The pressure record becomes absent and its timer stops. -/
def clearPressure (s : State) : State := s.modGlu (fun g => { g with pressure := none, pressureHold := none })

/-- The cursor is clamped into the cursor screen (R49). -/
def clampCursor (x y : Int) (s : State) : State :=
  s.modGlu (fun g => { g with pos := clampInto (s.screenEntry g.screen) x y })

/-- A home record is set to the cursor screen and position as they stand (R57). -/
def setHome (c : Computer) (s : State) : State :=
  s.modGlu (fun g => { g with homes := g.homes.set c (some { screen := g.screen, pos := g.pos }) })

/-- The cursor leaves a screen for one of another owner: the home record of the owner left is set (R57). -/
def leaveHome (onto : Option Computer) (s : State) : State :=
  match s.screenOwner s.glu.screen with
  | none => s
  | some c => if onto = some c then s else setHome c s

/-- The cursor is put at a place on a screen, with residues 0 and no pressure (R50, R58). -/
def putCursor (sc : Screen) (pos : Pos) (s : State) : State :=
  s.modGlu (fun g => { g with
    pos := pos, screen := sc, source := s.active sc, sourceOwner := s.screenOwner sc, residueX := 0, residueY := 0
    pressure := none, pressureHold := none })

/-- A wake request for a screen's port when it is Suspended (R50, step 5). -/
def wakeCrossed (sc : Screen) (s : State) : State :=
  match s.screenOwner sc with
  | none => s
  | some c => if (s.cpe.get c).linkState = .suspended then s.hand .glu (.wakeRequest c) else s

/-- A crossing onto a screen (R50, steps 1 to 5). Focus Control takes what the Glide Unit handed it before on the cursor screen
as it stands before the crossing, so that the crossing decides (R69), and the cursor-screen change within the event. -/
def crossOnto (sc : Screen) (x y : Int) (s : State) : State :=
  let s := takeGlideInputs s
  wakeCrossed sc
    (cursorScreenChanged .glide (putCursor sc { x := x.toNat, y := y.toNat } (leaveHome (s.screenOwner sc) s)))

/-- The excess of a coordinate beyond a span (R48). -/
def excess (lo size : Nat) (v : Int) : Nat :=
  if v < lo then (lo - v).toNat else if (lo + size : Int) ≤ v then (v - (lo + size - 1)).toNat else 0

/-- The overshoot of a point beyond a screen (R48). -/
def overshoot (e : ScreenEntry) (x y : Int) : Nat := max (excess e.x e.w x) (excess e.y e.h y)

/-- The amount stored toward a screen (R48, steps 1 and 2). -/
def storedPressure (g : Glu) (sc : Screen) : Nat :=
  match g.pressure with
  | some r => if r.target = sc then r.amount else 0
  | none => 0

/-- A push toward a screen of another owner is weighed (R48). -/
def weighPush (sc : Screen) (x y : Int) (s : State) : State :=
  let amount := storedPressure s.glu sc + overshoot (s.screenEntry s.glu.screen) x y
  if s.tables.desk.crossingResistance ≤ amount then crossOnto sc x y s
  else
    (clampCursor x y s).modGlu (fun g => { g with
      pressure := some { target := sc, amount := amount }
      pressureHold := s.after (ms s.tables.desk.pressureHold) })

/-- The candidate position lies on another eligible screen (R47). -/
def pushOnto (sc : Screen) (held : Buttons) (x y : Int) (s : State) : State :=
  if s.screenOwner sc = s.screenOwner s.glu.screen then crossOnto sc x y s
  else if held.any || s.fcu.lock then clampCursor x y s
  else weighPush sc x y s

/-- The candidate position is classified and acted on (R45). -/
def classify (held : Buttons) (x y : Int) (s : State) : State :=
  match screenAt s x y with
  | some sc =>
    if sc = s.glu.screen then clearPressure (s.modGlu (fun g => { g with pos := { x := x.toNat, y := y.toNat } }))
    else if eligible s sc then pushOnto sc held x y s
    else clearPressure (clampCursor x y s)
  | none => clearPressure (clampCursor x y s)

/-- The glide of an event with motion (R44, R45). -/
def glide (e : PointerEvent) (s : State) : State :=
  let mx := scaled e.dx s.tables.desk.glideGain s.glu.residueX
  let my := scaled e.dy s.tables.desk.glideGain s.glu.residueY
  let s := s.modGlu (fun g => { g with residueX := mx.2, residueY := my.2 })
  classify e.held (s.glu.pos.x + mx.1) (s.glu.pos.y + my.1) s

/-- A pointer event (R45, R54). -/
def takePointerEvent (e : PointerEvent) (s : State) : State :=
  let s := dropIgnored e.released s
  let t := if e.dx = 0 ∧ e.dy = 0 then s else glide e s
  if decide (t.glu.pos ≠ s.glu.pos) || e.pressed.any || e.released.any || decide (e.wheel ≠ 0) then
    buildReport e.held e.wheel t
  else t

/-! ## Notices, jumps and home records (R56 to R58) -/

/-- A report of the cursor as it stands, with the console buttons passed and a wheel of 0 (R56, R59). -/
def reportStanding (s : State) : State := buildReport s.passedButtons 0 s

/-- A cursor notice (R56). -/
def takeCursorNotice (s : State) : State :=
  reportStanding (s.modGlu (fun g => { g with source := s.active g.screen, sourceOwner := s.screenOwner g.screen }))

/-- May a jump to a computer land on a screen (R58)? -/
def landable (s : State) (c : Computer) (sc : Screen) : Bool := eligible s sc && decide (s.screenOwner sc = some c)

/-- The landing at the centre of the lowest-numbered screen of a computer (R58, step 2). -/
def centreLanding (s : State) (c : Computer) : Option (Screen × Pos) :=
  (allScreens.find? (landable s c)).map (fun sc => (sc, centre (s.screenEntry sc)))

/-- The landing of a jump (R58): the home record, else the centre of the lowest-numbered screen, else none. -/
def landingOf (s : State) (c : Computer) : Option (Screen × Pos) :=
  match s.glu.homes.get c with
  | some h =>
    if landable s c h.screen then
      some (h.screen, clampInto (s.screenEntry h.screen) h.pos.x h.pos.y)
    else centreLanding s c
  | none => centreLanding s c

/-- A jump request (R58). -/
def takeJump (c : Computer) (cause : FocusCause) (s : State) : State :=
  match landingOf s c with
  | some (sc, pos) => (putCursor sc pos (leaveHome (some c) s)).hand .glu (.jumpAnswer c cause (some sc))
  | none => s.hand .glu (.jumpAnswer c cause none)

/-- A home-record request (R57): the owner of the cursor source is the one that the Glide Unit holds (R60, log 39). -/
def takeHomeRequest (c : Computer) (s : State) : State :=
  if s.glu.sourceOwner = some c then setHome c s else s

/-! ## Placement writes and restarts (R59, R61, R62) -/

/-- The cursor goes to the centre of the lowest-numbered placed screen. -/
def cursorToLowest (s : State) : State :=
  let sc := s.lowestPlaced.getD 0
  s.modGlu (fun g => { g with
    pos := centre (s.screenEntry sc), screen := sc, source := s.active sc, sourceOwner := s.screenOwner sc, residueX := 0
    residueY := 0 })

/-- The cursor screen is unplaced (R59): Focus Control takes what the Glide Unit handed it before, and the cursor-screen change
of the move within the event. The manual gives the report that follows no event, and so no buttons and no wheel of R54: that it
carries the passed console buttons and a wheel of 0 is log 55. -/
def cursorUnplaced (s : State) : State :=
  reportStanding (cursorScreenChanged .management (cursorToLowest (takeGlideInputs s)))

/-- What an accepted write that changes the placement of a screen does (R59); the entry is already stored. -/
def placementWritten (sc : Screen) (s : State) : State :=
  let s := clearPressure s
  if sc ≠ s.glu.screen then s
  else if (s.screenEntry sc).placed then
    let t := clampCursor s.glu.pos.x s.glu.pos.y s
    if t.glu.pos = s.glu.pos then t else reportStanding t
  else cursorUnplaced s

/-- The Glide Unit at Reset, when the load has ended, and at Desk Restart (R61, R62). -/
def glideRestart (s : State) : State :=
  ((cursorToLowest (clearPressure s)).modGlu (fun g => { g with homes := Tab.fill none })).hand .glu
    (.cursorScreenChange .restart)

/-! ## The commands -/

/-- POINTER_EVENT (R45). -/
def execPointerEvent (e : PointerEvent) (s : State) : Result := .next (takePointerEvent e (s.taking (.pointerEvent e)))

/-- CURSOR_NOTICE (R56). -/
def execCursorNotice (s : State) : Result := .next (takeCursorNotice (s.taking .cursorNotice))

/-- JUMP_REQUEST (R58). -/
def execJumpRequest (c : Computer) (cause : FocusCause) (s : State) : Result :=
  .next (takeJump c cause (s.taking (.jumpRequest c cause)))

/-- HOME_RECORD_REQUEST (R57). -/
def execHomeRecordRequest (c : Computer) (s : State) : Result :=
  .next (takeHomeRequest c (s.taking (.homeRecordRequest c)))

/-- PRESSURE_HOLD_TIMER_EXPIRY (R51). -/
def execPressureHoldTimerExpiry (s : State) : Result := .next (s.onExpiry s.glu.pressureHold clearPressure)

end Sys2Proof.Machine
end

