-- ==== Sys2Proof/Machine/Console.lean ====
section
/-!
DEFINITION. The Console Input Port (chapter 1): console attachments, keyboard reports and key events, pointer reports, the
diversion of input while the desk is asleep, and console LED reports.
-/

namespace Sys2Proof.Machine

/-! ## Console LED reports (R11, R12) -/

/-- The LED state built for the console: that of the keyboard focus when its port is Active, else all off (R11). -/
def State.builtLamps (s : State) : Lamps :=
  match s.fcu.focus with
  | none => Flags.none
  | some c => if (s.cpe.get c).linkState = .active then (s.cpe.get c).lamps else Flags.none

/-- Sends an LED report and records it as the LED state last sent. -/
def State.sendLed (s : State) : State :=
  let lamps := s.builtLamps
  (s.send (.led lamps)).modCip (fun c => { c with ledLast := some lamps })

/-- A trigger after the first: nothing when Detached or when the state built equals the state last sent (R12). -/
def ledUpdate (s : State) : State :=
  if s.cip.keyboardAttached = true ∧ s.cip.ledLast ≠ some s.builtLamps then s.sendLed else s

/-- Does a trigger concern the console: a focus change always, a port's event when it has the focus (R12)? -/
def ledConcerns (c : LedCause) (s : State) : Bool :=
  match c with
  | .focusChange => true
  | .port p => decide (s.fcu.focus = some p)

/-- LED_TRIGGER (R12): a trigger is taken. -/
def takeLedTrigger (c : LedCause) (s : State) : State := if ledConcerns c s then ledUpdate s else s

/-! ## Keyboard reports and key events (R2 to R6, R13) -/

/-- A rollover report has an error usage in a slot (R3). -/
def isRollover (r : KeyboardReport) : Bool := r.slots.cells.any (fun u => decide (1 ≤ u ∧ u ≤ 3))

/-- The modifiers whose flags are set, in order. -/
def flaggedModifiers (r : KeyboardReport) : KeySet :=
  ((List.finRange 8).filter (fun i => r.modifiers.get i)).map (fun i => 224 + i.val)

/-- The new held set of a report (R2): its flagged modifiers, and the slots that hold an ordinary key or a modifier. -/
def newHeldSet (r : KeyboardReport) : KeySet :=
  keyUnion (r.slots.cells.filter (fun u => isOrdinary u || isModifier u)) (flaggedModifiers r)

/-- The differences of a new held set from the held set, in the order of R4: releases, then presses, each ascending. -/
def heldDifferences (held new : KeySet) : List ConsoleWork :=
  (keyMinus held new).map (fun k => .event k false) ++ (keyMinus new held).map (fun k => .event k true)

/-- Is a key event handed to the matcher and not taken yet (R4)? A press diverted to the Wake Controller keeps no later report or
event waiting (log 47). -/
def State.keyEventInFlight (s : State) : Bool :=
  s.handoffs.any (fun h => match h.cmd with
    | .keyEvent _ => true
    | _ => false)

/-- The matcher enters Idle: tap counter 0, every timer stopped, no holding entry (section 2.3). -/
def matcherIdle (s : State) : State :=
  s.modHkm (fun h => { h with
    state := .idle, tapCounter := 0, tapWindow := none, sequence := none, hold := none, holding := none })

/-- The keyboard-detached indication is taken (R35). -/
def matcherDetached (s : State) : State :=
  (matcherIdle s).modHkm (fun h => { h with buffer := [], consumed := [] })

/-- Is a hand-off a keyboard-detached indication? -/
def isIndication (h : Handoff) : Bool := decide (h.cmd = .keyboardDetachedIndication)

/-- The matcher takes the keyboard-detached indications handed to it before, so that its clearing does not come after the
keys of the baseline (R13, R35, log 1). -/
def takeIndications (s : State) : State :=
  if s.handoffs.any isIndication then
    matcherDetached { s with handoffs := s.handoffs.filter (fun h => !isIndication h) }
  else s

/-- The baseline (R13): the held set without events, whose keys the matcher consumes. -/
def takeBaseline (keys : KeySet) (s : State) : State :=
  ((takeIndications s).modCip (fun c => { c with held := keys, baseline := false })).modHkm
    (fun h => { h with consumed := keys })

/-- Emits one key event (R4): it is applied to the held set, and handed to the matcher with the held set; a press while
the desk-asleep flag is set goes to the Wake Controller instead (R10). -/
def emitKeyEvent (k : Key) (press : Bool) (s : State) : State :=
  let held := if press then keyInsert k s.cip.held else keyErase k s.cip.held
  let s := s.modCip (fun c => { c with held := held })
  if press && s.wkc.deskAsleep then s.hand .cip (.deskWakeInput (some k))
  else s.hand .cip (.keyEvent { key := k, press := press, held := held })

/-- A keyboard report is compared (R3, R4, R13): a rollover report is ignored whole; the first other report after Reset is
the baseline, whose keys the matcher consumes; any other report puts its key events in hand. -/
def compareReport (r : KeyboardReport) (s : State) : State :=
  if s.cip.keyboardAttached = false ∨ isRollover r = true then s
  else if s.cip.baseline then takeBaseline (newHeldSet r) s
  else s.modCip (fun c => { c with work := heldDifferences c.held (newHeldSet r) ++ c.work })

/-- A keyboard detach is taken (R5): releases of every held key in hand, then the indication. -/
def takeDetach (s : State) : State :=
  if s.cip.keyboardAttached then
    s.modCip (fun c => { c with
      keyboardAttached := false, work := c.held.map (fun k => .event k false) ++ .indication :: c.work })
  else s

/-- The end of a detach (R5): the keyboard-detached indication, and the LED state last sent becomes absent. -/
def endDetach (s : State) : State :=
  (s.hand .cip .keyboardDetachedIndication).modCip (fun c => { c with ledLast := none })

/-- A keyboard attach is taken (R6): the held set is empty and an LED report is sent whatever was sent before. -/
def takeAttach (s : State) : State :=
  if s.cip.keyboardAttached then s
  else (s.modCip (fun c => { c with keyboardAttached := true, held := [] })).sendLed

/-- The Console Input Port takes the pieces of work at the head that are no key event, while none is being handed (R4): a report
is compared as soon as the last event of the report before has been taken. The first argument bounds the recursion. -/
def consoleRun : Nat → State → State
  | 0, s => s
  | n + 1, s =>
    if s.keyEventInFlight then s else
    match s.cip.work with
    | [] => s
    | .event _ _ :: _ => s
    | .indication :: ws => consoleRun n (endDetach (s.modCip (fun c => { c with work := ws })))
    | .report r :: ws => consoleRun n (compareReport r (s.modCip (fun c => { c with work := ws })))
    | .detach :: ws => consoleRun n (takeDetach (s.modCip (fun c => { c with work := ws })))
    | .attach :: ws => consoleRun n (takeAttach (s.modCip (fun c => { c with work := ws })))

/-- The work that waits for nothing but key events is taken. -/
def consoleSettles (s : State) : State := consoleRun (2 * s.cip.work.length + 1) s

/-- The key event next in hand is emitted, when none is being handed (R4). -/
def emitNext (s : State) : State :=
  if s.keyEventInFlight then s else
  match s.cip.work with
  | .event k press :: ws => emitKeyEvent k press (s.modCip (fun c => { c with work := ws }))
  | _ => s

/-- The Console Input Port goes on with its work: it emits at most one key event, each being handed only after the matcher has
taken the one before (R4), and each press reading the desk-asleep flag anew (R10). -/
def consoleGoesOn (s : State) : State := consoleSettles (emitNext (consoleSettles s))

/-- Can the Console Input Port go on: has it work in hand and nothing to wait for? -/
def State.consoleReady (s : State) : Bool := !s.cip.work.isEmpty && !s.keyEventInFlight

/-- New work behind the work in hand. A keyboard attach too waits behind the events of a report or the releases of a detach that
are still being handed, which the manual leaves open (log 41). -/
def consoleAdd (w : ConsoleWork) (s : State) : State :=
  consoleGoesOn (s.modCip (fun c => { c with work := c.work ++ [w] }))

/-- Is a piece of work a held report (R5)? -/
def isHeldReport : ConsoleWork → Bool
  | .report _ => true
  | .event _ _ | .indication | .detach | .attach => false

/-! ## Pointer reports (R7 to R10) -/

/-- A signed value saturated to a limit on either side (R7). -/
def saturate (limit v : Int) : Int := if v < -limit then -limit else if limit < v then limit else v

/-- The states of buttons 1 to 5 of a report (R7). -/
def reportedButtons (r : ConsolePointerReport) : Buttons := Tab.make (fun i : Fin 5 => decide (i.val + 1 ∈ r.buttons))

/-- The buttons with a mark. -/
def marked (m : ButtonMark) (b : Tab 5 ButtonMark) : Buttons := b.map (fun x => decide (x = m))

/-- The marks after a report: a newly pressed button takes the given mark, a released one none (R7, R10). -/
def newMarks (m : ButtonMark) (reported : Buttons) (b : Tab 5 ButtonMark) : Tab 5 ButtonMark :=
  Tab.zip (fun held old => if held then (if old = .up then m else old) else .up) reported b

/-- The pointer event of a report, on the marks before it (R8). -/
def pointerEventOf (r : ConsolePointerReport) (before : Tab 5 ButtonMark) : PointerEvent :=
  { dx := saturate 2047 r.dx
    dy := saturate 2047 r.dy
    wheel := saturate 127 r.wheel
    held := marked .passed (newMarks .passed (reportedButtons r) before)
    pressed := Flags.inter (reportedButtons r) (marked .up before)
    released := Flags.minus (marked .passed before) (reportedButtons r) }

/-- Is there something to hand on (R8)? -/
def eventMatters (e : PointerEvent) : Bool :=
  decide (e.dx ≠ 0) || decide (e.dy ≠ 0) || e.pressed.any || e.released.any || decide (e.wheel ≠ 0)

/-- Is a report a desk-wake input while the desk is asleep: motion or a newly pressed button (R10)? -/
def wakesDesk (e : PointerEvent) : Bool := decide (e.dx ≠ 0) || decide (e.dy ≠ 0) || e.pressed.any

/-- POINTER_REPORT (R7, R8, R10). A report that comes while the Glide Unit has not taken the event before is taken at once, on the held
buttons and the desk-asleep flag as they stand, and its event is handed behind the other: the manual gives a hold to keyboard reports
only, and the model's choice is that pointer reports have none (log 51). A button held through Reset is a newly pressed one of the first report, and goes on as such when
the pointer owner is set by then and its port has settled (R13, log 48). -/
def takePointerReport (r : ConsolePointerReport) (s : State) : State :=
  if s.cip.pointerAttached = false then s else
  let e := pointerEventOf r s.cip.buttons
  if s.wkc.deskAsleep && wakesDesk e then
    (s.modCip (fun c => { c with buttons := newMarks .swallowed (reportedButtons r) c.buttons })).hand .cip
      (.deskWakeInput none)
  else
    let s := s.modCip (fun c => { c with buttons := newMarks .passed (reportedButtons r) c.buttons })
    if eventMatters e then s.hand .cip (.pointerEvent e) else s

/-- A pointer detach (R9): the held buttons empty, and one final event releases the passed ones. -/
def detachPointer (s : State) : State :=
  if s.cip.pointerAttached = false then s else
  let held := s.passedButtons
  let s := s.modCip (fun c => { c with pointerAttached := false, buttons := Tab.fill .up })
  if held.any then
    s.hand .cip (.pointerEvent
      { dx := 0, dy := 0, wheel := 0, held := Flags.none, pressed := Flags.none, released := held })
  else s

/-- A pointer attach (R9): the held buttons are empty. -/
def attachPointer (s : State) : State :=
  if s.cip.pointerAttached then s
  else s.modCip (fun c => { c with pointerAttached := true, buttons := Tab.fill .up })

/-! ## The commands -/

/-- KEYBOARD_ATTACH (R1, R6): not before the settings load ends. -/
def execKeyboardAttach (s : State) : Result := .next (if s.loading then s else consoleAdd .attach s)

/-- KEYBOARD_DETACH (R5): a report that nothing holds any longer is compared first, and the reports held behind the events in hand
are discarded. -/
def execKeyboardDetach (s : State) : Result :=
  .next (consoleAdd .detach
    ((consoleSettles s).modCip (fun c => { c with work := c.work.filter (fun w => !isHeldReport w) })))

/-- POINTER_ATTACH (R1, R9): not before the settings load ends. -/
def execPointerAttach (s : State) : Result := .next (if s.loading then s else attachPointer s)

/-- POINTER_DETACH (R9). -/
def execPointerDetach (s : State) : Result := .next (detachPointer s)

/-- KEYBOARD_REPORT (R4). -/
def execKeyboardReport (r : KeyboardReport) (s : State) : Result := .next (consoleAdd (.report r) s)

/-- POINTER_REPORT (R7). -/
def execPointerReport (r : ConsolePointerReport) (s : State) : Result := .next (takePointerReport r s)

/-- LED_TRIGGER (R12). -/
def execLedTrigger (c : LedCause) (s : State) : Result := .next (takeLedTrigger c (s.taking (.ledTrigger c)))

end Sys2Proof.Machine
end

