-- ==== Sys2Proof/Machine/Hotkeys.lean ====
section
/-!
DEFINITION. The Hotkey Matcher (chapter 2): matching of entries, the five matcher states, the firing and reverting of
actions, and what tables, attachments and desk wake do to the matcher.
-/

namespace Sys2Proof.Machine

/-! ## Matching (R19) -/

/-- A condition on a logical modifier is satisfied by a carried held set (R19). -/
def conditionMet (c : Condition) (isHeld : Bool) : Bool :=
  match c with
  | .any => true
  | .held => isHeld
  | .notHeld => !isHeld

/-- A press of a key with a carried held set matches an entry of a path (R19). -/
def entryMatches (path : HotkeyPath) (k : Key) (held : KeySet) (e : HotkeyEntry) : Bool :=
  e.valid && decide (e.path = path) && decide (e.key = k)
  && (List.finRange 4).all (fun i => conditionMet (e.conditions.get i) (logicalHeld i.val held))

/-- The entry of a path that a press matches; at most one does (R17). -/
def State.findEntry (s : State) (path : HotkeyPath) (k : Key) (held : KeySet) : Option EntryNo :=
  allEntries.find? (fun n => entryMatches path k held (s.tables.hotkeys.get n))

/-! ## Firing and reverting (R30 to R33) -/

/-- Screen argument 0 is the cursor screen, read at the firing (R32). -/
def State.resolveScreen (s : State) (sc : Option Screen) : Screen := sc.getD s.glu.screen

/-- An action fires: it is handed to the block that owns its kind, with its arguments resolved (R31, R32). `held` says
that it fires as a hold action (R33). -/
def fireAction (n : EntryNo) (held : Bool) (a : Action) (s : State) : State :=
  match a with
  | .focus c => s.hand .hkm (if held then .momentaryFocus c else .focus c)
  | .focusNext => s.hand .hkm .focusNext
  | .focusPrevious => s.hand .hkm .focusPrevious
  | .layout l => s.hand .hkm (.layout l)
  | .route sc t => s.hand .hkm (.route (s.resolveScreen sc) t)
  | .share o sc => s.hand .hkm (.share o (s.resolveScreen sc))
  | .shareOff o => s.hand .hkm (.shareOff o)
  | .peek v sc => s.hand .hkm (.peek v (s.resolveScreen sc) n held)
  | .wake (some c) => s.hand .hkm (.wakeRequest c)
  | .wake none =>
    match s.screenOwner s.glu.screen with
    | some c => s.hand .hkm (.wakeRequest c)
    | none => s
  | .wakeAll => allPorts.foldl (fun s p => s.hand .hkm (.wakeRequest p)) s
  | .lock => s.hand .hkm .lock
  | .broadcast => s.hand .hkm .broadcast
  | .dimOverride => s.hand .hkm (if held then .dimOverrideHold else .dimOverride)
  | .deskSleep => s.hand .hkm .deskSleepAction

/-- The revert of a hold action (R33); the other kinds are not allowed as hold actions (R31). -/
def revertAction (n : EntryNo) (a : Action) (s : State) : State :=
  match a with
  | .focus _ => s.hand .hkm .momentaryReturn
  | .peek _ _ => s.hand .hkm (.peekRevert n)
  | .dimOverride => s.hand .hkm .dimOverrideRelease
  | .focusNext | .focusPrevious | .layout _ | .route _ _ | .share _ _ | .shareOff _ | .wake _ | .wakeAll | .lock
  | .broadcast | .deskSleep => s

/-! ## Moves of the matcher -/

/-- A passed event goes on to Focus Control (R30). -/
def passEvent (k : Key) (press : Bool) (s : State) : State := s.hand .hkm (.passedEvent k press)

/-- The withheld events are delivered, oldest first, and the buffer empties (R24). -/
def deliverBuffer (s : State) : State :=
  (s.hkm.buffer.foldl (fun s e => passEvent e.1 e.2 s) s).modHkm (fun h => { h with buffer := [] })

/-- A key joins the consumed set (R21). -/
def consumeKey (k : Key) (s : State) : State := s.modHkm (fun h => { h with consumed := keyInsert k h.consumed })

/-- The matcher enters Sequence: the buffer is empty and the sequence timer starts (R22, R23). -/
def enterSequence (s : State) : State :=
  s.modHkm (fun h => { h with
    state := .sequence, buffer := [], tapCounter := 0, tapWindow := none,
    sequence := s.after (ms s.tables.desk.sequenceTimeout) })

/-- The matcher enters Counting at the first press of the prefix key (R22). -/
def enterCounting (k : Key) (s : State) : State :=
  s.modHkm (fun h => { h with
    state := .counting, buffer := h.buffer ++ [(k, true)], tapCounter := 1,
    tapWindow := s.after (ms s.tables.desk.tapWindow) })

/-- The matcher enters Holding on an entry: it copies both actions and starts the hold timer (R22, R26). -/
def enterHolding (n : EntryNo) (e : HotkeyEntry) (s : State) : State :=
  s.modHkm (fun h => { h with
    state := .holding, tapCounter := 0, tapWindow := none, sequence := none,
    hold := s.after (ms s.tables.desk.holdThreshold),
    holding := some { entry := n, key := e.key, tap := e.tap, hold := e.hold } })

/-- A press matched an entry: it is consumed, and the entry's tap action fires, or the matcher enters Holding (R22,
R26). -/
def matchedPress (n : EntryNo) (k : Key) (s : State) : State :=
  let e := s.tables.hotkeys.get n
  match e.hold with
  | none => matcherIdle (fireAction n false e.tap (consumeKey k s))
  | some _ => enterHolding n e (consumeKey k s)

/-- A press taken in Idle (R22). -/
def pressIdle (k : Key) (held : KeySet) (s : State) : State :=
  if k = s.tables.desk.prefixKey then
    if s.tables.desk.tapCount = 1 then enterSequence (consumeKey k s) else enterCounting k s
  else
    match s.findEntry .direct k held with
    | some n => matchedPress n k s
    | none => passEvent k true s

/-- A press taken in Counting (R23, R25). -/
def pressCounting (k : Key) (held : KeySet) (s : State) : State :=
  if k = s.tables.desk.prefixKey then
    if s.hkm.tapCounter + 1 = s.tables.desk.tapCount then enterSequence (consumeKey k s)
    else s.modHkm (fun h => { h with tapCounter := h.tapCounter + 1, buffer := h.buffer ++ [(k, true)] })
  else if isModifier k then passEvent k true s
  else pressIdle k held (matcherIdle (deliverBuffer s))

/-- A press taken in Sequence (R26). -/
def pressSequence (k : Key) (held : KeySet) (s : State) : State :=
  if k = s.tables.desk.prefixKey then matcherIdle (passEvent k true s)
  else if isModifier k then passEvent k true s
  else
    match s.findEntry .prefixed k held with
    | some n => matchedPress n k s
    | none => matcherIdle ((consumeKey k s).modHkm (fun h => { h with misses := bump h.misses }))

/-- The tap action of the holding entry fires from its copy, and the matcher enters Idle (R28). -/
def fireHoldingTap (s : State) : State :=
  match s.hkm.holding with
  | some e => matcherIdle (fireAction e.entry false e.tap s)
  | none => matcherIdle s

/-- A press taken in Holding (R28). -/
def pressHolding (k : Key) (held : KeySet) (s : State) : State :=
  if isModifier k then passEvent k true s else pressIdle k held (fireHoldingTap s)

/-- A press taken by the matcher, by its state. -/
def takePress (k : Key) (held : KeySet) (s : State) : State :=
  match s.hkm.state with
  | .idle => pressIdle k held s
  | .counting => pressCounting k held s
  | .sequence => pressSequence k held s
  | .holding => pressHolding k held s
  | .held => passEvent k true s

/-- The release of the holding entry's key ends the hold: in Holding its tap action fires (R28), in Held the hold action
is reverted (R29). -/
def endHold (k : Key) (s : State) : State :=
  match s.hkm.holding with
  | none => s
  | some e =>
    if e.key ≠ k then s else
    match s.hkm.state with
    | .holding => fireHoldingTap s
    | .held =>
      match e.hold with
      | some a => matcherIdle (revertAction e.entry a s)
      | none => matcherIdle s
    | .idle | .counting | .sequence => s

/-- A release taken by the matcher (R21 to R29). -/
def takeRelease (k : Key) (s : State) : State :=
  if k ∈ s.hkm.consumed then
    endHold k (s.modHkm (fun h => { h with consumed := keyErase k h.consumed }))
  else if s.hkm.state = .counting ∧ k = s.tables.desk.prefixKey then
    s.modHkm (fun h => { h with buffer := h.buffer ++ [(k, false)] })
  else passEvent k false s

/-- The matcher takes one key event whole (R20). -/
def takeKeyEvent (e : KeyEvent) (s : State) : State :=
  if e.press then takePress e.key e.held s else takeRelease e.key s

/-- The tap window timer expires in Counting (R24). -/
def tapWindowExpires (s : State) : State :=
  if s.hkm.state = .counting then matcherIdle (deliverBuffer s) else s.modHkm (fun h => { h with tapWindow := none })

/-- The sequence timer expires in Sequence (R27). -/
def sequenceExpires (s : State) : State :=
  if s.hkm.state = .sequence then matcherIdle s else s.modHkm (fun h => { h with sequence := none })

/-- The hold timer expires in Holding (R28): the hold action fires and the matcher enters Held. -/
def holdExpires (s : State) : State :=
  if s.hkm.state = .holding then
    let s := s.modHkm (fun h => { h with state := .held, hold := none })
    match s.hkm.holding.bind (fun e => e.hold.map (fun a => (e.entry, a))) with
    | some (n, a) => fireAction n true a s
    | none => s
  else s.modHkm (fun h => { h with hold := none })

/-- An accepted write of a hotkey entry, or of the prefix key, tap count or tap window: Counting and Sequence go to Idle,
Counting with the withheld events delivered first (R34). -/
def matcherTablesChanged (s : State) : State :=
  match s.hkm.state with
  | .counting => matcherIdle (deliverBuffer s)
  | .sequence => matcherIdle s
  | .idle | .holding | .held => s

/-- The matcher at a Desk Restart, with the handed set of keys still held (R37). -/
def matcherRestart (held : KeySet) (s : State) : State :=
  (matcherIdle s).modHkm (fun h => { h with buffer := [], consumed := held })

/-- A consume request: the key joins the consumed set when it is still held on the console (R38). -/
def takeConsume (k : Key) (s : State) : State := if k ∈ s.cip.held then consumeKey k s else s

/-! ## The commands -/

/-- KEY_EVENT (R20): the matcher takes the event, and the Console Input Port hands its next one (R4). -/
def execKeyEvent (e : KeyEvent) (s : State) : Result :=
  .next (consoleGoesOn (takeKeyEvent e (s.taking (.keyEvent e))))

/-- TAP_WINDOW_EXPIRY (R24). -/
def execTapWindowExpiry (s : State) : Result := .next (s.onExpiry s.hkm.tapWindow tapWindowExpires)

/-- SEQUENCE_TIMER_EXPIRY (R27). -/
def execSequenceTimerExpiry (s : State) : Result := .next (s.onExpiry s.hkm.sequence sequenceExpires)

/-- HOLD_TIMER_EXPIRY (R28). -/
def execHoldTimerExpiry (s : State) : Result := .next (s.onExpiry s.hkm.hold holdExpires)

/-- KEYBOARD_DETACHED_INDICATION (R35). -/
def execKeyboardDetachedIndication (s : State) : Result :=
  .next (matcherDetached (s.taking .keyboardDetachedIndication))

/-- CONSUME_REQUEST (R38). -/
def execConsumeRequest (k : Key) (s : State) : Result := .next (takeConsume k (s.taking (.consumeRequest k)))

end Sys2Proof.Machine
end

