-- ==== Sys2Proof/Machine/Operands.lean ====
section
/-!
DEFINITION. The fields of a table write as they arrive, and their checks (R177, step 3): each check answers none for a
RANGE fault, and otherwise the entry to store, with whether a field was clamped (R15, R16, R39, R41, R80, R103,
R117, R126, R127, R135, R160, R180).
-/

namespace Sys2Proof.Machine

/-! ## Numbers in fields (R187, "Named values") -/

/-- An on/off or yes/no field: 1 or 0; any other number is out of its range (log 19). -/
def readBool (n : Nat) : Option Bool :=
  if n = 0 then some false else if n = 1 then some true else none

/-- A number that must lie within a range. -/
def inRange (lo hi n : Nat) : Option Nat := if lo ≤ n ∧ n ≤ hi then some n else none

/-- A member of a run numbered from 1. -/
def numbered (k : Nat) (n : Nat) : Option (Fin k) := if h : 1 ≤ n ∧ n ≤ k then some ⟨n - 1, by omega⟩ else none

/-- A member of a run numbered from 1, or 0 for none of them; anything else is out of range. -/
def noneOrNumbered (k : Nat) (n : Nat) : Option (Option (Fin k)) :=
  if n = 0 then some none else (numbered k n).map some

/-- A number clamped to the nearer limit of its range. -/
def clampNat (lo hi n : Nat) : Nat := if n < lo then lo else if hi < n then hi else n

/-- The clamp of the notice pacing: 0 stays off, 1 to 9 become 10, above 2550 becomes 2550 (R180). -/
def clampPacing (n : Nat) : Nat := if n = 0 then 0 else clampNat 10 2550 n

/-! ## The six tables -/

/-- Checks and clamps of a desk record: R15, R41, R75, R126, R135, R160, R180. -/
def checkDesk (r : RawDesk) : Option (DeskRecord × Bool) := do
  let prefixKey ← inRange 4 221 r.prefixKey
  let tapCount ← inRange 1 3 r.tapCount
  let glideGain ← inRange 16 4096 r.glideGain
  let crossingResistance ← inRange 0 4095 r.crossingResistance
  let mask ← inRange 0 63 r.broadcastMask
  let startLayout ← numbered 16 r.startLayout
  let deskWakeWakes ← readBool r.deskWakeWakes
  let e : DeskRecord :=
    { prefixKey := prefixKey, tapCount := tapCount
      tapWindow := clampNat 100 1000 r.tapWindow
      sequenceTimeout := clampNat 500 5000 r.sequenceTimeout
      holdThreshold := clampNat 200 2000 r.holdThreshold
      glideGain := glideGain, crossingResistance := crossingResistance
      pressureHold := clampNat 50 2000 r.pressureHold
      broadcastMask := natFlags 6 mask
      routeHoldLimit := clampNat 100 5000 r.routeHoldLimit
      startLayout := startLayout
      dimFloor := clampNat 0 255 r.dimFloor
      unfocusedLevel := clampNat 0 255 r.unfocusedLevel
      rampRate := clampNat 1 255 r.rampRate
      screenSleepDelay := clampNat 1 60 r.screenSleepDelay
      wakeTimeout := clampNat 500 10000 r.wakeTimeout
      wakeRetries := clampNat 0 3 r.wakeRetries
      recoveryTime := clampNat 5 200 r.recoveryTime
      deskWakeWakes := deskWakeWakes
      noticePacing := clampPacing r.noticePacing }
  let clamped : Bool :=
    decide (e.tapWindow ≠ r.tapWindow) || decide (e.sequenceTimeout ≠ r.sequenceTimeout)
    || decide (e.holdThreshold ≠ r.holdThreshold) || decide (e.pressureHold ≠ r.pressureHold)
    || decide (e.routeHoldLimit ≠ r.routeHoldLimit) || decide (e.dimFloor ≠ r.dimFloor)
    || decide (e.unfocusedLevel ≠ r.unfocusedLevel) || decide (e.rampRate ≠ r.rampRate)
    || decide (e.screenSleepDelay ≠ r.screenSleepDelay) || decide (e.wakeTimeout ≠ r.wakeTimeout)
    || decide (e.wakeRetries ≠ r.wakeRetries) || decide (e.recoveryTime ≠ r.recoveryTime)
    || decide (e.noticePacing ≠ r.noticePacing)
  return (e, clamped)

/-- Checks and clamps of a port entry (R80). -/
def checkPort (r : RawPort) : Option (PortEntry × Bool) := do
  let enabled ← readBool r.enabled
  let managementAllowed ← readBool r.managementAllowed
  let wakeOnGlide ← readBool r.wakeOnGlide
  let wakeOnKey ← readBool r.wakeOnKey
  let settlePolls ← inRange 0 15 r.settlePolls
  let stallTimeout := clampNat 100 5000 r.stallTimeout
  return ({ enabled := enabled, managementAllowed := managementAllowed, wakeOnGlide := wakeOnGlide
            wakeOnKey := wakeOnKey, settlePolls := settlePolls, stallTimeout := stallTimeout },
          decide (stallTimeout ≠ r.stallTimeout))

/-- Checks of a source entry (R103). -/
def checkSource (r : RawSource) : Option SourceEntry := do
  let owner ← noneOrNumbered 6 r.owner
  let x0 ← inRange 0 32767 r.x0
  let y0 ← inRange 0 32767 r.y0
  let w ← inRange 1 32768 r.w
  let h ← inRange 1 32768 r.h
  let _ ← inRange 0 32768 (x0 + w)
  let _ ← inRange 0 32768 (y0 + h)
  let priv ← readBool r.priv
  return { owner := owner, x0 := x0, y0 := y0, w := w, h := h, priv := priv }

/-- A switch mode as carried: Frame 0, Immediate 1. -/
def readSwitchMode (n : Nat) : Option SwitchMode :=
  if n = 0 then some .frame else if n = 1 then some .immediate else none

/-- Range checks of a screen entry (R39, R117). -/
def checkScreen (r : RawScreen) : Option ScreenEntry := do
  let placed ← readBool r.placed
  let w ← inRange 64 65535 r.w
  let h ← inRange 64 65535 r.h
  let _ ← inRange 0 65536 (r.x + w)
  let _ ← inRange 0 65536 (r.y + h)
  let switchLine ← inRange 0 4095 r.switchLine
  let switchMode ← readSwitchMode r.switchMode
  let fade ← readBool r.fade
  return { placed := placed, x := r.x, y := r.y, w := w, h := h, switchLine := switchLine
           switchMode := switchMode, fade := fade }

/-- Do two screen rectangles overlap: do their x spans and their y spans share a unit (section 3.1)? -/
def overlap (a b : ScreenEntry) : Bool :=
  decide (a.x < b.x + b.w) && decide (b.x < a.x + a.w) && decide (a.y < b.y + b.h) && decide (b.y < a.y + a.h)

/-- The CONFLICT checks of a screen entry against the seven others (R39). -/
def screenConflict (t : Tables) (sc : Screen) (e : ScreenEntry) : Bool :=
  let others := allScreens.filter (fun o => decide (o ≠ sc) && (t.screens.get o).placed)
  if e.placed then others.any (fun o => overlap e (t.screens.get o)) else others.isEmpty

/-- A route field as carried: Keep 0, None 1, V1 to V16 2 to 17 (R187). -/
def readRouteField (n : Nat) : Option RouteField :=
  if n = 0 then some .keep else if n = 1 then some (.to none) else (numbered 16 (n - 1)).map (fun v => .to (some v))

/-- A focus field as carried: Keep 0, Follow 1, C1 to C6 2 to 7 (R187). -/
def readFocusField (n : Nat) : Option FocusField :=
  if n = 0 then some .keep else if n = 1 then some .follow else (numbered 6 (n - 1)).map .computer

/-- Every cell of a table of readings, or none when one is out of range. -/
def allRead {n : Nat} {α : Type} (a : α) (t : Tab n (Option α)) : Option (Tab n α) :=
  if t.cells.all Option.isSome then some (t.map (fun o => o.getD a)) else none

/-- Checks of a layout entry (R127). -/
def checkLayout (r : RawLayout) : Option LayoutEntry := do
  let routes ← allRead .keep (r.routes.map readRouteField)
  let focus ← readFocusField r.focus
  return { routes := routes, focus := focus }

/-- An action as written, with the ranges of the table of R31; an argument given to a kind that takes none is a
RANGE fault. -/
def checkAction (r : RawAction) : Option Action :=
  let bare (a : Action) : Option Action := if r.arg1 = 0 ∧ r.arg2 = 0 then some a else none
  let one {α : Type} (arg : Option α) (f : α → Action) : Option Action := if r.arg2 = 0 then arg.map f else none
  let two {α β : Type} (x : Option α) (y : Option β) (f : α → β → Action) : Option Action := do
    let x ← x
    let y ← y
    return f x y
  match r.kind with
  | 0 => one (numbered 6 r.arg1) .focus
  | 1 => bare .focusNext
  | 2 => bare .focusPrevious
  | 3 => one (numbered 16 r.arg1) .layout
  | 4 => two (noneOrNumbered 8 r.arg1) (noneOrNumbered 16 r.arg2) .route
  | 5 => two (numbered 2 r.arg1) (noneOrNumbered 8 r.arg2) .share
  | 6 => one (numbered 2 r.arg1) .shareOff
  | 7 => two (numbered 16 r.arg1) (noneOrNumbered 8 r.arg2) .peek
  | 8 => one (noneOrNumbered 6 r.arg1) .wake
  | 9 => bare .wakeAll
  | 10 => bare .lock
  | 11 => bare .broadcast
  | 12 => bare .dimOverride
  | 13 => bare .deskSleep
  | _ => none

/-- The kinds allowed as hold actions (R31). -/
def holdAllowed : Action → Bool
  | .focus _ | .peek _ _ | .dimOverride => true
  | .focusNext | .focusPrevious | .layout _ | .route _ _ | .share _ _ | .shareOff _ | .wake _ | .wakeAll | .lock
  | .broadcast | .deskSleep => false

/-- A condition as carried: Any 0, Held 1, NotHeld 2 (R187). -/
def readCondition (n : Nat) : Option Condition :=
  if n = 0 then some .any else if n = 1 then some .held else if n = 2 then some .notHeld else none

/-- A path as carried: Prefixed 0, Direct 1 (R187). -/
def readPath (n : Nat) : Option HotkeyPath :=
  if n = 0 then some .prefixed else if n = 1 then some .direct else none

/-- The hold action of a hotkey entry as written: absent, or present with an allowed kind (R16). A presence byte that is neither 0
nor 1 is RANGE (log 19). -/
def checkHold (r : RawHotkey) : Option (Option Action) := do
  let present ← readBool r.holdPresent
  if present then
    let a ← checkAction r.hold
    if holdAllowed a then return some a else none
  else return none

/-- RANGE checks of a hotkey entry (R16). -/
def checkHotkey (r : RawHotkey) : Option HotkeyEntry := do
  let valid ← readBool r.valid
  let path ← readPath r.path
  let key ← inRange 4 221 r.key
  let conditions ← allRead .any (r.conditions.map readCondition)
  let tap ← checkAction r.tap
  let hold ← checkHold r
  return { valid := valid, path := path, key := key, conditions := conditions, tap := tap, hold := hold }

/-- Two conditions are compatible unless one is Held and the other NotHeld (R17). -/
def compatible : Condition → Condition → Bool
  | .held, .notHeld => false
  | .notHeld, .held => false
  | .held, .held => true
  | .held, .any => true
  | .notHeld, .notHeld => true
  | .notHeld, .any => true
  | .any, _ => true

/-- Two hotkey entries conflict (R17). -/
def entriesConflict (a b : HotkeyEntry) : Bool :=
  a.valid && b.valid && decide (a.path = b.path) && decide (a.key = b.key)
  && (Tab.zip compatible a.conditions b.conditions).cells.all id

/-- The CONFLICT checks of a hotkey entry written with valid on (R16). -/
def hotkeyConflict (t : Tables) (n : EntryNo) (e : HotkeyEntry) : Bool :=
  e.valid && (decide (e.key = t.desk.prefixKey)
    || allEntries.any (fun m => decide (m ≠ n) && entriesConflict e (t.hotkeys.get m)))

/-- The CONFLICT check of a desk record: its prefix key is the key of a valid hotkey entry (R15). -/
def deskConflict (t : Tables) (e : DeskRecord) : Bool :=
  allEntries.any (fun n => (t.hotkeys.get n).valid && decide ((t.hotkeys.get n).key = e.prefixKey))

end Sys2Proof.Machine
end

