-- ==== Sys2Proof/Machine/Frames.lean ====
section
/-!
DEFINITION. The management frame at the byte level (R186, R187): table entries and Read State sections as bytes, replies
and notice reports as 64-byte frames, and the command that a 64-byte frame from a computer is.
-/

namespace Sys2Proof.Machine

/-! ## Numbers as bytes, low byte first (R186) -/

/-- A number of one byte. -/
def num1 (n : Nat) : List Byte := [BitVec.ofNat 8 n]
/-- A number of two bytes. -/
def num2 (n : Nat) : List Byte := [BitVec.ofNat 8 n, BitVec.ofNat 8 (n / 256)]
/-- A number of three bytes. -/
def num3 (n : Nat) : List Byte := [BitVec.ofNat 8 n, BitVec.ofNat 8 (n / 256), BitVec.ofNat 8 (n / 65536)]
/-- An on/off or yes/no field. -/
def flagByte (b : Bool) : List Byte := num1 (if b then 1 else 0)
/-- A member of a run numbered from 1. -/
def numberByte {n : Nat} (i : Fin n) : List Byte := num1 (i.val + 1)
/-- None, or a member of a run numbered from 1. -/
def noneOrByte {n : Nat} (o : Option (Fin n)) : List Byte :=
  match o with
  | none => num1 0
  | some i => num1 (i.val + 1)
/-- An optional field: 0 when absent, and 1 before the field when present (log 17). -/
def optionalBytes {α : Type} (f : α → List Byte) (o : Option α) : List Byte :=
  match o with
  | none => num1 0
  | some a => num1 1 ++ f a
/-- Bytes filled to a length with zeros, and cut there. -/
def padTo (n : Nat) (b : List Byte) : List Byte := b.take n ++ List.replicate (n - b.length) 0

/-! ## Table entries as payload -/

/-- The desk record, in the order of R187. -/
def deskBytes (e : DeskRecord) : List Byte :=
  num1 e.prefixKey ++ num1 e.tapCount ++ num2 e.tapWindow ++ num2 e.sequenceTimeout ++ num2 e.holdThreshold
  ++ num2 e.glideGain ++ num2 e.crossingResistance ++ num2 e.pressureHold ++ num1 (flagsNat e.broadcastMask)
  ++ num2 e.routeHoldLimit ++ numberByte e.startLayout ++ num1 e.dimFloor ++ num1 e.unfocusedLevel ++ num1 e.rampRate
  ++ num1 e.screenSleepDelay ++ num2 e.wakeTimeout ++ num1 e.wakeRetries ++ num1 e.recoveryTime
  ++ flagByte e.deskWakeWakes ++ num2 e.noticePacing

/-- A port entry, in the order of section 5.1. -/
def portBytes (e : PortEntry) : List Byte :=
  flagByte e.enabled ++ flagByte e.managementAllowed ++ flagByte e.wakeOnGlide ++ flagByte e.wakeOnKey
  ++ num1 e.settlePolls ++ num2 e.stallTimeout

/-- A source entry, in the order of section 6.1. -/
def sourceBytes (e : SourceEntry) : List Byte :=
  noneOrByte e.owner ++ num2 e.x0 ++ num2 e.y0 ++ num2 e.w ++ num2 e.h ++ flagByte e.priv

/-- The number of a switch mode. -/
def switchModeNum : SwitchMode → Nat
  | .frame => 0
  | .immediate => 1

/-- A screen entry, in the order of section 3.1. -/
def screenBytes (e : ScreenEntry) : List Byte :=
  flagByte e.placed ++ num2 e.x ++ num2 e.y ++ num2 e.w ++ num2 e.h ++ num2 e.switchLine
  ++ num1 (switchModeNum e.switchMode) ++ flagByte e.fade

/-- The number of a route field: Keep 0, None 1, V1 to V16 2 to 17. -/
def routeFieldNum : RouteField → Nat
  | .keep => 0
  | .to none => 1
  | .to (some v) => v.val + 2

/-- The number of a focus field: Keep 0, Follow 1, C1 to C6 2 to 7. -/
def focusFieldNum : FocusField → Nat
  | .keep => 0
  | .follow => 1
  | .computer c => c.val + 2

/-- A layout entry, in the order of section 7.5. -/
def layoutBytes (e : LayoutEntry) : List Byte :=
  e.routes.cells.flatMap (fun f => num1 (routeFieldNum f)) ++ num1 (focusFieldNum e.focus)

/-- The number of none (0) or of a member of a run. -/
def noneOrNum {n : Nat} (o : Option (Fin n)) : Nat :=
  match o with
  | none => 0
  | some i => i.val + 1

/-- An action as its kind in the order of R31 and two arguments. -/
def actionRaw : Action → RawAction
  | .focus c => ⟨0, c.val + 1, 0⟩
  | .focusNext => ⟨1, 0, 0⟩
  | .focusPrevious => ⟨2, 0, 0⟩
  | .layout l => ⟨3, l.val + 1, 0⟩
  | .route sc t => ⟨4, noneOrNum sc, noneOrNum t⟩
  | .share o sc => ⟨5, o.val + 1, noneOrNum sc⟩
  | .shareOff o => ⟨6, o.val + 1, 0⟩
  | .peek v sc => ⟨7, v.val + 1, noneOrNum sc⟩
  | .wake c => ⟨8, noneOrNum c, 0⟩
  | .wakeAll => ⟨9, 0, 0⟩
  | .lock => ⟨10, 0, 0⟩
  | .broadcast => ⟨11, 0, 0⟩
  | .dimOverride => ⟨12, 0, 0⟩
  | .deskSleep => ⟨13, 0, 0⟩

/-- An action as three bytes. -/
def actionBytes (a : Action) : List Byte :=
  num1 (actionRaw a).kind ++ num1 (actionRaw a).arg1 ++ num1 (actionRaw a).arg2

/-- The number of a path. -/
def pathNum : HotkeyPath → Nat
  | .prefixed => 0
  | .direct => 1

/-- The number of a condition. -/
def conditionNum : Condition → Nat
  | .any => 0
  | .held => 1
  | .notHeld => 2

/-- A hotkey entry, in the order of section 2.2. -/
def hotkeyBytes (e : HotkeyEntry) : List Byte :=
  flagByte e.valid ++ num1 (pathNum e.path) ++ num1 e.key
  ++ e.conditions.cells.flatMap (fun c => num1 (conditionNum c)) ++ actionBytes e.tap ++ optionalBytes actionBytes e.hold

/-! ## Read State sections (R178, R187) -/

/-- The number of a link state, in the order of the table of section 5.2. -/
def linkStateNum : LinkState → Nat
  | .detached => 0
  | .settling => 1
  | .active => 2
  | .stalled => 3
  | .suspended => 4
  | .waking => 5
  | .recovering => 6

/-- The number of a link condition (R81). -/
def linkConditionNum : LinkCondition → Nat
  | .down => 0
  | .up => 1
  | .asleep => 2

/-- The number of a source state (section 6.2). -/
def sourceStateNum : SourceState → Nat
  | .noSignal => 0
  | .acquiring => 1
  | .locked => 2
  | .unstable => 3

/-- The number of a last cause (section 4.1). -/
def focusCauseNum : FocusCause → Nat
  | .glide => 0
  | .hotkey => 1
  | .management => 2
  | .layout => 3
  | .route => 4
  | .restart => 5

/-- The number of a pending's cause (R116). -/
def routeCauseNum : RouteCause → Nat
  | .route => 0
  | .layout => 1
  | .peek => 2
  | .management => 3

/-- The number of a wake phase (section 10.2). -/
def wakePhaseNum : WakePhase → Nat
  | .idle => 0
  | .asked => 1
  | .signalling => 2
  | .recovering => 3

/-- The number of a fade phase (section 8.1). -/
def fadePhaseNum : FadePhase → Nat
  | .normal => 0
  | .fadeOut => 1
  | .fadeWait => 2
  | .fadeIn => 3

/-- The number of a last save result. -/
def saveResultNum : SaveResult → Nat
  | .none => 0
  | .succeeded => 1
  | .failed => 2

/-- The number of a load result. -/
def loadResultNum : LoadResult → Nat
  | .image => 0
  | .factory => 1

/-- Section console: the attachment states. -/
def consoleSection (s : State) : List Byte := flagByte s.cip.keyboardAttached ++ flagByte s.cip.pointerAttached

/-- A position: x and y. -/
def posBytes (p : Pos) : List Byte := num2 p.x ++ num2 p.y

/-- Section focus and cursor: the focus record, then the cursor. -/
def focusSection (s : State) : List Byte :=
  noneOrByte s.fcu.focus ++ noneOrByte s.fcu.owner ++ flagByte s.fcu.lock ++ flagByte s.fcu.broadcast
  ++ flagByte s.fcu.dimOverride ++ optionalBytes noneOrByte s.fcu.slot ++ num1 (focusCauseNum s.fcu.lastCause)
  ++ posBytes s.glu.pos ++ numberByte s.glu.screen ++ noneOrByte s.glu.source
  ++ optionalBytes (fun r : Pressure => numberByte r.target ++ num2 r.amount) s.glu.pressure
  ++ s.glu.homes.cells.flatMap (optionalBytes (fun h : Home => numberByte h.screen ++ posBytes h.pos))

/-- Section ports. The lamps are one byte with one bit each, Num Lock in the lowest (log 45). -/
def portsSection (s : State) : List Byte :=
  allPorts.flatMap fun p =>
    let e := s.cpe.get p
    let w := s.wkc.wakes.get p
    num1 (linkStateNum e.linkState) ++ num1 (linkConditionNum e.link) ++ flagByte e.wakeArmed
    ++ num1 (flagsNat e.lamps) ++ num1 (wakePhaseNum w.phase) ++ num1 w.retries

/-- Section sources (R113). -/
def sourcesSection (s : State) : List Byte :=
  allSources.flatMap fun v =>
    let f := s.fmn.get v
    sourceBytes (s.tables.sources.get v) ++ num1 (sourceStateNum f.state) ++ optionalBytes num3 f.measured
    ++ num1 f.agreement ++ optionalBytes num2 f.lockedPeriod ++ optionalBytes num2 f.linesPerFrame ++ num2 f.currentLine

/-- A pending: target, latched line, cause, quiet, request number (R116). -/
def pendingBytes (p : Pending) : List Byte :=
  noneOrByte p.target ++ num2 p.line ++ num1 (routeCauseNum p.cause) ++ flagByte p.quiet ++ num2 p.number

/-- Section screens. The route hold is one byte, on or off; its timer is not carried (log 45). -/
def screensSection (s : State) : List Byte :=
  (allScreens.flatMap fun sc =>
    let r := s.xpc.routes.get sc
    let d := s.dms.get sc
    noneOrByte r.active ++ optionalBytes pendingBytes r.pending ++ num1 d.level ++ num1 d.target
    ++ num1 (fadePhaseNum d.phase) ++ num1 (if (s.wkc.power.get sc).on then 0 else 1))
  ++ flagByte s.xpc.hold.isSome
  ++ optionalBytes (fun l : LayoutInFlight =>
      numberByte l.number ++ num1 (flagsNat l.outstanding) ++ num1 (focusFieldNum l.focus)) s.xpc.layout
  ++ optionalBytes (fun k : PeekRecord =>
      numberByte k.screen ++ noneOrByte k.back ++ numberByte k.entry ++ flagByte k.held) s.xpc.peek
  ++ flagByte s.wkc.deskAsleep

/-- The mode, followed screen, fixed source and screen source of a share record (section 9.2). -/
def shareModeBytes : ShareMode → List Byte
  | .off => num1 0 ++ num1 0 ++ num1 0 ++ num1 0
  | .follow sc v => num1 1 ++ (num1 1 ++ numberByte sc) ++ num1 0 ++ (num1 1 ++ noneOrByte v)
  | .fixed v => num1 2 ++ num1 0 ++ (num1 1 ++ numberByte v) ++ num1 0

/-- Section shares (R150). -/
def sharesSection (s : State) : List Byte :=
  allOutputs.flatMap fun o =>
    shareModeBytes (s.sou.get o).mode ++ flagByte (s.sou.get o).blanked ++ noneOrByte (s.carried o)

/-- Section settings. -/
def settingsSection (s : State) : List Byte :=
  flagByte s.mfe.save.isSome ++ num1 (saveResultNum s.mfe.lastSave) ++ num1 (loadResultNum s.mfe.loadResult)

/-- The bytes of a section by its number (R187); none when the number names no section. -/
def sectionBytes (s : State) : Nat → Option (List Byte)
  | 1 => some (consoleSection s)
  | 2 => some (focusSection s)
  | 3 => some (portsSection s)
  | 4 => some (sourcesSection s)
  | 5 => some (screensSection s)
  | 6 => some (sharesSection s)
  | 7 => some (settingsSection s)
  | _ => none

/-- A part of a section: 56 bytes, the last padded; none beyond the last (R178). -/
def sectionPart (bytes : List Byte) (part : Nat) : Option (List Byte) :=
  if part * 56 < bytes.length then some (padTo 56 (bytes.drop (part * 56))) else none

/-! ## Replies and notice reports (R186) -/

/-- Reply statuses, numbered from 0 in the order of R176. -/
inductive Status where
  | ok | busy | range | conflict | denied | badreq
deriving DecidableEq, Repr

/-- The number of a status. -/
def statusNum : Status → Nat
  | .ok => 0
  | .busy => 1
  | .range => 2
  | .conflict => 3
  | .denied => 4
  | .badreq => 5

/-- A reply before its bytes are laid out. -/
structure Reply where
  status : Status
  clamped : Bool
  saveFailed : Bool
  payload : List Byte
deriving DecidableEq, Repr

/-- A reply that carries nothing but its status. -/
def plainReply (st : Status) : Reply := { status := st, clamped := false, saveFailed := false, payload := [] }

/-- An OK reply with a payload. -/
def payloadReply (b : List Byte) : Reply := { status := .ok, clamped := false, saveFailed := false, payload := b }

/-- The 64 bytes of a reply: kind 2, the request kind, tag and arguments copied, status, flags, payload. -/
def replyFrame (kind : Nat) (q : Request) (r : Reply) : List Byte :=
  num1 2 ++ num1 kind ++ num1 q.tag ++ num1 (statusNum r.status)
  ++ num1 ((if r.clamped then 1 else 0) + (if r.saveFailed then 2 else 0))
  ++ num1 q.arg1 ++ num1 q.arg2 ++ num1 q.arg3 ++ padTo 56 r.payload

/-- The 64 bytes of a notice report: kind 3, and the notice set in bytes 8 and 9. -/
def noticeFrame (n : NoticeSet) : List Byte := num1 3 ++ List.replicate 7 0 ++ padTo 56 (num2 (flagsNat n))

/-- A frame handed to a port's engine: sent when the port is enabled and its link is Up, else dropped (R97, R174). -/
def State.sendFrame (p : Port) (b : List Byte) (s : State) : State :=
  if (s.portEntry p).enabled ∧ (s.cpe.get p).link = .up then s.send (.frame p b) else s

/-- Is a port Active with management allowed on (R174, R179)? -/
def State.managed (s : State) (p : Port) : Bool :=
  decide ((s.cpe.get p).linkState = .active) && (s.portEntry p).managementAllowed

/-- The whole notice set, handed to every Active management port in port order (R179). -/
def State.noticeReports (s : State) : State :=
  allPorts.foldl (fun t p => if s.managed p then t.sendFrame p (noticeFrame s.mfe.notices) else t) s

/-- The notice report to one port that enters Active, or is given management while Active, when the set holds a kind
the mask holds (R181). -/
def State.noticeCatchUp (p : Port) (s : State) : State :=
  if s.managed p && s.noticesWanted then s.sendFrame p (noticeFrame s.mfe.notices) else s

/-! ## Request frames from a computer (R186, R187) -/

/-- Byte i of a frame or payload, as a number; 0 beyond its end. -/
def byteAt (b : List Byte) (i : Nat) : Nat := (b[i]?.getD 0).toNat

/-- The two-byte number at i. -/
def wordAt (b : List Byte) (i : Nat) : Nat := byteAt b i + 256 * byteAt b (i + 1)

/-- The fields of a desk record in a payload. -/
def readRawDesk (b : List Byte) : RawDesk where
  prefixKey := byteAt b 0
  tapCount := byteAt b 1
  tapWindow := wordAt b 2
  sequenceTimeout := wordAt b 4
  holdThreshold := wordAt b 6
  glideGain := wordAt b 8
  crossingResistance := wordAt b 10
  pressureHold := wordAt b 12
  broadcastMask := byteAt b 14
  routeHoldLimit := wordAt b 15
  startLayout := byteAt b 17
  dimFloor := byteAt b 18
  unfocusedLevel := byteAt b 19
  rampRate := byteAt b 20
  screenSleepDelay := byteAt b 21
  wakeTimeout := wordAt b 22
  wakeRetries := byteAt b 24
  recoveryTime := byteAt b 25
  deskWakeWakes := byteAt b 26
  noticePacing := wordAt b 27

/-- The fields of a port entry in a payload. -/
def readRawPort (b : List Byte) : RawPort where
  enabled := byteAt b 0
  managementAllowed := byteAt b 1
  wakeOnGlide := byteAt b 2
  wakeOnKey := byteAt b 3
  settlePolls := byteAt b 4
  stallTimeout := wordAt b 5

/-- The fields of a source entry in a payload. -/
def readRawSource (b : List Byte) : RawSource where
  owner := byteAt b 0
  x0 := wordAt b 1
  y0 := wordAt b 3
  w := wordAt b 5
  h := wordAt b 7
  priv := byteAt b 9

/-- The fields of a screen entry in a payload. -/
def readRawScreen (b : List Byte) : RawScreen where
  placed := byteAt b 0
  x := wordAt b 1
  y := wordAt b 3
  w := wordAt b 5
  h := wordAt b 7
  switchLine := wordAt b 9
  switchMode := byteAt b 11
  fade := byteAt b 12

/-- The fields of a layout entry in a payload. -/
def readRawLayout (b : List Byte) : RawLayout where
  routes := Tab.make (fun sc : Fin 8 => byteAt b sc.val)
  focus := byteAt b 8

/-- The fields of a hotkey entry in a payload. -/
def readRawHotkey (b : List Byte) : RawHotkey where
  valid := byteAt b 0
  path := byteAt b 1
  key := byteAt b 2
  conditions := Tab.make (fun i : Fin 4 => byteAt b (3 + i.val))
  tap := { kind := byteAt b 7, arg1 := byteAt b 8, arg2 := byteAt b 9 }
  holdPresent := byteAt b 10
  hold := { kind := byteAt b 11, arg1 := byteAt b 12, arg2 := byteAt b 13 }

/-- The command that a 64-byte frame arriving on a port is: a request of R187, or BADREQ when its frame kind is not
request, or it names no request, no table or no section (R174). The bytes that a request gives as 0 are not looked at (log 44). -/
def frameCommand (p : Port) (b : List Byte) : Instr :=
  let q : Request := { port := p, tag := byteAt b 2, arg1 := byteAt b 5, arg2 := byteAt b 6, arg3 := byteAt b 7 }
  let body := b.drop 8
  let bad : Instr := .badReq q (byteAt b 1)
  if byteAt b 0 ≠ 1 then bad else
  match byteAt b 1 with
  | 1 => if 1 ≤ q.arg1 ∧ q.arg1 ≤ 6 then .readEntry q else bad
  | 2 =>
    match q.arg1 with
    | 1 => .writeDeskRecord q (readRawDesk body)
    | 2 => .writePortEntry q (readRawPort body)
    | 3 => .writeSourceEntry q (readRawSource body)
    | 4 => .writeScreenEntry q (readRawScreen body)
    | 5 => .writeLayoutEntry q (readRawLayout body)
    | 6 => .writeHotkeyEntry q (readRawHotkey body)
    | _ => bad
  | 3 => .routeScreen q
  | 4 => .recallLayout q
  | 5 => .setFocus q
  | 6 =>
    match q.arg2 with
    | 0 => .setShareOff q
    | 1 => .setShareFollow q
    | _ => .setShareFixed q
  | 7 => .wake q
  | 8 => .deskSleep q
  | 9 => .holdRoutes q
  | 10 => .releaseRoutes q
  | 11 => if 1 ≤ q.arg1 ∧ q.arg1 ≤ 7 then .readState q else bad
  | 12 => .readNotices q
  | 13 => .setNoticeMask q (natFlags 16 (wordAt body 0))
  | 14 =>
    match q.arg1 with
    | 0 => .readCountersLatch q
    | 1 => .readCountersLatchAndClear q
    | _ => .readCountersRepeat q
  | 15 => .saveSettings q
  | 16 => .deskRestart q
  | _ => bad

end Sys2Proof.Machine
end

