-- ==== Sys2Proof/Machine/Ports.lean ====
section
/-!
DEFINITION. The Computer Port Engines (chapter 5): link events and link states, polls, keys and pointer reports to a port,
the two queues, stalls, and what a port table write does to a port.
-/

namespace Sys2Proof.Machine

/-! ## The queues (R94, R95, R98) -/

/-- A snapshot of a set of keys (R94); the set is in ascending order. -/
def snapshotOf (keys : KeySet) : Snapshot := { modifiers := keys.filter isModifier, keys := keys.filter isOrdinary }

/-- The stall timer starts with the port's stall timeout (R98). -/
def startStall (p : Port) (s : State) : State :=
  s.modCpe p (fun e => { e with stall := s.after (ms (s.portEntry p).stallTimeout) })

/-- Are both queues of a port empty? -/
def queuesEmpty (e : Cpe) : Bool := e.keyQueue.isEmpty && e.pointerQueue.isEmpty

/-- The stall timer starts when an entry has been queued on an Active port whose queues were both empty before (R98). -/
def startStallIf (before : Cpe) (p : Port) (s : State) : State :=
  if before.linkState = .active ∧ queuesEmpty before = true then startStall p s else s

/-- A queue with its newest entry replaced. -/
def replaceNewest {α : Type} (a : α) (q : List α) : List α := q.dropLast ++ [a]

/-- A snapshot is queued: it joins the queue, or replaces the newest entry of a full one, which counts (R94). -/
def queueSnapshot (p : Port) (x : Snapshot) (s : State) : State :=
  let e := s.cpe.get p
  if e.keyQueue.length < queueCapacity then
    startStallIf e p (s.modCpe p (fun e => { e with keyQueue := e.keyQueue ++ [x] }))
  else
    ((s.modCpe p (fun e => { e with keyQueue := replaceNewest x e.keyQueue })).modCounters p
      (fun c => { c with keysCoalesced := bump c.keysCoalesced })).raise (.cpe p) .inputCoalesced

/-- A wheel value saturated to -127 to 127 (R95). -/
def saturateWheel (v : Int) : Int := if v < -127 then -127 else if 127 < v then 127 else v

/-- A report merged into an entry: the report's position and buttons, and the sum of the wheels (R95). -/
def mergeReport (entry r : PointerReport) : PointerReport := { r with wheel := saturateWheel (entry.wheel + r.wheel) }

/-- A pointer report is queued by the merging rules of R95. -/
def queueReport (p : Port) (r : PointerReport) (s : State) : State :=
  let e := s.cpe.get p
  let join := startStallIf e p (s.modCpe p (fun e => { e with pointerQueue := e.pointerQueue ++ [r] }))
  match e.pointerQueue.getLast? with
  | none => join
  | some newest =>
    let merged := s.modCpe p (fun e => { e with pointerQueue := replaceNewest (mergeReport newest r) e.pointerQueue })
    if newest.buttons = r.buttons then merged
    else if e.pointerQueue.length < queueCapacity then join
    else
      (merged.modCounters p (fun c => { c with clicksCoalesced := bump c.clicksCoalesced })).raise (.cpe p) .inputCoalesced

/-! ## Changes of link state (R82 to R88) -/

/-- The link state becomes another: PortChanged is raised, the console is handed an LED trigger when the port enters or
leaves Active, and the Wake Controller is handed the change (R82). -/
def moveLink (p : Port) (st : LinkState) (s : State) : State :=
  let old := (s.cpe.get p).linkState
  if old = st then s else
  let s := (s.modCpe p (fun e => { e with linkState := st })).raise (.cpe p) .portChanged
  let s := if old = .active ∨ st = .active then s.hand (.cpe p) (.ledTrigger (.port p)) else s
  s.hand (.cpe p) (.linkStateChange p st)

/-- A flush (R86). -/
def flushed (e : Cpe) : Cpe :=
  { e with keyQueue := [], pointerQueue := [], ignored := keyUnion e.reported e.ignored, reported := [], stall := none }

/-- Step 1 of entering Active: an empty keyboard queue receives a snapshot of the reported set (R85). -/
def frontSnapshot (p : Port) (s : State) : State :=
  s.modCpe p (fun e => if e.keyQueue.isEmpty then { e with keyQueue := [snapshotOf e.reported] } else e)

/-- Step 2 of entering Active: the pointer owner's empty pointer queue receives the last position, wheel 0 (R85). -/
def frontReport (p : Port) (s : State) : State :=
  if s.fcu.owner = some p then
    s.modCpe p (fun e =>
      match e.lastReport with
      | some r => if e.pointerQueue.isEmpty then { e with pointerQueue := [{ r with wheel := 0 }] } else e
      | none => e)
  else s

/-- Step 3 of entering Active: the stall timer starts when a queue is not empty (R85). -/
def frontStall (p : Port) (s : State) : State := if queuesEmpty (s.cpe.get p) then s else startStall p s

/-- Entering Active (R85), with the notice report that a management port is then owed (R181). -/
def enterActive (p : Port) (s : State) : State :=
  (frontStall p (frontReport p (frontSnapshot p (moveLink p .active s)))).noticeCatchUp p

/-- Entering Settling: at once Active when the settle polls are 0 (R84). -/
def enterSettling (p : Port) (s : State) : State :=
  let s := moveLink p .settling (s.modCpe p (fun e => { e with settle := 0 }))
  if (s.portEntry p).settlePolls = 0 then enterActive p s else s

/-- The sets of a port that is re-taken: the keys passed and held, and the console buttons passed and held (R83). -/
def setUpSets (p : Port) (s : State) : State :=
  s.modCpe p (fun e => { e with ignored := s.fcu.passedKeys, pointerIgnored := s.passedButtons })

/-- An enabled port is re-taken from Detached by its link condition (R83). -/
def retake (p : Port) (s : State) : State :=
  if (s.portEntry p).enabled = false ∨ (s.cpe.get p).linkState ≠ .detached then s else
  match (s.cpe.get p).link with
  | .down => s
  | .up => enterSettling p (setUpSets p s)
  | .asleep => moveLink p .suspended (setUpSets p s)

/-- What Detached empties (R88); the last pointer report and the counters are kept. -/
def emptied (e : Cpe) : Cpe :=
  { e with
    keyQueue := [], pointerQueue := [], reported := [], ignored := [], pointerIgnored := Flags.none
    settle := 0, stall := none }

/-- A port goes to Detached (R88). -/
def detachPort (p : Port) (s : State) : State := moveLink p .detached (s.modCpe p emptied)

/-- The LED state from the computer is set; a change is handed to the Console Input Port (R81, R12). -/
def setLamps (p : Port) (lamps : Lamps) (s : State) : State :=
  if (s.cpe.get p).lamps = lamps then s
  else (s.modCpe p (fun e => { e with lamps := lamps })).hand (.cpe p) (.ledTrigger (.port p))

/-- The link detached event (R81, R88). -/
def linkDown (p : Port) (s : State) : State :=
  detachPort p (setLamps p Flags.none (s.modCpe p (fun e => { e with link := .down, wakeArmed := false })))

/-- The link configured event (R83): in any state but Detached a detach comes first. -/
def linkUp (p : Port) (s : State) : State :=
  let s := if (s.cpe.get p).linkState = .detached then s else linkDown p s
  retake p (s.modCpe p (fun e => { e with link := .up }))

/-- The link suspended event (R84, R87). -/
def linkSuspend (p : Port) (s : State) : State :=
  let s := s.modCpe p (fun e => { e with link := .asleep })
  match (s.cpe.get p).linkState with
  | .settling => moveLink p .suspended (s.modCpe p (fun e => { e with settle := 0 }))
  | .active | .stalled | .recovering => moveLink p .suspended (s.modCpe p flushed)
  | .detached | .suspended | .waking => s

/-- The link resumed event (R87). -/
def linkResume (p : Port) (s : State) : State :=
  let s := s.modCpe p (fun e => { e with link := .up })
  match (s.cpe.get p).linkState with
  | .suspended | .waking => moveLink p .recovering s
  | .detached | .settling | .active | .stalled | .recovering => s

/-! ## Polls (R84, R96, R98, R99) -/

/-- After a poll in Active the stall timer starts anew, or stops when both queues are empty (R98). -/
def pollStall (p : Port) (s : State) : State :=
  if queuesEmpty (s.cpe.get p) then s.modCpe p (fun e => { e with stall := none }) else startStall p s

/-- A keyboard poll answered as in Active (R96). -/
def answerKeyboard (p : Port) (s : State) : State :=
  pollStall p ((s.modCpe p (fun e => { e with keyQueue := e.keyQueue.tail })).send
    (.keyboardAnswer p (s.cpe.get p).keyQueue.head?))

/-- A pointer poll answered as in Active (R96). -/
def answerPointer (p : Port) (s : State) : State :=
  pollStall p ((s.modCpe p (fun e => { e with pointerQueue := e.pointerQueue.tail })).send
    (.pointerAnswer p (s.cpe.get p).pointerQueue.head?))

/-- A poll counts in Settling: at the settle polls the port enters Active (R84). -/
def settleCount (p : Port) (s : State) : State :=
  let s := s.modCpe p (fun e => { e with settle := e.settle + 1 })
  if (s.portEntry p).settlePolls ≤ (s.cpe.get p).settle then enterActive p s else s

/-- A keyboard poll (R96); a Detached port whose link is Up answers "no change", enabled or not (log 25). -/
def keyboardPolled (p : Port) (s : State) : State :=
  match (s.cpe.get p).linkState with
  | .active => answerKeyboard p s
  | .stalled => answerKeyboard p (enterActive p s)
  | .settling => settleCount p (s.send (.keyboardAnswer p (some { modifiers := [], keys := [] })))
  | .suspended | .waking | .recovering => s.send (.keyboardAnswer p none)
  | .detached => if (s.cpe.get p).link = .up then s.send (.keyboardAnswer p none) else s

/-- A pointer poll (R96); a Detached port whose link is Up answers "no change", enabled or not (log 25). -/
def pointerPolled (p : Port) (s : State) : State :=
  match (s.cpe.get p).linkState with
  | .active => answerPointer p s
  | .stalled => answerPointer p (enterActive p s)
  | .settling => settleCount p (s.send (.pointerAnswer p none))
  | .suspended | .waking | .recovering => s.send (.pointerAnswer p none)
  | .detached => if (s.cpe.get p).link = .up then s.send (.pointerAnswer p none) else s

/-! ## Keys to a port (R90 to R92) -/

/-- A key joins the reported set and a snapshot is queued (R90). -/
def reportKey (p : Port) (k : Key) (s : State) : State :=
  let s := s.modCpe p (fun e => { e with reported := keyInsert k e.reported })
  queueSnapshot p (snapshotOf (s.cpe.get p).reported) s

/-- A key joins the ignore set (R90). -/
def ignoreKey (p : Port) (k : Key) (s : State) : State :=
  s.modCpe p (fun e => { e with ignored := keyInsert k e.ignored })

/-- A key press handed to a target port (R90). -/
def keyPressed (p : Port) (k : Key) (s : State) : State :=
  let e := s.cpe.get p
  if k ∈ e.ignored then s else
  match e.linkState with
  | .active | .stalled | .waking | .recovering => reportKey p k s
  | .settling => ignoreKey p k s
  | .suspended =>
    if (s.portEntry p).wakeOnKey && e.wakeArmed then (reportKey p k s).hand (.cpe p) (.wakeRequest p)
    else (ignoreKey p k s).modCounters p (fun c => { c with keysDiscarded := bump c.keysDiscarded })
  | .detached => s

/-- A key release handed to a target port (R91). -/
def keyReleased (p : Port) (k : Key) (s : State) : State :=
  let e := s.cpe.get p
  if e.linkState = .detached then s
  else if k ∈ e.reported then
    let s := s.modCpe p (fun e => { e with reported := keyErase k e.reported })
    queueSnapshot p (snapshotOf (s.cpe.get p).reported) s
  else s.modCpe p (fun e => { e with ignored := keyErase k e.ignored })

/-- An ignore-release handed to a port that is no target (R63, R91). -/
def ignoreReleased (p : Port) (k : Key) (s : State) : State :=
  if (s.cpe.get p).linkState = .detached then s
  else s.modCpe p (fun e => { e with ignored := keyErase k e.ignored })

/-- One empty snapshot is queued and the reported set empties (R92). -/
def releaseAll (p : Port) (s : State) : State :=
  (queueSnapshot p (snapshotOf []) s).modCpe p (fun e => { e with reported := [] })

/-- A leave indication (R92). -/
def leaveTaken (p : Port) (s : State) : State :=
  match (s.cpe.get p).linkState with
  | .active | .stalled | .waking | .recovering => releaseAll p s
  | .suspended => if (s.cpe.get p).reported = [] then s else releaseAll p s
  | .settling | .detached => s

/-- A join indication with the passed-key set it carries (R92). -/
def joinTaken (p : Port) (keys : KeySet) (s : State) : State :=
  if (s.cpe.get p).linkState = .detached then s
  else s.modCpe p (fun e => { e with ignored := keyUnion (keyMinus keys e.reported) e.ignored })

/-! ## Pointer reports, wakes and stalls (R87, R93, R98, R163) -/

/-- A pointer report handed to a port: recorded as its last, and queued where its state takes input (R93). -/
def pointerReported (p : Port) (r : PointerReport) (s : State) : State :=
  let s := s.modCpe p (fun e => { e with lastReport := some r })
  match (s.cpe.get p).linkState with
  | .active | .stalled | .waking | .recovering => queueReport p r s
  | .settling | .suspended | .detached => s

/-- Wake begins (R87, R163): Waking from Suspended with wake armed, else a refusal. -/
def wakeBegun (p : Port) (s : State) : State :=
  if (s.cpe.get p).linkState = .suspended ∧ (s.cpe.get p).wakeArmed = true then moveLink p .waking s
  else s.hand (.cpe p) (.wakeBeginsRefusal p)

/-- Wake failed (R87). -/
def wakeFell (p : Port) (s : State) : State :=
  if (s.cpe.get p).linkState = .waking then moveLink p .suspended (s.modCpe p flushed) else s

/-- Recovery ended (R87). -/
def recovered (p : Port) (s : State) : State :=
  if (s.cpe.get p).linkState = .recovering then enterActive p s else s

/-- The stall timer expires (R98): PortChanged is handed before PortStalled, whose order the manual leaves open (log 43). -/
def stalled (p : Port) (s : State) : State :=
  ((moveLink p .stalled (s.modCpe p flushed)).modCounters p (fun c => { c with stalls := bump c.stalls })).raise
    (.cpe p) .portStalled

/-! ## What an accepted port table write does (R80, R181) -/

/-- The port after a write of its entry from `old` to the entry now stored. A port that the write makes enter Active is sent its
notice report there, and only one that was Active gets it for its management field (R181). -/
def portWritten (p : Port) (old : PortEntry) (s : State) : State :=
  let new := s.portEntry p
  let wasActive := decide ((s.cpe.get p).linkState = .active)
  let s := if old.enabled && !new.enabled then detachPort p s else s
  let s := if !old.enabled && new.enabled then retake p s else s
  let s :=
    if old.settlePolls ≠ new.settlePolls ∧ (s.cpe.get p).linkState = .settling
        ∧ new.settlePolls ≤ (s.cpe.get p).settle then enterActive p s
    else s
  if wasActive && !old.managementAllowed && new.managementAllowed then s.noticeCatchUp p else s

/-! ## The commands -/

/-- An event of a link: until the settings load ends no device is presented on the links, so none can arrive (R101). -/
def State.onLink (s : State) (f : State → State) : State := if s.loading then s else f s

/-- LINK_CONFIGURED (R81, R83). -/
def execLinkConfigured (p : Port) (s : State) : Result := .next (s.onLink (linkUp p))

/-- LINK_SUSPENDED (R84, R87). -/
def execLinkSuspended (p : Port) (s : State) : Result := .next (s.onLink (linkSuspend p))

/-- LINK_RESUMED (R87). -/
def execLinkResumed (p : Port) (s : State) : Result := .next (s.onLink (linkResume p))

/-- LINK_DETACHED (R88). -/
def execLinkDetached (p : Port) (s : State) : Result := .next (s.onLink (linkDown p))

/-- KEYBOARD_POLL (R96). -/
def execKeyboardPoll (p : Port) (s : State) : Result := .next (s.onLink (keyboardPolled p))

/-- POINTER_POLL (R96). -/
def execPointerPoll (p : Port) (s : State) : Result := .next (s.onLink (pointerPolled p))

/-- WAKE_ARMED (R81). -/
def execWakeArmed (p : Port) (s : State) : Result :=
  .next (s.onLink (fun s => s.modCpe p (fun e => { e with wakeArmed := true })))

/-- WAKE_DISARMED (R81). -/
def execWakeDisarmed (p : Port) (s : State) : Result :=
  .next (s.onLink (fun s => s.modCpe p (fun e => { e with wakeArmed := false })))

/-- LED_OUTPUT_REPORT (R81). -/
def execLedOutputReport (p : Port) (lamps : Lamps) (s : State) : Result := .next (s.onLink (setLamps p lamps))

/-- PORT_KEY_PRESS (R90). -/
def execPortKeyPress (p : Port) (k : Key) (s : State) : Result := .next (keyPressed p k (s.taking (.portKeyPress p k)))

/-- PORT_KEY_RELEASE (R91). -/
def execPortKeyRelease (p : Port) (k : Key) (s : State) : Result :=
  .next (keyReleased p k (s.taking (.portKeyRelease p k)))

/-- IGNORE_RELEASE (R91). -/
def execIgnoreRelease (p : Port) (k : Key) (s : State) : Result :=
  .next (ignoreReleased p k (s.taking (.ignoreRelease p k)))

/-- LEAVE_INDICATION (R92). -/
def execLeaveIndication (p : Port) (s : State) : Result := .next (leaveTaken p (s.taking (.leaveIndication p)))

/-- JOIN_INDICATION (R92). -/
def execJoinIndication (p : Port) (keys : KeySet) (s : State) : Result :=
  .next (joinTaken p keys (s.taking (.joinIndication p keys)))

/-- PORT_POINTER_REPORT (R93). -/
def execPortPointerReport (p : Port) (r : PointerReport) (s : State) : Result :=
  .next (pointerReported p r (s.taking (.portPointerReport p r)))

/-- WAKE_BEGINS (R163). -/
def execWakeBegins (p : Port) (s : State) : Result := .next (wakeBegun p (s.taking (.wakeBegins p)))

/-- WAKE_FAILED (R87). -/
def execWakeFailed (p : Port) (s : State) : Result := .next (wakeFell p (s.taking (.wakeFailed p)))

/-- RECOVERY_ENDED (R87). -/
def execRecoveryEnded (p : Port) (s : State) : Result := .next (recovered p (s.taking (.recoveryEnded p)))

/-- STALL_TIMER_EXPIRY (R98). -/
def execStallTimerExpiry (p : Port) (s : State) : Result := .next (s.onExpiry (s.cpe.get p).stall (stalled p))

end Sys2Proof.Machine
end

