-- ==== Sys2Proof/Machine/Shares.lean ====
section
/-!
DEFINITION. The Share Output Unit (chapter 9, sections 9.2 to 9.4): share records, following a screen, and privacy.
-/

namespace Sys2Proof.Machine

/-- The blanked field is recomputed; ShareBlanked is raised when it goes from no to yes (R150, R154). -/
def recomputeBlanked (o : ShareOut) (s : State) : State :=
  let r := s.sou.get o
  let b := s.isPrivate r.wanted
  let t := s.modSou o (fun r => { r with blanked := b })
  if b && !r.blanked then t.raise .sou .shareBlanked else t

/-- An output takes a mode, and its blanked field is recomputed. -/
def setShareMode (o : ShareOut) (m : ShareMode) (s : State) : State :=
  recomputeBlanked o (s.modSou o (fun r => { r with mode := m }))

/-- Does an output follow a screen? -/
def follows (r : ShareRecord) (sc : Screen) : Bool :=
  match r.mode with
  | .follow f _ => decide (f = sc)
  | .off | .fixed _ => false

/-- A Share action (R151). -/
def shareScreen (o : ShareOut) (sc : Screen) (s : State) : State :=
  if follows (s.sou.get o) sc then s else setShareMode o (.follow sc (s.active sc)) s

/-- A Share Off action (R151). -/
def shareNothing (o : ShareOut) (s : State) : State := setShareMode o .off s

/-- A Set Share of mode Fixed (R152). -/
def shareSource (o : ShareOut) (v : Source) (s : State) : State := setShareMode o (.fixed v) s

/-- A switch on a screen moves every output that follows it (R153). -/
def followSwitch (sc : Screen) (source : Option Source) (s : State) : State :=
  allOutputs.foldl (fun s o => if follows (s.sou.get o) sc then setShareMode o (.follow sc source) s else s) s

/-- A source's private field has been written (R154). -/
def privateWritten (v : Source) (s : State) : State :=
  allOutputs.foldl (fun s o => if (s.sou.get o).wanted = some v then recomputeBlanked o s else s) s

/-- Every blanked field recomputed. -/
def recomputeAllBlanked (s : State) : State := allOutputs.foldl (fun s o => recomputeBlanked o s) s

/-- Both outputs are set to Off with no notice (R155). -/
def sharesOff (s : State) : State := { s with sou := Tab.fill ShareRecord.reset }

/-! ## The commands -/

/-- SHARE (R151). -/
def execShare (o : ShareOut) (sc : Screen) (s : State) : Result := .next (shareScreen o sc (s.taking (.share o sc)))

/-- SHARE_OFF (R151). -/
def execShareOff (o : ShareOut) (s : State) : Result := .next (shareNothing o (s.taking (.shareOff o)))

/-- FOLLOWED_SCREEN_SWITCH (R153). -/
def execFollowedScreenSwitch (sc : Screen) (source : Option Source) (s : State) : Result :=
  .next (followSwitch sc source (s.taking (.followedScreenSwitch sc source)))

end Sys2Proof.Machine
end

