-- ==== Sys2Proof/Machine/Routing.lean ====
section
/-!
DEFINITION. The Crosspoint Controller (chapter 7, and peek in chapter 9): route requests and pendings, switches, route hold,
layouts, peek, and the restart routing.
-/

namespace Sys2Proof.Machine

/-! ## Layout in flight (R130, R131) -/

/-- A layout completes (R131). -/
def completeLayout (l : LayoutInFlight) (s : State) : State :=
  ((s.modXpc (fun x => { x with layout := none })).hand .xpc (.layoutCompletion l.focus false)).raise .xpc .layoutDone

/-- A screen leaves the outstanding set of the layout in flight; the last one completes it (R130). -/
def leaveLayout (sc : Screen) (s : State) : State :=
  match s.xpc.layout with
  | none => s
  | some l =>
    if l.outstanding.get sc then
      let rest := flagOff sc l.outstanding
      if rest.any then s.modXpc (fun x => { x with layout := some { l with outstanding := rest } })
      else completeLayout l s
    else s

/-! ## Switches (R120 to R123) -/

/-- A notice kind is raised unless the request was quiet (R134). -/
def raiseUnless (quiet : Bool) (k : NoticeKind) (s : State) : State := if quiet then s else s.raise .xpc k

/-- A change of active source is handed on (R123, steps 2 to 5); the share outputs follow in the same event. -/
def handSwitch (sc : Screen) (source : Option Source) (s : State) : State :=
  let s := s.hand .xpc (.switchNotice sc)
  let s := s.hand .xpc (.switchAtDimStage sc source)
  let s := followSwitch sc source s
  s.hand .xpc (.switchAtWakeController sc source)

/-- The layout is left by a pending of cause Layout only (R130). -/
def leaveIfLayout (sc : Screen) (cause : RouteCause) (s : State) : State :=
  if cause = .layout then leaveLayout sc s else s

/-- A pending takes effect on its screen, with the notice it reports (R123). -/
def takeEffect (sc : Screen) (p : Pending) (k : NoticeKind) (s : State) : State :=
  let s := s.modRoute sc (fun _ => { active := p.target, pending := none })
  raiseUnless p.quiet k (leaveIfLayout sc p.cause (handSwitch sc p.target s))

/-- Is a pending of a screen ready (R120)? -/
def State.routeReady (s : State) (sc : Screen) : Bool :=
  s.xpc.hold.isNone && (!(s.screenEntry sc).fade || s.xpc.fadeWait.get sc)

/-- The pending of a screen is tested (R120, R121): it takes effect at once, or waits. -/
def testPending (sc : Screen) (s : State) : State :=
  match (s.xpc.routes.get sc).pending with
  | none => s
  | some p =>
    if s.routeReady sc then
      match p.target with
      | none => takeEffect sc p .routeDone s
      | some v =>
        if s.sourceLocked v = false then takeEffect sc p .routeForced s
        else
          match (s.screenEntry sc).switchMode with
          | .immediate => takeEffect sc p .routeForced s
          | .frame => s
    else s

/-- Every pending is tested, screen by screen in ascending order (R125). -/
def testAll (s : State) : State := allScreens.foldl (fun s sc => testPending sc s) s

/-! ## Route requests (R119, R136) -/

/-- The next value of a screen's request count. -/
def nextCount (n : Nat) : Nat := (n + 1) % 65536

/-- The Dim Stage of a screen is handed the request of its pending under a new number, and the last reported phase becomes
none (R136). -/
def handFade (sc : Screen) (s : State) : State :=
  let n := nextCount (s.xpc.counts.get sc)
  let s := s.modXpc (fun x => { x with counts := x.counts.set sc n, fadeWait := flagOff sc x.fadeWait })
  let s := s.modRoute sc (fun r => { r with pending := r.pending.map (fun p => { p with number := n }) })
  s.hand .xpc (.fadeRequest sc n)

/-- Step 1 of a request: a foreign request clears the peek record of its screen (R119, R158). -/
def clearPeek (sc : Screen) (cause : RouteCause) (s : State) : State :=
  match s.xpc.peek with
  | some k => if cause ≠ .peek ∧ k.screen = sc then s.modXpc (fun x => { x with peek := none }) else s
  | none => s

/-- Step 2 of a request: a pending is removed and counted, and may leave the layout in flight (R119). -/
def removePending (sc : Screen) (s : State) : State :=
  match (s.xpc.routes.get sc).pending with
  | none => s
  | some p =>
    let s := s.modRoute sc (fun r => { r with pending := none })
    leaveIfLayout sc p.cause (s.modXpc (fun x => { x with pendingReplaced := bump x.pendingReplaced }))

/-- Step 4 of a request: a new pending (R119). -/
def newPending (sc : Screen) (target : Option Source) (cause : RouteCause) (s : State) : State :=
  let s := s.modRoute sc (fun r => { r with
    pending := some
      { target := target, line := (s.screenEntry sc).switchLine, cause := cause, quiet := decide (cause = .peek)
        number := 0 } })
  testPending sc (handFade sc s)

/-- A route request (R119). A pending that it removes may complete the layout in flight, which is then handed before the switch
that the request itself makes at once: R119 puts the removal first, R131 a switch before a completion (log 57). -/
def routeRequest (sc : Screen) (target : Option Source) (cause : RouteCause) (s : State) : State :=
  let s := clearPeek sc cause s
  let removed := (s.xpc.routes.get sc).pending.isSome
  let s := removePending sc s
  if target = s.active sc then
    let s := raiseUnless (decide (cause = .peek)) .routeDone s
    if removed then s.hand .xpc (.drop sc) else s
  else newPending sc target cause s

/-! ## Layouts (R129) -/

/-- The layout in flight, when there is one, is superseded (R129, step 1). -/
def supersede (s : State) : State :=
  match s.xpc.layout with
  | none => s
  | some _ =>
    (s.modXpc (fun x => { x with layout := none, layoutsSuperseded := bump x.layoutsSuperseded })).raise .xpc
      .layoutSuperseded

/-- The route field of a layout for a screen is a request of cause Layout, unless it is Keep (R129, step 2). -/
def requestField (f : RouteField) (sc : Screen) (s : State) : State :=
  match f with
  | .keep => s
  | .to t => routeRequest sc t .layout s

/-- Does a screen hold a pending of cause Layout? -/
def pendingForLayout (s : State) (sc : Screen) : Bool :=
  match (s.xpc.routes.get sc).pending with
  | some p => decide (p.cause = .layout)
  | none => false

/-- The outstanding set of a recall: the screens it requested that hold a pending of cause Layout (R129, step 3). -/
def outstandingOf (e : LayoutEntry) (s : State) : ScreenSet :=
  Tab.make (fun sc : Screen => decide (e.routes.get sc ≠ .keep) && pendingForLayout s sc)

/-- A layout recall (R129). -/
def takeRecall (l : LayoutNo) (s : State) : State :=
  let e := s.tables.layouts.get l
  let s := allScreens.foldl (fun s sc => requestField (e.routes.get sc) sc s) (supersede s)
  let record : LayoutInFlight := { number := l, outstanding := outstandingOf e s, focus := e.focus }
  if record.outstanding.any then s.modXpc (fun x => { x with layout := some record }) else completeLayout record s

/-! ## Peek (R156, R157) -/

/-- A revert for a hotkey entry (R157). -/
def revertPeek (entry : EntryNo) (s : State) : State :=
  match s.xpc.peek with
  | some k =>
    if k.entry = entry then routeRequest k.screen k.back .peek (s.modXpc (fun x => { x with peek := none })) else s
  | none => s

/-- A peek that is no second tap (R156, steps 2 to 5). -/
def newPeek (v : Source) (sc : Screen) (entry : EntryNo) (held : Bool) (s : State) : State :=
  let s :=
    match s.xpc.peek with
    | some k => if k.screen = sc then s else revertPeek k.entry s
    | none => s
  let back :=
    match s.xpc.peek with
    | some k => k.back
    | none => s.active sc
  routeRequest sc (some v) .peek
    (s.modXpc (fun x => { x with peek := some { screen := sc, back := back, entry := entry, held := held } }))

/-- A Peek action (R156): a second tap of the same entry reverts. -/
def takePeek (v : Source) (sc : Screen) (entry : EntryNo) (held : Bool) (s : State) : State :=
  match s.xpc.peek with
  | some k => if held = false ∧ k.entry = entry then revertPeek entry s else newPeek v sc entry held s
  | none => newPeek v sc entry held s

/-! ## Lines, state changes and fade reports (R121, R122, R136) -/

/-- The effective line of a pending on a source (R121). -/
def effectiveLine (s : State) (v : Source) (p : Pending) : Nat :=
  match (s.fmn.get v).linesPerFrame with
  | some n => if p.line < n then p.line else 0
  | none => 0

/-- A line value for one screen (R121). -/
def lineAt (v : Source) (line : Nat) (sc : Screen) (s : State) : State :=
  match (s.xpc.routes.get sc).pending with
  | none => s
  | some p =>
    if p.target = some v ∧ s.routeReady sc = true ∧ (s.screenEntry sc).switchMode = .frame ∧ effectiveLine s v p = line
    then takeEffect sc p .routeDone s
    else s

/-- A line value of a source (R121), on the screens in ascending order (log 49). -/
def takeLine (v : Source) (line : Nat) (s : State) : State := allScreens.foldl (fun s sc => lineAt v line sc s) s

/-- A source leaves Locked: a ready pending onto it is forced (R122). -/
def forceAt (v : Source) (sc : Screen) (s : State) : State :=
  match (s.xpc.routes.get sc).pending with
  | none => s
  | some p => if p.target = some v ∧ s.routeReady sc = true then takeEffect sc p .routeForced s else s

/-- A source state change (R122): only one that leaves Locked forces, on the screens in ascending order (log 49). -/
def takeSourceState (v : Source) (c : SourceChange) (s : State) : State :=
  if c.old = .locked ∧ c.new ≠ .locked then allScreens.foldl (fun s sc => forceAt v sc s) s else s

/-- A FadeWait report (R136). -/
def takeFadeReport (sc : Screen) (number : Nat) (s : State) : State :=
  match (s.xpc.routes.get sc).pending with
  | some p =>
    if p.number = number then testPending sc (s.modXpc (fun x => { x with fadeWait := flagOn sc x.fadeWait })) else s
  | none => s

/-! ## Route hold (R125) -/

/-- Hold Routes (R125). -/
def holdRoutesOn (s : State) : State :=
  match s.xpc.hold with
  | some _ => s
  | none =>
    s.modXpc (fun x => { x with
      hold := some { start := s.timebase, expiry := s.timebase + ms s.tables.desk.routeHoldLimit } })

/-- Release Routes (R125). -/
def releaseRoutesNow (s : State) : State :=
  match s.xpc.hold with
  | some _ => testAll (s.modXpc (fun x => { x with hold := none }))
  | none => s

/-- The route hold timer expires (R125). -/
def holdExpired (s : State) : State := testAll ((s.modXpc (fun x => { x with hold := none })).raise .xpc .holdExpired)

/-- A write of the route hold limit (R125): the expiry moves to the earlier one, and may have passed. -/
def holdLimitWritten (s : State) : State :=
  match s.xpc.hold with
  | none => s
  | some h =>
    let e := min h.expiry (h.start + ms s.tables.desk.routeHoldLimit)
    if e ≤ s.timebase then holdExpired s
    else s.modXpc (fun x => { x with hold := some { h with expiry := e } })

/-! ## Switch-field writes and restart routing (R117, R132, R133) -/

/-- What an accepted write of a screen's switch fields does to its route record (R117). -/
def switchFieldsWritten (sc : Screen) (old : ScreenEntry) (s : State) : State :=
  let new := s.screenEntry sc
  let s := if !old.fade && new.fade && (s.xpc.routes.get sc).pending.isSome then handFade sc s else s
  if (old.fade && !new.fade) || decide (old.switchMode ≠ new.switchMode) then testPending sc s else s

/-- The operations of the Crosspoint Controller are cleared before a restart routing (R133). -/
def clearRouting (s : State) : State :=
  s.modXpc (fun x => { x with
    routes := x.routes.map (fun r => { r with pending := none }), fadeWait := Flags.none, hold := none, layout := none
    peek := none })

/-- The restart routing of one screen (R132, R133): nothing is handed for a screen that already shows its target. -/
def restartScreen (f : RouteField) (sc : Screen) (s : State) : State :=
  match f with
  | .keep => s
  | .to t => if s.active sc = t then s else handSwitch sc t (s.modRoute sc (fun r => { r with active := t }))

/-- The restart routing of the start layout, and its restart completion (R132, R133). -/
def restartRouting (s : State) : State :=
  let s := clearRouting s
  let e := s.tables.layouts.get s.tables.desk.startLayout
  (allScreens.foldl (fun s sc => restartScreen (e.routes.get sc) sc s) s).hand .xpc (.layoutCompletion e.focus true)

/-! ## The commands -/

/-- ROUTE (R119). -/
def execRoute (sc : Screen) (target : Option Source) (s : State) : Result :=
  .next (routeRequest sc target .route (s.taking (.route sc target)))

/-- LAYOUT (R129). -/
def execLayout (l : LayoutNo) (s : State) : Result := .next (takeRecall l (s.taking (.layout l)))

/-- PEEK (R156). -/
def execPeek (v : Source) (sc : Screen) (entry : EntryNo) (held : Bool) (s : State) : Result :=
  .next (takePeek v sc entry held (s.taking (.peek v sc entry held)))

/-- PEEK_REVERT (R157). -/
def execPeekRevert (entry : EntryNo) (s : State) : Result := .next (revertPeek entry (s.taking (.peekRevert entry)))

/-- LINE_VALUE (R121). -/
def execLineValue (v : Source) (line : Nat) (s : State) : Result := .next (takeLine v line (s.taking (.lineValue v line)))

/-- SOURCE_STATE_CHANGE (R122). -/
def execSourceStateChange (v : Source) (change : SourceChange) (s : State) : Result :=
  .next (takeSourceState v change (s.taking (.sourceStateChange v change)))

/-- FADEWAIT_REPORT (R136). -/
def execFadeWaitReport (sc : Screen) (number : Nat) (s : State) : Result :=
  .next (takeFadeReport sc number (s.taking (.fadeWaitReport sc number)))

/-- ROUTE_HOLD_TIMER_EXPIRY (R125). -/
def execRouteHoldTimerExpiry (s : State) : Result :=
  .next (s.onExpiry (s.xpc.hold.map (fun h => h.expiry)) holdExpired)

end Sys2Proof.Machine
end

