-- ==== Sys2Proof/Machine/Wake.lean ====
section
/-!
DEFINITION. The Wake Controller (chapter 10): computer wake, screen power, desk sleep and desk wake.
-/

namespace Sys2Proof.Machine

/-! ## Computer wake (R162 to R166) -/

/-- A wake request is refused (R162). -/
def wakeRefused (s : State) : State := s.raise .wkc .wakeRefused

/-- A wake request for a port (R162). -/
def takeWakeRequest (p : Port) (s : State) : State :=
  if (s.wkc.wakes.get p).phase ≠ .idle then s else
  match (s.cpe.get p).linkState with
  | .suspended =>
    if (s.cpe.get p).wakeArmed then
      (s.hand .wkc (.wakeBegins p)).modWake p (fun w => { w with phase := .asked })
    else wakeRefused s
  | .detached => wakeRefused s
  | .settling | .active | .stalled | .waking | .recovering => s

/-- A refusal of wake begins: taken in phase Asked, else dropped (R163). -/
def wakeBeginsRefused (p : Port) (s : State) : State :=
  if (s.wkc.wakes.get p).phase = .asked then wakeRefused (s.modWake p (fun w => { w with phase := .idle })) else s

/-- An attempt: the wake signal is driven for 10 ms and the wake timer starts (R163, R164). -/
def startAttempt (p : Port) (s : State) : State :=
  s.modWake p (fun w => { w with
    signal := s.after wakeSignalTime, timer := s.after (ms s.tables.desk.wakeTimeout) })

/-- A change of a port's link state (R163, R165). -/
def linkStateChanged (p : Port) (st : LinkState) (s : State) : State :=
  match st with
  | .waking =>
    if (s.wkc.wakes.get p).phase = .asked then
      startAttempt p (s.modWake p (fun w => { w with phase := .signalling, retries := 0 }))
    else s
  | .recovering =>
    s.modWake p (fun _ =>
      { phase := .recovering, retries := 0, timer := none, signal := none
        recovery := s.after (ms s.tables.desk.recoveryTime) })
  | .detached | .settling | .active | .stalled | .suspended => s.modWake p (fun _ => WakeRecord.reset)

/-- The wake signal's 10 ms end (R163). -/
def wakeSignalEnds (p : Port) (s : State) : State := s.modWake p (fun w => { w with signal := none })

/-- The wake timer expires (R164). -/
def wakeTimerExpires (p : Port) (s : State) : State :=
  let s := s.modWake p (fun w => { w with timer := none })
  if (s.cpe.get p).linkState ≠ .waking then s
  else if (s.wkc.wakes.get p).retries < s.tables.desk.wakeRetries ∧ (s.cpe.get p).wakeArmed = true then
    startAttempt p (s.modWake p (fun w => { w with retries := w.retries + 1 }))
  else
    ((s.modWake p (fun w => { w with phase := .idle, signal := none })).raise .wkc .wakeFailed).hand .wkc (.wakeFailed p)

/-- The recovery timer expires (R166). -/
def recoveryExpires (p : Port) (s : State) : State :=
  let s := s.modWake p (fun w => { w with recovery := none })
  if (s.cpe.get p).linkState = .recovering then s.hand .wkc (.recoveryEnded p) else s

/-! ## Screen power (R167, R168) -/

/-- The no-signal timer runs while the screen is On and what it shows is dark: it starts, stops or goes on (R167). -/
def noSignalUpdate (sc : Screen) (dark : Bool) (s : State) : State :=
  s.modPower sc (fun r => { r with
    noSignal :=
      if r.on && dark then
        (if r.noSignal.isSome then r.noSignal else s.after (ms (s.tables.desk.screenSleepDelay * 1000)))
      else none })

/-- A Sleeping screen becomes On, and its Dim Stage is handed a screen wake (R168). -/
def wakeScreen (sc : Screen) (s : State) : State :=
  if (s.wkc.power.get sc).on then s
  else (s.modPower sc (fun r => { r with on := true })).hand .wkc (.screenWake sc)

/-- A Sleeping screen wakes, unless the desk is asleep (R168). -/
def wakeScreenAwake (sc : Screen) (s : State) : State := if s.wkc.deskAsleep then s else wakeScreen sc s

/-- A switch is taken by the Wake Controller (R167, R168). Its source is Locked or dark as its monitor stands when the switch is
taken (log 50). -/
def powerSwitch (sc : Screen) (source : Option Source) (s : State) : State :=
  let s := if s.showsLocked source then wakeScreenAwake sc s else s
  noSignalUpdate sc (s.showsDark source) s

/-- A source's state change for one screen that shows it (R167, R168). -/
def powerSourceChange (st : SourceState) (sc : Screen) (s : State) : State :=
  let s := if st = .locked then wakeScreenAwake sc s else s
  noSignalUpdate sc (decide (st = .noSignal)) s

/-- A source's state change is taken by the Wake Controller (R167, R168), on the screens whose route record names the source as it
stands, also where the switch of such a screen is still on its way (log 46). -/
def powerStateChange (v : Source) (st : SourceState) (s : State) : State :=
  allScreens.foldl (fun t sc => if s.active sc = some v then powerSourceChange st sc t else t) s

/-- The no-signal timer of a screen expires (R168). -/
def noSignalExpires (sc : Screen) (s : State) : State := s.modPower sc (fun _ => { on := false, noSignal := none })

/-- Every screen's no-signal timer is started where R167 asks for it: after the restart routing (R172, R173). -/
def startNoSignal (s : State) : State :=
  allScreens.foldl (fun s sc => noSignalUpdate sc (s.showsDark (s.active sc)) s) s

/-! ## Desk sleep (R169 to R171) -/

/-- Desk Sleep (R169). -/
def deskSleeps (s : State) : State :=
  if s.wkc.deskAsleep then s
  else
    (s.modWkc (fun w => { w with deskAsleep := true, power := Tab.fill { on := false, noSignal := none } })).raise
      .wkc .deskSleepChanged

/-- Step 4 of a desk wake: is a port asked to wake (R170)? -/
def deskWakeAsks (s : State) (p : Port) : Bool :=
  s.tables.desk.deskWakeWakes && decide ((s.cpe.get p).linkState = .suspended)
  && allScreens.any (fun sc => decide (s.screenOwner sc = some p))

/-- The desk wakes (R170, steps 2 to 5). Step 3 reads a screen's active source from its route record and Locked from the source's
monitor as they stand, also where a switch or a state change is still on its way to the Wake Controller: the manual says so of
ownership alone (step 4, log 54). -/
def deskWakes (s : State) : State :=
  let s := s.modWkc (fun w => { w with deskAsleep := false })
  let s := allScreens.foldl (fun s sc => if s.showsLocked (s.active sc) then wakeScreen sc s else s) s
  let s := allPorts.foldl (fun s p => if deskWakeAsks s p then takeWakeRequest p s else s) s
  s.raise .wkc .deskSleepChanged

/-- A desk-wake input (R170, R171): a key is consumed whatever the flag; the desk wakes when it is asleep. -/
def deskWakeTaken (k : Option Key) (s : State) : State :=
  let s :=
    match k with
    | some k => s.hand .wkc (.consumeRequest k)
    | none => s
  if s.wkc.deskAsleep then deskWakes s else s

/-! ## The commands -/

/-- WAKE_REQUEST (R162). -/
def execWakeRequest (p : Port) (s : State) : Result := .next (takeWakeRequest p (s.taking (.wakeRequest p)))

/-- WAKE_BEGINS_REFUSAL (R163). -/
def execWakeBeginsRefusal (p : Port) (s : State) : Result :=
  .next (wakeBeginsRefused p (s.taking (.wakeBeginsRefusal p)))

/-- LINK_STATE_CHANGE (R165). -/
def execLinkStateChange (p : Port) (st : LinkState) (s : State) : Result :=
  .next (linkStateChanged p st (s.taking (.linkStateChange p st)))

/-- WAKE_SIGNAL_END (R163). -/
def execWakeSignalEnd (p : Port) (s : State) : Result :=
  .next (s.onExpiry (s.wkc.wakes.get p).signal (wakeSignalEnds p))

/-- WAKE_TIMER_EXPIRY (R164). -/
def execWakeTimerExpiry (p : Port) (s : State) : Result :=
  .next (s.onExpiry (s.wkc.wakes.get p).timer (wakeTimerExpires p))

/-- RECOVERY_TIMER_EXPIRY (R166). -/
def execRecoveryTimerExpiry (p : Port) (s : State) : Result :=
  .next (s.onExpiry (s.wkc.wakes.get p).recovery (recoveryExpires p))

/-- SWITCH_AT_WAKE_CONTROLLER (R167, R168). -/
def execSwitchAtWakeController (sc : Screen) (source : Option Source) (s : State) : Result :=
  .next (powerSwitch sc source (s.taking (.switchAtWakeController sc source)))

/-- STATE_CHANGE_AT_WAKE_CONTROLLER (R167, R168). -/
def execStateChangeAtWakeController (v : Source) (st : SourceState) (s : State) : Result :=
  .next (powerStateChange v st (s.taking (.stateChangeAtWakeController v st)))

/-- NO_SIGNAL_TIMER_EXPIRY (R168). -/
def execNoSignalTimerExpiry (sc : Screen) (s : State) : Result :=
  .next (s.onExpiry (s.wkc.power.get sc).noSignal (noSignalExpires sc))

/-- DESK_SLEEP_ACTION (R169). -/
def execDeskSleepAction (s : State) : Result := .next (deskSleeps (s.taking .deskSleepAction))

/-- DESK_WAKE_INPUT (R170, R171). -/
def execDeskWakeInput (k : Option Key) (s : State) : Result := .next (deskWakeTaken k (s.taking (.deskWakeInput k)))

end Sys2Proof.Machine
end

