-- ==== Sys2Proof/Machine/Management.lean ====
section
/-!
DEFINITION. The Management Frame Engine (chapter 11): the transaction of a request, table reads and writes, Read State,
notices, counters, and saving the settings. Desk Restart and Reset are in Restart.lean.
-/

namespace Sys2Proof.Machine

/-! ## The transaction (R174 to R176) -/

/-- A reply is handed to the port of its request. -/
def sendReply (kind : Nat) (q : Request) (r : Reply) (s : State) : State := s.sendFrame q.port (replyFrame kind q r)

/-- A frame that is no request is answered BADREQ; one from a port that is not Active or has no management is dropped or
ignored (R174, R97). -/
def answerBad (kind : Nat) (q : Request) (s : State) : State :=
  if s.managed q.port then sendReply kind q (plainReply .badreq) s else s

/-- A request that is answered in the event in which it is taken (R174, R175): ignored when the port is not Active or has no
management, BUSY when the port has a request in flight, and otherwise served and answered. -/
def serve (kind : Nat) (q : Request) (f : State → State × Reply) (s : State) : State :=
  if s.managed q.port then
    if (s.mfe.inFlight.get q.port).isSome then sendReply kind q (plainReply .busy) s
    else sendReply kind q (f s).2 (f s).1
  else s

/-- A request with arguments as read: RANGE and no effect when one is out of range (R176). -/
def withArgs {α : Type} (args : Option α) (f : α → State → State) (s : State) : State × Reply :=
  match args with
  | none => (s, plainReply .range)
  | some a => (f a s, plainReply .ok)

/-- Two readings as one. -/
def bothRead {α β : Type} (a : Option α) (b : Option β) : Option (α × β) := a.bind (fun x => b.map (fun y => (x, y)))

/-- An OK reply with bytes, or RANGE when there are none. -/
def bytesOrRange (b : Option (List Byte)) : Reply :=
  match b with
  | some b => payloadReply b
  | none => plainReply .range

/-! ## Table reads and writes (R177) -/

/-- The bytes of an entry of a table by their numbers (R177): none when the number names no table. -/
def readTable (t : Tables) (table number : Nat) : Option (Option (List Byte)) :=
  match table with
  | 1 => some ((numbered 1 number).map (fun _ => deskBytes t.desk))
  | 2 => some ((numbered 6 number).map (fun p => portBytes (t.ports.get p)))
  | 3 => some ((numbered 16 number).map (fun v => sourceBytes (t.sources.get v)))
  | 4 => some ((numbered 8 number).map (fun sc => screenBytes (t.screens.get sc)))
  | 5 => some ((numbered 16 number).map (fun l => layoutBytes (t.layouts.get l)))
  | 6 => some ((numbered 32 number).map (fun n => hotkeyBytes (t.hotkeys.get n)))
  | _ => none

/-- A Write Entry checked in the order of R177, and stored when every check passes. -/
def writeEntry {k : Nat} {α : Type} (q : Request) (checked : Option (α × Bool)) (denied conflict : Fin k → α → Bool)
    (store : Fin k → α → State → State) (s : State) : State × Reply :=
  if s.mfe.save.isSome then (s, plainReply .busy)
  else
    match numbered k q.arg2, checked with
    | some i, some (e, clamped) =>
      if denied i e then (s, plainReply .denied)
      else if conflict i e then (s, plainReply .conflict)
      else (store i e s, { status := .ok, clamped := clamped, saveFailed := false, payload := [] })
    | some _, none => (s, plainReply .range)
    | none, _ => (s, plainReply .range)

/-- A table without the check, or without a clamped field. -/
def unclamped {α : Type} (e : Option α) : Option (α × Bool) := e.map (fun e => (e, false))

/-- A desk record is stored and handed to the blocks that its fields concern (R34, R75, R125, R135, R180). -/
def storeDesk (e : DeskRecord) (s : State) : State :=
  let old := s.tables.desk
  let s := leaveJoin s (s.modTables (fun t => { t with desk := e }))
  let s := refreshDims s
  let s :=
    if e.prefixKey ≠ old.prefixKey ∨ e.tapCount ≠ old.tapCount ∨ e.tapWindow ≠ old.tapWindow then matcherTablesChanged s
    else s
  let s := if e.routeHoldLimit ≠ old.routeHoldLimit then holdLimitWritten s else s
  let s := if e.dimFloor ≠ old.dimFloor ∨ e.unfocusedLevel ≠ old.unfocusedLevel then retargetAll s else s
  if e.noticePacing = 0 then s.modMfe (fun m => { m with pacing := none }) else s

/-- A port entry is stored and acts on its port (R80, R181). -/
def storePort (p : Port) (e : PortEntry) (s : State) : State :=
  portWritten p (s.portEntry p) (s.modTables (fun t => { t with ports := t.ports.set p e }))

/-- Is the absolute rectangle of two source entries the same? -/
def sameRectangle (a b : SourceEntry) : Bool :=
  decide (a.x0 = b.x0) && decide (a.y0 = b.y0) && decide (a.w = b.w) && decide (a.h = b.h)

/-- A source entry is stored and handed to Focus Control and the Share Output Unit (R104). -/
def storeSource (v : Source) (e : SourceEntry) (s : State) : State :=
  let old := s.tables.sources.get v
  let s := s.modTables (fun t => { t with sources := t.sources.set v e })
  let s :=
    if e.owner ≠ old.owner then sourceOwnerWritten v (!sameRectangle e old) s
    else if sameRectangle e old then s
    else sourceRectangleWritten v s
  if e.priv ≠ old.priv then privateWritten v s else s

/-- Is the placement of two screen entries the same? -/
def samePlacement (a b : ScreenEntry) : Bool :=
  decide (a.placed = b.placed) && decide (a.x = b.x) && decide (a.y = b.y) && decide (a.w = b.w) && decide (a.h = b.h)

/-- A screen entry is stored and handed to the Glide Unit, its Dim Stage and the Crosspoint Controller (R59, R117, R145). -/
def storeScreen (sc : Screen) (e : ScreenEntry) (s : State) : State :=
  let old := s.screenEntry sc
  let s := s.modTables (fun t => { t with screens := t.screens.set sc e })
  let s := if samePlacement e old then s else placementWritten sc s
  let s := if old.fade && !e.fade then fadeWrittenOff sc s else s
  switchFieldsWritten sc old s

/-- A layout entry is stored (R127). -/
def storeLayout (l : LayoutNo) (e : LayoutEntry) (s : State) : State :=
  s.modTables (fun t => { t with layouts := t.layouts.set l e })

/-- A hotkey entry is stored and handed to the matcher (R34). -/
def storeHotkey (n : EntryNo) (e : HotkeyEntry) (s : State) : State :=
  matcherTablesChanged (s.modTables (fun t => { t with hotkeys := t.hotkeys.set n e }))

/-- A port entry that would take management from the requesting port (R177, step 4). -/
def portDenied (q : Request) (p : Port) (e : PortEntry) : Bool := decide (p = q.port) && !e.managementAllowed

/-! ## Notices (R179 to R181) -/

/-- The pacing timer starts, when pacing is on (R180). -/
def startPacing (s : State) : State :=
  if s.tables.desk.noticePacing = 0 then s
  else s.modMfe (fun m => { m with pacing := s.after (ms s.tables.desk.noticePacing) })

/-- A raised notice kind is taken (R179). -/
def takeNotice (k : NoticeKind) (s : State) : State :=
  if s.mfe.notices.get (noticeBit k) then s
  else
    let s := s.modMfe (fun m => { m with notices := flagOn (noticeBit k) m.notices })
    if s.mfe.mask.get (noticeBit k) then startPacing s.noticeReports else s

/-- The pacing timer expires (R180). -/
def pacingExpires (s : State) : State :=
  let s := s.modMfe (fun m => { m with pacing := none })
  if s.noticesWanted then startPacing s.noticeReports else s

/-- Read Notices (R181): the set is returned and empties, and the pacing timer stops. -/
def readNoticesNow (s : State) : State × Reply :=
  (s.modMfe (fun m => { m with notices := Flags.none, pacing := none }), payloadReply (num2 (flagsNat s.mfe.notices)))

/-! ## Counters (R182) -/

/-- The live counters are copied into the counter snapshot (R182). -/
def latchCounters (s : State) : State := s.modMfe (fun m => { m with snapshot := s.counterTable })

/-- The reply with the counter snapshot (R182). -/
def snapshotReply (s : State) : Reply := payloadReply (s.mfe.snapshot.cells.flatMap num2)

/-! ## Saving (R184) -/

/-- The save starts: the valid marker is written clear, and the request is in flight (R184, step 1). -/
def startSave (q : Request) (s : State) : State :=
  { s with
    memory := { s.memory with valid := false }
    mfe := { s.mfe with
      save := some { port := q.port, prior := s.memory }
      inFlight := s.mfe.inFlight.set q.port (some { kind := 15, request := q }) } }

/-- The image after a save that stopped at the table of a place: the tables before it are written, in the order of R184
(log 22). -/
def partImage (k : Nat) (old new : Tables) : Tables :=
  { desk := if 1 ≤ k then new.desk else old.desk
    ports := if 2 ≤ k then new.ports else old.ports
    sources := if 3 ≤ k then new.sources else old.sources
    screens := if 4 ≤ k then new.screens else old.screens
    layouts := if 5 ≤ k then new.layouts else old.layouts
    hotkeys := old.hotkeys }

/-- The settings memory at the end of a save (R184). -/
def savedMemory (outcome : SaveOutcome) (prior : SettingsMemory) (t : Tables) : SettingsMemory :=
  match outcome with
  | .success => { valid := true, image := t }
  | .failedAtClear => prior
  | .failedAtTable k => { valid := false, image := partImage k.val prior.image t }
  | .failedAtMark => { valid := false, image := t }

/-- The reply of a save (R184). -/
def saveReply (outcome : SaveOutcome) : Reply :=
  { status := .ok, clamped := false, saveFailed := decide (outcome ≠ .success), payload := [] }

/-- A port's request in flight is answered and is no longer in flight (R175). -/
def finishRequest (p : Port) (r : Reply) (s : State) : State :=
  match s.mfe.inFlight.get p with
  | some f => sendReply f.kind f.request r (s.modMfe (fun m => { m with inFlight := m.inFlight.set p none }))
  | none => s

/-- The save ends (R184). -/
def endSave (outcome : SaveOutcome) (s : State) : State :=
  match s.mfe.save with
  | none => s
  | some v =>
    let s : State :=
      { s with
        memory := savedMemory outcome v.prior s.tables
        mfe := { s.mfe with save := none, lastSave := if outcome = .success then .succeeded else .failed } }
    (finishRequest v.port (saveReply outcome) s).raise .mfe .saveEnded

/-- A Save Settings taken: BUSY during a save, else the save starts (R184). -/
def takeSave (q : Request) (s : State) : State :=
  if s.managed q.port then
    if (s.mfe.inFlight.get q.port).isSome || s.mfe.save.isSome then sendReply 15 q (plainReply .busy) s
    else startSave q s
  else s

/-! ## The commands -/

/-- NOTICE_RAISE (R179). -/
def execNoticeRaise (k : NoticeKind) (s : State) : Result := .next (takeNotice k (s.taking (.noticeRaise k)))

/-- PACING_TIMER_EXPIRY (R180). -/
def execPacingTimerExpiry (s : State) : Result := .next (s.onExpiry s.mfe.pacing pacingExpires)

/-- READ_ENTRY (R177); naming no table it is answered BADREQ (R174, log 21). -/
def execReadEntry (q : Request) (s : State) : Result :=
  .next
    (match readTable s.tables q.arg1 q.arg2 with
    | none => answerBad 1 q s
    | some b => serve 1 q (fun s => (s, bytesOrRange b)) s)

/-- WRITE_DESK_RECORD (R177, R15, R41, R126, R135, R160, R180). -/
def execWriteDeskRecord (q : Request) (e : RawDesk) (s : State) : Result :=
  .next (serve 2 q (fun s =>
    writeEntry (k := 1) q (checkDesk e) (fun _ _ => false) (fun _ e => deskConflict s.tables e) (fun _ e => storeDesk e) s) s)

/-- WRITE_PORT_ENTRY (R177, R80). -/
def execWritePortEntry (q : Request) (e : RawPort) (s : State) : Result :=
  .next (serve 2 q (writeEntry (k := 6) q (checkPort e) (portDenied q) (fun _ _ => false) storePort) s)

/-- WRITE_SOURCE_ENTRY (R177, R103). -/
def execWriteSourceEntry (q : Request) (e : RawSource) (s : State) : Result :=
  .next (serve 2 q
    (writeEntry (k := 16) q (unclamped (checkSource e)) (fun _ _ => false) (fun _ _ => false) storeSource) s)

/-- WRITE_SCREEN_ENTRY (R177, R39, R117). -/
def execWriteScreenEntry (q : Request) (e : RawScreen) (s : State) : Result :=
  .next (serve 2 q (fun s =>
    writeEntry (k := 8) q (unclamped (checkScreen e)) (fun _ _ => false) (screenConflict s.tables) storeScreen s) s)

/-- WRITE_LAYOUT_ENTRY (R177, R127). -/
def execWriteLayoutEntry (q : Request) (e : RawLayout) (s : State) : Result :=
  .next (serve 2 q
    (writeEntry (k := 16) q (unclamped (checkLayout e)) (fun _ _ => false) (fun _ _ => false) storeLayout) s)

/-- WRITE_HOTKEY_ENTRY (R177, R16, R17). -/
def execWriteHotkeyEntry (q : Request) (e : RawHotkey) (s : State) : Result :=
  .next (serve 2 q (fun s =>
    writeEntry (k := 32) q (unclamped (checkHotkey e)) (fun _ _ => false) (hotkeyConflict s.tables) storeHotkey s) s)

/-- ROUTE_SCREEN (R118). -/
def execRouteScreen (q : Request) (s : State) : Result :=
  .next (serve 3 q
    (withArgs (bothRead (numbered 8 q.arg1) (noneOrNumbered 16 q.arg2)) (fun a => routeRequest a.1 a.2 .management)) s)

/-- RECALL_LAYOUT (R129). -/
def execRecallLayout (q : Request) (s : State) : Result := .next (serve 4 q (withArgs (numbered 16 q.arg1) takeRecall) s)

/-- SET_FOCUS (R69). -/
def execSetFocus (q : Request) (s : State) : Result :=
  .next (serve 5 q (withArgs (noneOrNumbered 6 q.arg1) setFocusTo) s)

/-- SET_SHARE_OFF (R152); its third argument is not looked at (log 44). -/
def execSetShareOff (q : Request) (s : State) : Result := .next (serve 6 q (withArgs (numbered 2 q.arg1) shareNothing) s)

/-- SET_SHARE_FOLLOW (R152). -/
def execSetShareFollow (q : Request) (s : State) : Result :=
  .next (serve 6 q (withArgs (bothRead (numbered 2 q.arg1) (numbered 8 q.arg3)) (fun a => shareScreen a.1 a.2)) s)

/-- SET_SHARE_FIXED (R152); a mode that names none of the three is RANGE (log 20). -/
def execSetShareFixed (q : Request) (s : State) : Result :=
  .next (serve 6 q
    (withArgs (if q.arg2 = 2 then bothRead (numbered 2 q.arg1) (numbered 16 q.arg3) else none)
      (fun a => shareSource a.1 a.2)) s)

/-- WAKE (R161, R176). -/
def execWake (q : Request) (s : State) : Result :=
  .next (serve 7 q (withArgs (numbered 6 q.arg1) (fun p s => s.hand .mfe (.wakeRequest p))) s)

/-- DESK_SLEEP (R169). -/
def execDeskSleep (q : Request) (s : State) : Result :=
  .next (serve 8 q (fun s => (deskSleeps s, plainReply .ok)) s)

/-- HOLD_ROUTES (R125). -/
def execHoldRoutes (q : Request) (s : State) : Result :=
  .next (serve 9 q (fun s => (holdRoutesOn s, plainReply .ok)) s)

/-- RELEASE_ROUTES (R125). -/
def execReleaseRoutes (q : Request) (s : State) : Result :=
  .next (serve 10 q (fun s => (releaseRoutesNow s, plainReply .ok)) s)

/-- READ_STATE (R178); naming no section it is answered BADREQ (R174, log 21). -/
def execReadState (q : Request) (s : State) : Result :=
  .next
    (match sectionBytes s q.arg1 with
    | none => answerBad 11 q s
    | some b => serve 11 q (fun s => (s, bytesOrRange (sectionPart b q.arg2))) s)

/-- READ_NOTICES (R181). -/
def execReadNotices (q : Request) (s : State) : Result := .next (serve 12 q readNoticesNow s)

/-- SET_NOTICE_MASK (R181). -/
def execSetNoticeMask (q : Request) (mask : NoticeSet) (s : State) : Result :=
  .next (serve 13 q (fun s => (s.modMfe (fun m => { m with mask := mask }), plainReply .ok)) s)

/-- READ_COUNTERS_LATCH (R182). -/
def execReadCountersLatch (q : Request) (s : State) : Result :=
  .next (serve 14 q (fun s => (latchCounters s, snapshotReply (latchCounters s))) s)

/-- READ_COUNTERS_LATCH_AND_CLEAR (R182). -/
def execReadCountersLatchAndClear (q : Request) (s : State) : Result :=
  .next (serve 14 q (fun s => ((latchCounters s).clearCounters, snapshotReply (latchCounters s))) s)

/-- READ_COUNTERS_REPEAT (R182); an option that names none of the three is RANGE. -/
def execReadCountersRepeat (q : Request) (s : State) : Result :=
  .next (serve 14 q (fun s => (s, if q.arg1 = 2 then snapshotReply s else plainReply .range)) s)

/-- SAVE_SETTINGS (R184). -/
def execSaveSettings (q : Request) (s : State) : Result := .next (takeSave q s)

/-- SAVE_END (R184). -/
def execSaveEnd (outcome : SaveOutcome) (s : State) : Result := .next (endSave outcome s)

/-- BADREQ (R174). -/
def execBadReq (q : Request) (kind : Nat) (s : State) : Result := .next (answerBad kind q s)

end Sys2Proof.Machine
end

