-- ==== Sys2Proof/Machine/Restart.lean ====
section
/-!
DEFINITION. Reset, the end of the settings load, and Desk Restart, each block's part of them in the order of R183.
-/

namespace Sys2Proof.Machine

/-! ## Reset (R13, R36, R61, R78, R101, R114, R132, R148, R155, R172, R184, R185) -/

/-- Every block takes its reset values and the settings load begins. The commands that wait, the timebase, what has been sent
and the settings memory are not the part's runtime state and stay (log 10). -/
def resetPart (s : State) : State :=
  { State.reset with
    pending := s.pending, choices := s.choices, timebase := s.timebase, sent := s.sent, memory := s.memory }

/-! ## The end of the settings load (R185) -/

/-- The running tables are read from the image, or take the factory defaults when the marker is clear or the memory does not
answer (R185). -/
def loadTables (answers : Bool) (s : State) : State :=
  if answers && s.memory.valid then
    (s.modTables (fun _ => s.memory.image)).modMfe (fun m => { m with loadResult := .image })
  else (s.modTables (fun _ => factoryTables)).modMfe (fun m => { m with loadResult := .factory })

/-- What follows the restart routing in both restarts: the cursor is placed (R61, R62), the ticks and no-signal timers start
(R114, R115, R172, R173), and every target and blanked field is computed (R148). -/
def settleScreens (s : State) : State :=
  recomputeAllBlanked (retargetAll (startNoSignal (startTicks (glideRestart s))))

/-- The settings load ends (R185): the tables, the consoles present (R1), and the restart routing (R132). -/
def loadEnds (answers keyboard pointer : Bool) (s : State) : State :=
  if s.loading then
    let s := { loadTables answers s with loading := false }
    let s := if keyboard then consoleAdd .attach s else s
    let s := if pointer then attachPointer s else s
    settleScreens (restartRouting s)
  else s

/-! ## Desk Restart (R183) -/

/-- Does a hand-off in flight outlive a Desk Restart? What the restart's own clearing answers is dropped; what tells a block of a thing
that the restart leaves as it stands is kept (log 9). The manual is silent on three, where the model chooses: a screen wake, which sets
the level to 0 once more, and a target refresh are kept, and a Desk Sleep action is dropped (R148, R173, log 52). -/
def outlivesRestart : Instr → Bool
  | .keyEvent _ | .consumeRequest _ | .pointerEvent _ | .ledTrigger _ | .lineValue _ _ | .sourceStateChange _ _
  | .fadeWaitReport _ _ | .stateChangeAtDimStage _ _ _ | .switchAtDimStage _ _ | .targetRefresh _ | .screenWake _
  | .switchAtWakeController _ _ | .stateChangeAtWakeController _ _ | .deskWakeInput _ | .noticeRaise _
  | .deskRestartCompletion _ => true
  | _ => false

/-- The pointer events among hand-offs, in the order handed. -/
def pointerEvents (hs : List Handoff) : List PointerEvent :=
  hs.filterMap (fun h => match h.cmd with
    | .pointerEvent e => some e
    | _ => none)

/-- The pointer event in flight, the oldest one handed, is finished before a Desk Restart (R62). -/
def finishPointer (s : State) : State :=
  match pointerEvents s.handoffs with
  | e :: _ => takePointerEvent e (s.taking (.pointerEvent e))
  | [] => s

/-- What was handed before a Desk Restart and is taken before it (log 9): the pointer reports, by their engines (R93, R102); a press,
by the matcher, since its key is in the held set that the restart hands it (R14, R37, R79), and a keyboard-detached indication, which
would else empty that set of the keys held since (R35); and the frame starts, by their Dim Stages, whose levels the restart then sets
to 0 (R115, R148). -/
def takenBefore (t : State) (c : Instr) : State :=
  match c with
  | .portPointerReport p r => pointerReported p r (t.taking c)
  | .keyEvent e => if e.press then takeKeyEvent e (t.taking c) else t
  | .keyboardDetachedIndication => matcherDetached (t.taking c)
  | .rampStep sc v => frameStepped sc v (t.taking c)
  | _ => t

/-- What was handed before a Desk Restart and is taken before it: the pointer event in flight, whose reports follow those handed
before (R62), and the rest in the order handed. -/
def takeBeforeRestart (s : State) : State :=
  let s := finishPointer s
  s.handoffs.foldl (fun t h => takenBefore t h.cmd) s

/-- Is a hand-off of a change of link state left out within a Desk Restart: the PortChanged of a single change, since the restart
raises one for a port that ends in another state (R102), and the change itself, which the Wake Controller takes within the restart
and which finds its record Idle and leaves it there (R173)? -/
def withinRestart (h : Handoff) : Bool :=
  match h.cmd with
  | .noticeRaise .portChanged | .linkStateChange _ _ => true
  | _ => false

/-- Changes of link state made within a Desk Restart (R102, R173). -/
def quietly (f : State → State) (s : State) : State :=
  let t := f { s with handoffs := [] }
  { t with handoffs := s.handoffs ++ t.handoffs.filter (fun h => !withinRestart h) }

/-- Does a field whose change raises FocusChanged differ between two focus records (R77)? -/
def focusDiffers (a b : Fcu) : Bool :=
  decide (a.focus ≠ b.focus) || decide (a.owner ≠ b.owner) || decide (a.lock ≠ b.lock)
  || decide (a.broadcast ≠ b.broadcast) || decide (a.dimOverride ≠ b.dimOverride)

/-- The focus record at Desk Restart (R79). -/
def focusRestart (s : State) : State :=
  let old := s.fcu
  let s := refreshDims (s.modFcu (fun _ => Fcu.reset))
  let s := if old.focus = none then s else s.hand .fcu (.ledTrigger .focusChange)
  if focusDiffers old Fcu.reset then s.raise .fcu .focusChanged else s

/-- PortChanged for every port whose link state differs from that in an earlier state (R102). -/
def notePorts (before s : State) : State :=
  allPorts.foldl (fun t p =>
    if (before.cpe.get p).linkState = (t.cpe.get p).linkState then t else t.raise (.cpe p) .portChanged) s

/-- The input path at Desk Restart: the matcher (R37), the ports to Detached, the focus record, and the ports re-taken
(R79, R102). -/
def restartInput (s : State) : State :=
  let t := takeBeforeRestart s
  let t := matcherRestart t.cip.held { t with handoffs := t.handoffs.filter (fun h => outlivesRestart h.cmd) }
  let t := quietly (fun s => allPorts.foldl (fun s p => detachPort p s) s) t
  let t := focusRestart t
  notePorts s (quietly (fun s => allPorts.foldl (fun s p => retake p s) s) t)

/-- Desk Restart at every block (R183). -/
def deskRestarts (s : State) : State :=
  let s := (restartInput s).modWkc (fun _ => Wkc.reset)
  consoleGoesOn (settleScreens (restartRouting (sharesOff (dimRestart s))))

/-- A Desk Restart taken: BUSY during a save; else it is in flight until every block has taken the restart (R175, R183). -/
def takeRestart (q : Request) (s : State) : State :=
  if s.managed q.port then
    if (s.mfe.inFlight.get q.port).isSome || s.mfe.save.isSome then sendReply 16 q (plainReply .busy) s
    else
      (deskRestarts
        (s.modMfe (fun m => { m with inFlight := m.inFlight.set q.port (some { kind := 16, request := q }) }))).hand .mfe
        (.deskRestartCompletion q.port)
  else s

/-- The restart has been served at every block: its reply is handed (R183). -/
def restartDone (p : Port) (s : State) : State :=
  match s.mfe.inFlight.get p with
  | some f => if f.kind = 16 then finishRequest p (plainReply .ok) s else s
  | none => s

/-! ## The commands -/

/-- RESET. -/
def execReset (s : State) : Result := .next (resetPart s)

/-- SETTINGS_LOAD_END (R185): it changes nothing when no load is running. -/
def execSettingsLoadEnd (answers keyboard pointer : Bool) (s : State) : Result :=
  .next (loadEnds answers keyboard pointer s)

/-- DESK_RESTART (R183). -/
def execDeskRestart (q : Request) (s : State) : Result := .next (takeRestart q s)

/-- DESK_RESTART_COMPLETION (R183). -/
def execDeskRestartCompletion (p : Port) (s : State) : Result :=
  .next (restartDone p (s.taking (.deskRestartCompletion p)))

end Sys2Proof.Machine
end

