-- ==== Sys2Proof/Machine/Dispatch.lean ====
section
/-! DEFINITION. One arm per command: each calls the meaning of its row. -/

namespace Sys2Proof.Machine

/-- The effect of a command on everything but the queue of waiting commands. -/
def exec (i : Instr) (s : State) : Host.Outcome State Fault Refusal :=
  match i with
  | .reset => Sys2Proof.Machine.execReset s
  | .settingsLoadEnd memoryAnswers keyboardPresent pointerPresent => Sys2Proof.Machine.execSettingsLoadEnd memoryAnswers keyboardPresent pointerPresent s
  | .keyboardAttach => Sys2Proof.Machine.execKeyboardAttach s
  | .keyboardDetach => Sys2Proof.Machine.execKeyboardDetach s
  | .pointerAttach => Sys2Proof.Machine.execPointerAttach s
  | .pointerDetach => Sys2Proof.Machine.execPointerDetach s
  | .keyboardReport r => Sys2Proof.Machine.execKeyboardReport r s
  | .pointerReport r => Sys2Proof.Machine.execPointerReport r s
  | .ledTrigger c => Sys2Proof.Machine.execLedTrigger c s
  | .keyEvent e => Sys2Proof.Machine.execKeyEvent e s
  | .tapWindowExpiry => Sys2Proof.Machine.execTapWindowExpiry s
  | .sequenceTimerExpiry => Sys2Proof.Machine.execSequenceTimerExpiry s
  | .holdTimerExpiry => Sys2Proof.Machine.execHoldTimerExpiry s
  | .keyboardDetachedIndication => Sys2Proof.Machine.execKeyboardDetachedIndication s
  | .consumeRequest k => Sys2Proof.Machine.execConsumeRequest k s
  | .passedEvent k press => Sys2Proof.Machine.execPassedEvent k press s
  | .focus c => Sys2Proof.Machine.execFocus c s
  | .focusNext => Sys2Proof.Machine.execFocusNext s
  | .focusPrevious => Sys2Proof.Machine.execFocusPrevious s
  | .momentaryFocus c => Sys2Proof.Machine.execMomentaryFocus c s
  | .momentaryReturn => Sys2Proof.Machine.execMomentaryReturn s
  | .lock => Sys2Proof.Machine.execLock s
  | .broadcast => Sys2Proof.Machine.execBroadcast s
  | .dimOverride => Sys2Proof.Machine.execDimOverride s
  | .dimOverrideHold => Sys2Proof.Machine.execDimOverrideHold s
  | .dimOverrideRelease => Sys2Proof.Machine.execDimOverrideRelease s
  | .cursorScreenChange c => Sys2Proof.Machine.execCursorScreenChange c s
  | .jumpAnswer c cause landing => Sys2Proof.Machine.execJumpAnswer c cause landing s
  | .switchNotice sc => Sys2Proof.Machine.execSwitchNotice sc s
  | .layoutCompletion f restart => Sys2Proof.Machine.execLayoutCompletion f restart s
  | .pointerEvent e => Sys2Proof.Machine.execPointerEvent e s
  | .cursorNotice => Sys2Proof.Machine.execCursorNotice s
  | .jumpRequest c cause => Sys2Proof.Machine.execJumpRequest c cause s
  | .homeRecordRequest c => Sys2Proof.Machine.execHomeRecordRequest c s
  | .pressureHoldTimerExpiry => Sys2Proof.Machine.execPressureHoldTimerExpiry s
  | .linkConfigured p => Sys2Proof.Machine.execLinkConfigured p s
  | .linkSuspended p => Sys2Proof.Machine.execLinkSuspended p s
  | .linkResumed p => Sys2Proof.Machine.execLinkResumed p s
  | .linkDetached p => Sys2Proof.Machine.execLinkDetached p s
  | .keyboardPoll p => Sys2Proof.Machine.execKeyboardPoll p s
  | .pointerPoll p => Sys2Proof.Machine.execPointerPoll p s
  | .wakeArmed p => Sys2Proof.Machine.execWakeArmed p s
  | .wakeDisarmed p => Sys2Proof.Machine.execWakeDisarmed p s
  | .ledOutputReport p lamps => Sys2Proof.Machine.execLedOutputReport p lamps s
  | .portKeyPress p k => Sys2Proof.Machine.execPortKeyPress p k s
  | .portKeyRelease p k => Sys2Proof.Machine.execPortKeyRelease p k s
  | .ignoreRelease p k => Sys2Proof.Machine.execIgnoreRelease p k s
  | .leaveIndication p => Sys2Proof.Machine.execLeaveIndication p s
  | .joinIndication p keys => Sys2Proof.Machine.execJoinIndication p keys s
  | .portPointerReport p r => Sys2Proof.Machine.execPortPointerReport p r s
  | .wakeBegins p => Sys2Proof.Machine.execWakeBegins p s
  | .wakeFailed p => Sys2Proof.Machine.execWakeFailed p s
  | .recoveryEnded p => Sys2Proof.Machine.execRecoveryEnded p s
  | .stallTimerExpiry p => Sys2Proof.Machine.execStallTimerExpiry p s
  | .frameStart v now => Sys2Proof.Machine.execFrameStart v now s
  | .lineStart v => Sys2Proof.Machine.execLineStart v s
  | .lossTimerExpiry v => Sys2Proof.Machine.execLossTimerExpiry v s
  | .route sc target => Sys2Proof.Machine.execRoute sc target s
  | .layout l => Sys2Proof.Machine.execLayout l s
  | .peek v sc entry held => Sys2Proof.Machine.execPeek v sc entry held s
  | .peekRevert entry => Sys2Proof.Machine.execPeekRevert entry s
  | .lineValue v line => Sys2Proof.Machine.execLineValue v line s
  | .sourceStateChange v change => Sys2Proof.Machine.execSourceStateChange v change s
  | .fadeWaitReport sc number => Sys2Proof.Machine.execFadeWaitReport sc number s
  | .routeHoldTimerExpiry => Sys2Proof.Machine.execRouteHoldTimerExpiry s
  | .rampStep sc v => Sys2Proof.Machine.execRampStep sc v s
  | .substituteTickExpiry sc => Sys2Proof.Machine.execSubstituteTickExpiry sc s
  | .stateChangeAtDimStage sc v st => Sys2Proof.Machine.execStateChangeAtDimStage sc v st s
  | .fadeRequest sc number => Sys2Proof.Machine.execFadeRequest sc number s
  | .drop sc => Sys2Proof.Machine.execDrop sc s
  | .switchAtDimStage sc source => Sys2Proof.Machine.execSwitchAtDimStage sc source s
  | .targetRefresh sc => Sys2Proof.Machine.execTargetRefresh sc s
  | .screenWake sc => Sys2Proof.Machine.execScreenWake sc s
  | .share o sc => Sys2Proof.Machine.execShare o sc s
  | .shareOff o => Sys2Proof.Machine.execShareOff o s
  | .followedScreenSwitch sc source => Sys2Proof.Machine.execFollowedScreenSwitch sc source s
  | .wakeRequest p => Sys2Proof.Machine.execWakeRequest p s
  | .wakeBeginsRefusal p => Sys2Proof.Machine.execWakeBeginsRefusal p s
  | .linkStateChange p st => Sys2Proof.Machine.execLinkStateChange p st s
  | .wakeSignalEnd p => Sys2Proof.Machine.execWakeSignalEnd p s
  | .wakeTimerExpiry p => Sys2Proof.Machine.execWakeTimerExpiry p s
  | .recoveryTimerExpiry p => Sys2Proof.Machine.execRecoveryTimerExpiry p s
  | .switchAtWakeController sc source => Sys2Proof.Machine.execSwitchAtWakeController sc source s
  | .stateChangeAtWakeController v st => Sys2Proof.Machine.execStateChangeAtWakeController v st s
  | .noSignalTimerExpiry sc => Sys2Proof.Machine.execNoSignalTimerExpiry sc s
  | .deskSleepAction => Sys2Proof.Machine.execDeskSleepAction s
  | .deskWakeInput k => Sys2Proof.Machine.execDeskWakeInput k s
  | .noticeRaise k => Sys2Proof.Machine.execNoticeRaise k s
  | .pacingTimerExpiry => Sys2Proof.Machine.execPacingTimerExpiry s
  | .readEntry q => Sys2Proof.Machine.execReadEntry q s
  | .writeDeskRecord q e => Sys2Proof.Machine.execWriteDeskRecord q e s
  | .writePortEntry q e => Sys2Proof.Machine.execWritePortEntry q e s
  | .writeSourceEntry q e => Sys2Proof.Machine.execWriteSourceEntry q e s
  | .writeScreenEntry q e => Sys2Proof.Machine.execWriteScreenEntry q e s
  | .writeLayoutEntry q e => Sys2Proof.Machine.execWriteLayoutEntry q e s
  | .writeHotkeyEntry q e => Sys2Proof.Machine.execWriteHotkeyEntry q e s
  | .routeScreen q => Sys2Proof.Machine.execRouteScreen q s
  | .recallLayout q => Sys2Proof.Machine.execRecallLayout q s
  | .setFocus q => Sys2Proof.Machine.execSetFocus q s
  | .setShareOff q => Sys2Proof.Machine.execSetShareOff q s
  | .setShareFollow q => Sys2Proof.Machine.execSetShareFollow q s
  | .setShareFixed q => Sys2Proof.Machine.execSetShareFixed q s
  | .wake q => Sys2Proof.Machine.execWake q s
  | .deskSleep q => Sys2Proof.Machine.execDeskSleep q s
  | .holdRoutes q => Sys2Proof.Machine.execHoldRoutes q s
  | .releaseRoutes q => Sys2Proof.Machine.execReleaseRoutes q s
  | .readState q => Sys2Proof.Machine.execReadState q s
  | .readNotices q => Sys2Proof.Machine.execReadNotices q s
  | .setNoticeMask q mask => Sys2Proof.Machine.execSetNoticeMask q mask s
  | .readCountersLatch q => Sys2Proof.Machine.execReadCountersLatch q s
  | .readCountersLatchAndClear q => Sys2Proof.Machine.execReadCountersLatchAndClear q s
  | .readCountersRepeat q => Sys2Proof.Machine.execReadCountersRepeat q s
  | .saveSettings q => Sys2Proof.Machine.execSaveSettings q s
  | .saveEnd outcome => Sys2Proof.Machine.execSaveEnd outcome s
  | .deskRestart q => Sys2Proof.Machine.execDeskRestart q s
  | .deskRestartCompletion p => Sys2Proof.Machine.execDeskRestartCompletion p s
  | .badReq q kind => Sys2Proof.Machine.execBadReq q kind s

end Sys2Proof.Machine
end

