-- ==== Sys2Proof/Machine/Moves.lean ====
section
/-!
DEFINITION. How the part goes on by itself when no command waits: the moves open to it (a hand-off taken, a timer that is due,
console work gone on with), the free choice among them, and the passing of time (log 2, log 3, log 4).
-/

namespace Sys2Proof.Machine

/-! ## Timers that are due -/

/-- Every timer of the part, with the command that is its expiry. -/
def timers (s : State) : List (Timer × Instr) :=
  [(s.hkm.tapWindow, .tapWindowExpiry), (s.hkm.sequence, .sequenceTimerExpiry), (s.hkm.hold, .holdTimerExpiry),
   (s.glu.pressureHold, .pressureHoldTimerExpiry), (s.xpc.hold.map (fun h => h.expiry), .routeHoldTimerExpiry),
   (s.mfe.pacing, .pacingTimerExpiry)]
  ++ allPorts.flatMap (fun p =>
    [((s.cpe.get p).stall, .stallTimerExpiry p), ((s.wkc.wakes.get p).signal, .wakeSignalEnd p),
     ((s.wkc.wakes.get p).timer, .wakeTimerExpiry p), ((s.wkc.wakes.get p).recovery, .recoveryTimerExpiry p)])
  ++ allSources.map (fun v => ((s.fmn.get v).loss, .lossTimerExpiry v))
  ++ allScreens.flatMap (fun sc =>
    [((s.dms.get sc).tick, .substituteTickExpiry sc), ((s.wkc.power.get sc).noSignal, .noSignalTimerExpiry sc)])

/-- Has a timer reached its expiry? -/
def timerDue (now : Nat) (t : Timer) : Bool :=
  match t with
  | some e => decide (e ≤ now)
  | none => false

/-- The expiries that are due. -/
def dueExpiries (s : State) : List Instr := ((timers s).filter (fun x => timerDue s.timebase x.1)).map Prod.snd

/-! ## Hand-offs that may be taken -/

/-- Is a command a pointer report to a port? -/
def isPortReport : Instr → Bool
  | .portPointerReport _ _ => true
  | _ => false

/-- Is a command the wake begins of a port that an earlier hand-off has a pointer report for? The report of a crossing finds the
port still Suspended (R93, log 4). -/
def wakesReported (a b : Handoff) : Bool :=
  match a.cmd, b.cmd with
  | .wakeBegins p, .portPointerReport q _ => decide (p = q)
  | _, _ => false

/-- A hand-off and an earlier one that must be taken before it: those of one block to one block, all pointer reports to ports
(R55), and the wake begins of a port after the pointer reports handed to it (R93, log 4). -/
def sameChannel (a b : Handoff) : Bool :=
  (decide (a.src = b.src) && decide (taker a.cmd = taker b.cmd)) || (isPortReport a.cmd && isPortReport b.cmd)
  || wakesReported a b

/-- The hand-offs with no earlier one of their channel, as the commands that take them. -/
def openFrom (earlier : List Handoff) : List Handoff → List Instr
  | [] => []
  | h :: hs =>
    if earlier.any (sameChannel h) then openFrom (h :: earlier) hs else h.cmd :: openFrom (h :: earlier) hs

/-! ## Going on -/

/-- The moves open to the part: hand-offs, expiries, and (as none) the Console Input Port going on with its work. -/
def moves (s : State) : List (Option Instr) :=
  (openFrom [] s.handoffs).map some ++ (dueExpiries s).map some ++ (if s.consoleReady then [none] else [])

/-- A move is made. -/
def makeMove (m : Option Instr) (s : State) : Result :=
  match m with
  | some c => exec c s
  | none => .next (consoleGoesOn s)

/-- The number of the move made among several, for a free choice (log 3). -/
def choose (s : State) (n : Nat) : Nat := Config.handoffChoice s.choices % n

/-- The part with no command waiting: it makes a move, the one that the free choice names when several are open; with none
open a microsecond passes (log 2). -/
def goOn (s : State) : Result :=
  match moves s with
  | [] => .next { s with timebase := s.timebase + 1 }
  | [m] => makeMove m s
  | m :: n :: ms =>
    makeMove ((m :: n :: ms).getD (choose s (ms.length + 2)) m) { s with choices := s.choices + 1 }

end Sys2Proof.Machine
end

