-- ==== Sys2Proof/Safety.lean ====
section
/-!
DEFINITION. The invariants of the part: what holds of the state after every command, by the whole-machine statements of the
manual (INVENTORY.md, "Instructions").
-/

namespace Sys2Proof.Machine

/-! ## Frames -/

/-- The fields of State. -/
inductive StateField where
  | pending | handoffs | choices | timebase | sent | loading | memory | tables | cip | hkm | glu | fcu | cpe | fmn | xpc
  | dms | sou | wkc | mfe
deriving DecidableEq, Repr

/-- Two states agree on a field. -/
def StateField.same (f : StateField) (s t : State) : Prop :=
  match f with
  | .pending => t.pending = s.pending
  | .handoffs => t.handoffs = s.handoffs
  | .choices => t.choices = s.choices
  | .timebase => t.timebase = s.timebase
  | .sent => t.sent = s.sent
  | .loading => t.loading = s.loading
  | .memory => t.memory = s.memory
  | .tables => t.tables = s.tables
  | .cip => t.cip = s.cip
  | .hkm => t.hkm = s.hkm
  | .glu => t.glu = s.glu
  | .fcu => t.fcu = s.fcu
  | .cpe => t.cpe = s.cpe
  | .fmn => t.fmn = s.fmn
  | .xpc => t.xpc = s.xpc
  | .dms => t.dms = s.dms
  | .sou => t.sou = s.sou
  | .wkc => t.wkc = s.wkc
  | .mfe => t.mfe = s.mfe

/-- Every field but the listed ones is unchanged from the first state to the second. -/
def Keeps (touched : List StateField) (s t : State) : Prop := ∀ f : StateField, f ∉ touched → f.same s t

/-- The fields of State that each command may change; every other field it leaves (spec/95_what_each_step_holds.md). -/
def touches : Instr → List StateField
  | .reset =>
    [.handoffs, .loading, .tables, .cip, .hkm, .glu, .fcu, .cpe, .fmn, .xpc, .dms, .sou, .wkc, .mfe]
  | .settingsLoadEnd _ _ _ =>
    [.handoffs, .sent, .loading, .tables, .cip, .hkm, .glu, .xpc, .dms, .sou, .wkc, .mfe]
  | .keyboardAttach | .keyboardDetach | .keyboardReport _ | .keyEvent _ =>
    [.handoffs, .sent, .cip, .hkm]
  | .pointerAttach =>
    [.cip]
  | .pointerDetach | .pointerReport _ =>
    [.handoffs, .cip]
  | .ledTrigger _ =>
    [.handoffs, .sent, .cip]
  | .tapWindowExpiry | .sequenceTimerExpiry | .holdTimerExpiry =>
    [.handoffs, .timebase, .hkm]
  | .keyboardDetachedIndication | .consumeRequest _ =>
    [.handoffs, .hkm]
  | .passedEvent _ _ | .focus _ | .focusNext | .focusPrevious | .momentaryFocus _ | .momentaryReturn | .lock
  | .broadcast | .dimOverride | .dimOverrideHold | .dimOverrideRelease | .layoutCompletion _ _ =>
    [.handoffs, .fcu]
  | .cursorScreenChange _ | .jumpAnswer _ _ _ | .switchNotice _ =>
    [.handoffs, .fcu, .cpe]
  | .pointerEvent _ =>
    [.handoffs, .glu, .fcu, .cpe]
  | .cursorNotice | .jumpRequest _ _ | .homeRecordRequest _ =>
    [.handoffs, .glu]
  | .pressureHoldTimerExpiry =>
    [.timebase, .glu]
  | .linkConfigured _ | .keyboardPoll _ | .pointerPoll _ | .recoveryEnded _ =>
    [.handoffs, .sent, .cpe]
  | .linkSuspended _ | .linkResumed _ | .linkDetached _ | .ledOutputReport _ _ | .portKeyPress _ _
  | .portKeyRelease _ _ | .ignoreRelease _ _ | .leaveIndication _ | .joinIndication _ _
  | .portPointerReport _ _ | .wakeBegins _ | .wakeFailed _ =>
    [.handoffs, .cpe]
  | .wakeArmed _ | .wakeDisarmed _ =>
    [.cpe]
  | .stallTimerExpiry _ =>
    [.handoffs, .timebase, .cpe]
  | .frameStart _ _ | .lossTimerExpiry _ =>
    [.handoffs, .timebase, .fmn]
  | .lineStart _ =>
    [.handoffs, .fmn]
  | .route _ _ | .layout _ | .peek _ _ _ _ | .peekRevert _ | .lineValue _ _ | .sourceStateChange _ _
  | .fadeWaitReport _ _ =>
    [.handoffs, .xpc, .sou]
  | .routeHoldTimerExpiry =>
    [.handoffs, .timebase, .xpc, .sou]
  | .rampStep _ _ | .stateChangeAtDimStage _ _ _ | .fadeRequest _ _ | .drop _ | .switchAtDimStage _ _
  | .targetRefresh _ | .screenWake _ =>
    [.handoffs, .dms]
  | .substituteTickExpiry _ =>
    [.handoffs, .timebase, .dms]
  | .share _ _ | .shareOff _ | .followedScreenSwitch _ _ =>
    [.handoffs, .sou]
  | .wakeRequest _ | .wakeBeginsRefusal _ | .linkStateChange _ _ | .switchAtWakeController _ _
  | .stateChangeAtWakeController _ _ | .deskSleepAction | .deskWakeInput _ =>
    [.handoffs, .wkc]
  | .wakeSignalEnd _ | .noSignalTimerExpiry _ =>
    [.timebase, .wkc]
  | .wakeTimerExpiry _ | .recoveryTimerExpiry _ =>
    [.handoffs, .timebase, .wkc]
  | .noticeRaise _ | .deskRestartCompletion _ =>
    [.handoffs, .sent, .mfe]
  | .pacingTimerExpiry =>
    [.timebase, .sent, .mfe]
  | .readEntry _ | .readState _ | .readCountersRepeat _ | .badReq _ _ =>
    [.sent]
  | .writeDeskRecord _ _ =>
    [.handoffs, .sent, .tables, .hkm, .xpc, .dms, .sou, .mfe]
  | .writePortEntry _ _ =>
    [.handoffs, .sent, .tables, .cpe]
  | .writeSourceEntry _ _ =>
    [.handoffs, .sent, .tables, .fcu, .cpe, .sou]
  | .writeScreenEntry _ _ =>
    [.handoffs, .sent, .tables, .glu, .fcu, .cpe, .xpc, .dms, .sou]
  | .writeLayoutEntry _ _ =>
    [.sent, .tables]
  | .writeHotkeyEntry _ _ =>
    [.handoffs, .sent, .tables, .hkm]
  | .routeScreen _ | .recallLayout _ | .releaseRoutes _ =>
    [.handoffs, .sent, .xpc, .sou]
  | .setFocus _ =>
    [.handoffs, .sent, .fcu]
  | .setShareOff _ | .setShareFollow _ | .setShareFixed _ =>
    [.handoffs, .sent, .sou]
  | .wake _ =>
    [.handoffs, .sent]
  | .deskSleep _ =>
    [.handoffs, .sent, .wkc]
  | .holdRoutes _ =>
    [.sent, .xpc]
  | .readNotices _ | .setNoticeMask _ _ | .readCountersLatch _ =>
    [.sent, .mfe]
  | .readCountersLatchAndClear _ =>
    [.sent, .cpe, .hkm, .xpc, .mfe]
  | .saveSettings _ =>
    [.sent, .memory, .mfe]
  | .saveEnd _ =>
    [.handoffs, .sent, .memory, .mfe]
  | .deskRestart _ =>
    [.handoffs, .sent, .cip, .hkm, .glu, .fcu, .cpe, .xpc, .dms, .sou, .wkc, .mfe]

/-- The replicated block that takes a command whole: a port's engine, a source's monitor or a screen's Dim Stage. -/
def engineOf : Instr → Option Block
  | .linkConfigured p | .linkSuspended p | .linkResumed p | .linkDetached p | .keyboardPoll p | .pointerPoll p
  | .wakeArmed p | .wakeDisarmed p | .ledOutputReport p _ | .portKeyPress p _ | .portKeyRelease p _ | .ignoreRelease p _
  | .leaveIndication p | .joinIndication p _ | .portPointerReport p _ | .wakeBegins p | .wakeFailed p | .recoveryEnded p
  | .stallTimerExpiry p => some (.cpe p)
  | .frameStart v _ | .lineStart v | .lossTimerExpiry v => some (.fmn v)
  | .rampStep sc _ | .substituteTickExpiry sc | .stateChangeAtDimStage sc _ _ | .fadeRequest sc _ | .drop sc
  | .switchAtDimStage sc _ | .targetRefresh sc | .screenWake sc => some (.dms sc)
  | _ => none

/-- The port whose wake record a command of the Wake Controller concerns. -/
def wakePortOf : Instr → Option Port
  | .wakeRequest p | .wakeBeginsRefusal p | .linkStateChange p _ | .wakeSignalEnd p | .wakeTimerExpiry p
  | .recoveryTimerExpiry p => some p
  | _ => none

/-! ## What is handed on -/

/-- What a change of a port's link state hands on (R82): PortChanged, an LED trigger when the port enters or leaves Active,
and the change to the Wake Controller; nothing when the state stays. -/
def handedByMove (p : Port) (old new : LinkState) : List Handoff :=
  if old = new then []
  else
    [{ src := .cpe p, cmd := .noticeRaise .portChanged }]
    ++ (if old = .active ∨ new = .active then [{ src := .cpe p, cmd := .ledTrigger (.port p) }] else [])
    ++ [{ src := .cpe p, cmd := .linkStateChange p new }]

/-- What a change of a source's state hands on (R111): to the Crosspoint Controller, to every Dim Stage and to the Wake
Controller. -/
def handedByState (v : Source) (old st : SourceState) : List Handoff :=
  [{ src := .fmn v, cmd := .sourceStateChange v { old := old, new := st } }]
  ++ allScreens.map (fun sc => { src := .fmn v, cmd := .stateChangeAtDimStage sc v st })
  ++ [{ src := .fmn v, cmd := .stateChangeAtWakeController v st }]

/-- What a frame start of a Locked source hands on (R111): a step to the Dim Stage of every screen that shows it or waits to switch
onto it (log 42), and line 0. -/
def handedByFrame (s : State) (v : Source) : List Handoff :=
  (allScreens.filter (frameConcerns s v)).map (fun sc => { src := .fmn v, cmd := .rampStep sc v })
  ++ [{ src := .fmn v, cmd := .lineValue v 0 }]

/-- What the matcher hands for a fired action of an entry, its screen or computer resolved as it fires (R31, R32); `held` says
that it fires as a hold action (R33). -/
def handedByAction (s : State) (n : EntryNo) (held : Bool) (a : Action) : List Handoff :=
  let handed : List Instr :=
    match a with
    | .focus c => [if held then .momentaryFocus c else .focus c]
    | .focusNext => [.focusNext]
    | .focusPrevious => [.focusPrevious]
    | .layout l => [.layout l]
    | .route sc t => [.route (sc.getD s.glu.screen) t]
    | .share o sc => [.share o (sc.getD s.glu.screen)]
    | .shareOff o => [.shareOff o]
    | .peek v sc => [.peek v (sc.getD s.glu.screen) n held]
    | .wake (some c) => [.wakeRequest c]
    | .wake none => (s.screenOwner s.glu.screen).toList.map .wakeRequest
    | .wakeAll => allPorts.map .wakeRequest
    | .lock => [.lock]
    | .broadcast => [.broadcast]
    | .dimOverride => [if held then .dimOverrideHold else .dimOverride]
    | .deskSleep => [.deskSleepAction]
  handed.map (fun c => { src := .hkm, cmd := c })

/-- What the matcher hands for the revert of a hold action of an entry (R33). -/
def handedByRevert (n : EntryNo) (a : Action) : List Handoff :=
  match a with
  | .focus _ => [{ src := .hkm, cmd := .momentaryReturn }]
  | .peek _ _ => [{ src := .hkm, cmd := .peekRevert n }]
  | .dimOverride => [{ src := .hkm, cmd := .dimOverrideRelease }]
  | .focusNext | .focusPrevious | .layout _ | .route _ _ | .share _ _ | .shareOff _ | .wake _ | .wakeAll | .lock
  | .broadcast | .deskSleep => []

/-- The matcher's withheld events as they are delivered, oldest first (R24). -/
def withheld (s : State) : List Handoff := s.hkm.buffer.map (fun x => { src := .hkm, cmd := .passedEvent x.1 x.2 })

/-- What a change of keyboard focus hands on, in the order of R65: the request for the home record of the computer left and the jump
request, where the cause moves the cursor; the leaves and joins; a wake request for a Suspended port with wake armed; the LED trigger;
the target refreshes; and FocusChanged. -/
def handedByFocus (s : State) (new : Option Computer) (cause : FocusCause) (jump : Bool) : List Handoff :=
  let after : State := { s with fcu := { s.fcu with focus := new } }
  let moved (c : Option Computer) : List Computer := if jump then c.toList else []
  (moved s.fcu.focus).map (fun f => { src := .fcu, cmd := .homeRecordRequest f })
  ++ allPorts.filterMap (fun p =>
    if s.isTarget p = true ∧ after.isTarget p = false then some { src := .fcu, cmd := .leaveIndication p }
    else if s.isTarget p = false ∧ after.isTarget p = true then
      some { src := .fcu, cmd := .joinIndication p s.fcu.passedKeys }
    else none)
  ++ (moved new).map (fun c => { src := .fcu, cmd := .jumpRequest c cause })
  ++ (new.toList.filter (fun c => decide ((s.cpe.get c).linkState = .suspended) && (s.cpe.get c).wakeArmed)).map (fun c =>
    { src := .fcu, cmd := .wakeRequest c })
  ++ [{ src := .fcu, cmd := .ledTrigger .focusChange }]
  ++ allScreens.map (fun sc => { src := .fcu, cmd := .targetRefresh sc })
  ++ [{ src := .fcu, cmd := .noticeRaise .focusChanged }]

/-- What a pointer event that does not cross does beside the cursor: the released buttons leave every port's pointer-ignore set (R66),
and when the position differs or the event carries a button change or wheel, the report is handed to the owner of the cursor source
when that is the pointer owner (R54). -/
def EventReported (e : PointerEvent) (s t : State) : Prop :=
  t.fcu = s.fcu
  ∧ (∀ p : Port, t.cpe.get p =
    { s.cpe.get p with pointerIgnored := Flags.minus (s.cpe.get p).pointerIgnored e.released })
  ∧ t.handoffs = withoutFirst (.pointerEvent e) s.handoffs ++
    match s.glu.source, s.glu.sourceOwner with
    | some v, some p =>
      if s.fcu.owner = some p
          ∧ (t.glu.pos ≠ s.glu.pos ∨ e.pressed.any = true ∨ e.released.any = true ∨ e.wheel ≠ 0) then
        [{ src := .glu, cmd := .portPointerReport p
            { absX := (mapCursor t v).1, absY := (mapCursor t v).2
              buttons := Flags.minus e.held (t.cpe.get p).pointerIgnored, wheel := e.wheel } }]
      else []
    | _, _ => []

/-! ## Requests -/

/-- A request is served (R174, R175, R177): its port is Active with management, is enabled with its link Up, and has no other
request in flight, and no save is in flight. -/
def Served (s : State) (q : Request) : Prop :=
  s.managed q.port = true ∧ s.mfe.inFlight.get q.port = none ∧ s.mfe.save = none ∧ (s.portEntry q.port).enabled = true
  ∧ (s.cpe.get q.port).link = .up

/-- Does a new pending of a screen wait (R120, R121): for the end of route hold, for its fade, or for a line of a Locked source? -/
def requestWaits (s : State) (sc : Screen) (target : Option Source) : Bool :=
  s.xpc.hold.isSome || (s.screenEntry sc).fade
  || (s.showsLocked target && decide ((s.screenEntry sc).switchMode = .frame))

/-- The route record of a screen after a request for a target (R119, R121): a request for the active source leaves no pending;
another leaves a pending that waits, or switches the screen at once. -/
def requestedRecord (s : State) (sc : Screen) (target : Option Source) (cause : RouteCause) : RouteRecord :=
  if target = s.active sc then { active := target, pending := none }
  else if requestWaits s sc target then
    { active := s.active sc
      pending := some
        { target := target, line := (s.screenEntry sc).switchLine, cause := cause, quiet := decide (cause = .peek)
          number := (s.xpc.counts.get sc + 1) % 65536 } }
  else { active := target, pending := none }

/-- Does a layout in flight complete by the screens that leave it: one that is outstanding leaves, and none is left (R130)? -/
def LayoutCompletes (gone : Screen → Prop) (l : LayoutInFlight) : Prop :=
  (∃ sc : Screen, l.outstanding.get sc = true ∧ gone sc) ∧ ∀ sc : Screen, l.outstanding.get sc = true → gone sc

/-- The screens that leave the outstanding set of the layout in flight leave it, and the layout completes when none is left: the record
becomes absent, its focus field is handed and LayoutDone is raised; no other completion is handed (R130, R131). -/
def LayoutLeft (gone : Screen → Prop) (s t : State) : Prop :=
  (s.xpc.layout = none → t.xpc.layout = none)
  ∧ (∀ l : LayoutInFlight, s.xpc.layout = some l →
    (LayoutCompletes gone l → t.xpc.layout = none)
    ∧ (¬LayoutCompletes gone l → ∃ rest : ScreenSet, t.xpc.layout = some { l with outstanding := rest }
      ∧ ∀ sc : Screen, rest.get sc = true ↔ l.outstanding.get sc = true ∧ ¬gone sc))
  ∧ (∀ f : FocusField, ({ src := .xpc, cmd := .layoutCompletion f false } : Handoff) ∈ t.handoffs ↔
    { src := .xpc, cmd := .layoutCompletion f false } ∈ s.handoffs
    ∨ ∃ l : LayoutInFlight, s.xpc.layout = some l ∧ LayoutCompletes gone l ∧ f = l.focus)
  ∧ (({ src := .xpc, cmd := .noticeRaise .layoutDone } : Handoff) ∈ t.handoffs ↔
    { src := .xpc, cmd := .noticeRaise .layoutDone } ∈ s.handoffs
    ∨ ∃ l : LayoutInFlight, s.xpc.layout = some l ∧ LayoutCompletes gone l)

/-- RouteDone and RouteForced are raised in the cases given and in no other (R134). -/
def RouteNotices (done forced : Prop) (s t : State) : Prop :=
  let raised (k : NoticeKind) : Handoff := { src := .xpc, cmd := .noticeRaise k }
  (raised .routeDone ∈ t.handoffs ↔ raised .routeDone ∈ s.handoffs ∨ done)
  ∧ (raised .routeForced ∈ t.handoffs ↔ raised .routeForced ∈ s.handoffs ∨ forced)

/-- At the switches given, each a screen with its new active source, every share output that follows such a screen takes the source as
its own with its blanked field, ShareBlanked is raised for each that goes from no to yes, and the other outputs stand (R153, R154). -/
def SharesFollow (switched : Screen → Option Source → Prop) (s t : State) : Prop :=
  (∀ (o : ShareOut) (sc : Screen) (v : Option Source), follows (s.sou.get o) sc = true → switched sc v →
    t.sou.get o = { mode := .follow sc v, blanked := s.isPrivate v })
  ∧ (∀ o : ShareOut, (∀ (sc : Screen) (v : Option Source), follows (s.sou.get o) sc = true → ¬switched sc v) →
    t.sou.get o = s.sou.get o)
  ∧ (({ src := .sou, cmd := .noticeRaise .shareBlanked } : Handoff) ∈ t.handoffs ↔
    { src := .sou, cmd := .noticeRaise .shareBlanked } ∈ s.handoffs
    ∨ ∃ (o : ShareOut) (sc : Screen) (v : Option Source),
      follows (s.sou.get o) sc = true ∧ switched sc v ∧ s.isPrivate v = true ∧ (s.sou.get o).blanked = false)

/-- The screens that switch between two states, each with its new active source. -/
def Switched (s t : State) (sc : Screen) (v : Option Source) : Prop := t.active sc ≠ s.active sc ∧ v = t.active sc

/-- The waiting pendings that a condition picks take effect (R123): the switch is recorded and handed on, the share
outputs that follow take it in the same event (R153), each that is not quiet raises its notice kind (R134), and each of cause Layout
leaves the layout in flight (R130, R131). -/
def PendingsSwitch (picked : Screen → Pending → Prop) (kind : Pending → NoticeKind) (s t : State) : Prop :=
  let switches (sc : Screen) (p : Pending) : Prop := (s.xpc.routes.get sc).pending = some p ∧ picked sc p
  (∀ (sc : Screen) (p : Pending), switches sc p →
    t.xpc.routes.get sc = { active := p.target, pending := none }
    ∧ ∀ c ∈ [.switchNotice sc, .switchAtDimStage sc p.target, .switchAtWakeController sc p.target],
      ({ src := .xpc, cmd := c } : Handoff) ∈ t.handoffs)
  ∧ SharesFollow (fun sc v => ∃ p : Pending, switches sc p ∧ p.target = v) s t
  ∧ RouteNotices (∃ (sc : Screen) (p : Pending), switches sc p ∧ p.quiet = false ∧ kind p = .routeDone)
    (∃ (sc : Screen) (p : Pending), switches sc p ∧ p.quiet = false ∧ kind p = .routeForced) s t
  ∧ LayoutLeft (fun sc => ∃ p : Pending, switches sc p ∧ p.cause = .layout) s t

/-- The notice kind of a pending that takes effect when it is tested: RouteDone onto None, RouteForced onto a source (R121). -/
def testedKind (p : Pending) : NoticeKind := if p.target = none then .routeDone else .routeForced

/-! ## Ports (R94, R95) -/

/-- Neither queue of a port holds more than 8 entries (R95). -/
def QueuesBounded (s : State) : Prop :=
  ∀ p : Port, (s.cpe.get p).keyQueue.length ≤ queueCapacity ∧ (s.cpe.get p).pointerQueue.length ≤ queueCapacity

/-! ## The matcher (section 2.3) -/

/-- The timers, the buffer, the tap counter and the holding entry that go with a matcher state (section 2.3, R20). -/
def MatcherFits (h : Hkm) : Prop :=
  match h.state with
  | .idle => h.buffer = [] ∧ h.tapCounter = 0 ∧ h.tapWindow = none ∧ h.sequence = none ∧ h.hold = none ∧ h.holding = none
  | .counting =>
    h.buffer ≠ [] ∧ h.tapCounter ≠ 0 ∧ h.tapWindow ≠ none ∧ h.sequence = none ∧ h.hold = none ∧ h.holding = none
  | .sequence =>
    h.buffer = [] ∧ h.tapCounter = 0 ∧ h.tapWindow = none ∧ h.sequence ≠ none ∧ h.hold = none ∧ h.holding = none
  | .holding =>
    h.buffer = [] ∧ h.tapCounter = 0 ∧ h.tapWindow = none ∧ h.sequence = none ∧ h.hold ≠ none ∧ h.holding ≠ none
  | .held =>
    h.buffer = [] ∧ h.tapCounter = 0 ∧ h.tapWindow = none ∧ h.sequence = none ∧ h.hold = none ∧ h.holding ≠ none

/-- The matcher's state fits its timers. -/
def MatcherSound (s : State) : Prop := MatcherFits s.hkm

/-! ## Hotkey table (R15 to R17) -/

/-- A hotkey table that passes R16 and R17: no two entries conflict, and no valid entry has the prefix key. -/
def HotkeysLegal (t : Tables) : Prop :=
  (∀ a b : EntryNo, a ≠ b → entriesConflict (t.hotkeys.get a) (t.hotkeys.get b) = false)
  ∧ ∀ n : EntryNo, (t.hotkeys.get n).valid = true → (t.hotkeys.get n).key ≠ t.desk.prefixKey

/-- The hotkey table is legal, and so is every table that can become the running one. -/
def HotkeysSound (s : State) : Prop :=
  HotkeysLegal s.tables ∧ (s.memory.valid = true → HotkeysLegal s.memory.image)
  ∧ ∀ v : SaveInFlight, s.mfe.save = some v → v.prior.valid = true → HotkeysLegal v.prior.image

/-! ## Screens and cursor (R39, R42) -/

/-- A screen table that passes R39: rectangles within the desk space, none overlapping another, and one screen placed. -/
def ScreensLegal (t : Tables) : Prop :=
  (∀ sc : Screen, 64 ≤ (t.screens.get sc).w ∧ 64 ≤ (t.screens.get sc).h
    ∧ (t.screens.get sc).x + (t.screens.get sc).w ≤ 65536 ∧ (t.screens.get sc).y + (t.screens.get sc).h ≤ 65536)
  ∧ (∀ a b : Screen, a ≠ b → (t.screens.get a).placed = true → (t.screens.get b).placed = true →
    overlap (t.screens.get a) (t.screens.get b) = false)
  ∧ ∃ sc : Screen, (t.screens.get sc).placed = true

/-- A settings memory whose image, where it is valid, has a legal screen table. -/
def MemoryLegal (m : SettingsMemory) : Prop := m.valid = true → ScreensLegal m.image

/-- The memory that a save in flight restores when its first step fails is legal. -/
def SaveLegal (s : State) : Prop :=
  match s.mfe.save with
  | none => True
  | some v => MemoryLegal v.prior

/-- The cursor lies within the rectangle of the cursor screen, and the cursor screen is placed (R42). -/
def CursorPlaced (s : State) : Prop :=
  (s.screenEntry s.glu.screen).placed = true
  ∧ insideScreen (s.screenEntry s.glu.screen) s.glu.pos.x s.glu.pos.y = true

/-- The desk is sound (R39, R42): the screen table is legal, and so is every table that can become the running one, and the
cursor lies on a placed screen. -/
def DeskSound (s : State) : Prop := ScreensLegal s.tables ∧ MemoryLegal s.memory ∧ SaveLegal s ∧ CursorPlaced s

/-! ## Routing (R116, R125) -/

/-- A pending's target is never the active source (R116). -/
def PendingsMove (s : State) : Prop :=
  ∀ sc : Screen, ∀ p : Pending, (s.xpc.routes.get sc).pending = some p → p.target ≠ (s.xpc.routes.get sc).active

/-- Route hold never stays on longer than the route hold limit (R125). -/
def HoldBounded (s : State) : Prop :=
  ∀ h : RouteHold, s.xpc.hold = some h → h.expiry ≤ h.start + ms s.tables.desk.routeHoldLimit

/-! ## Share outputs (R150, R154) -/

/-- The blanked field is yes exactly when the wanted source is private (R150). -/
def BlankedExact (s : State) : Prop := ∀ o : ShareOut, (s.sou.get o).blanked = s.isPrivate (s.sou.get o).wanted

/-! ## Monitors (section 6.2) -/

/-- What a monitor holds in its state (sections 6.2 and 6.3). -/
def MonitorFits (f : Fmn) : Prop :=
  f.currentLine ≤ lineLimit ∧
  match f.state with
  | .noSignal => f = Fmn.reset
  | .acquiring => f.lastStart ≠ none ∧ f.loss ≠ none ∧ f.agreement < periodsToLock ∧ f.lockedPeriod = none
  | .locked =>
    f.lastStart ≠ none ∧ f.loss ≠ none ∧ f.agreement = periodsToLock
    ∧ (∃ l, f.lockedPeriod = some l ∧ periodWindowLow ≤ l ∧ l ≤ periodWindowHigh)
    ∧ ∃ n, f.linesPerFrame = some n ∧ 1 ≤ n ∧ n ≤ lineLimit
  | .unstable => f.lastStart ≠ none ∧ f.loss ≠ none ∧ f.agreement < periodsToLock ∧ f.lockedPeriod ≠ none

/-- Every monitor holds what its state asks for. -/
def MonitorsSound (s : State) : Prop := ∀ v : Source, MonitorFits (s.fmn.get v)

/-! ## Wake and sleep (R163, R167) -/

/-- The wake signal and the wake timer run only in phase Signalling (R163). -/
def WakesSound (s : State) : Prop :=
  ∀ p : Port, (s.wkc.wakes.get p).phase ≠ .signalling →
    (s.wkc.wakes.get p).signal = none ∧ (s.wkc.wakes.get p).timer = none

/-- A no-signal timer runs only on a screen that is On (R167). -/
def PowerSound (s : State) : Prop :=
  ∀ sc : Screen, (s.wkc.power.get sc).noSignal ≠ none → (s.wkc.power.get sc).on = true

/-! ## Dimming (R137) -/

/-- Once the load has ended, a screen's target is never below the floor except in FadeOut and FadeWait (R137). -/
def TargetsLit (s : State) : Prop :=
  s.loading = false → ∀ sc : Screen, (s.dms.get sc).phase = .normal ∨ (s.dms.get sc).phase = .fadeIn →
    min s.tables.desk.dimFloor 255 ≤ (s.dms.get sc).target

end Sys2Proof.Machine
end

