-- ==== Sys2Proof/WellFormed.lean ====
section
/-!
DEFINITION. Which commands are well-formed: operands within the widths and ranges in which the manual lets them arrive.
The machine gives every command a meaning, well-formed or not (log 33).
-/

namespace Sys2Proof

/-- A key usage: an ordinary key or a modifier (00_scope.md, "Keys and buttons"). -/
def isKeyUsage (k : Key) : Bool := decide (4 ≤ k ∧ k ≤ 221) || decide (224 ≤ k ∧ k ≤ 231)

/-- The members of a list rise strictly. -/
def rising : KeySet → Bool
  | [] => true
  | [_] => true
  | a :: b :: rest => decide (a < b) && rising (b :: rest)

/-- A set of keys: in ascending order, key usages only, at most 14 (section 1.2). -/
def keySetOk (ks : KeySet) : Bool := rising ks && ks.all isKeyUsage && decide (ks.length ≤ 14)

/-- A signed value within a limit on either side. -/
def within (limit v : Int) : Bool := decide (-limit ≤ v ∧ v ≤ limit)

/-- A number of one byte. -/
def oneByte (n : Nat) : Bool := decide (n < 256)

/-- A number of two bytes. -/
def twoBytes (n : Nat) : Bool := decide (n < 65536)

/-- A key event: a key usage, and a held set that holds the key after a press and not after a release (R4). -/
def KeyEvent.wf (e : KeyEvent) : Bool := isKeyUsage e.key && keySetOk e.held && (decide (e.key ∈ e.held) == e.press)

/-- A pointer event, saturated (R7). -/
def PointerEvent.wf (e : PointerEvent) : Bool := within 2047 e.dx && within 2047 e.dy && within 127 e.wheel

/-- A pointer report, within the absolute pointer space (R53, R54). -/
def PointerReport.wf (r : PointerReport) : Bool :=
  decide (r.absX ≤ 32767) && decide (r.absY ≤ 32767) && within 127 r.wheel

/-- A console keyboard report: six slots of one byte (section 1.2). -/
def KeyboardReport.wf (r : KeyboardReport) : Bool := r.slots.cells.all oneByte

/-- A request: its tag and its arguments are bytes (R186). -/
def Request.wf (q : Request) : Bool := oneByte q.tag && oneByte q.arg1 && oneByte q.arg2 && oneByte q.arg3

/-- The fields of a desk record fit the bytes that carry them (R186, R187). -/
def RawDesk.wf (e : RawDesk) : Bool :=
  [e.prefixKey, e.tapCount, e.broadcastMask, e.startLayout, e.dimFloor, e.unfocusedLevel, e.rampRate,
    e.screenSleepDelay, e.wakeRetries, e.recoveryTime, e.deskWakeWakes].all oneByte
  && [e.tapWindow, e.sequenceTimeout, e.holdThreshold, e.glideGain, e.crossingResistance, e.pressureHold,
    e.routeHoldLimit, e.wakeTimeout, e.noticePacing].all twoBytes

/-- The fields of a port entry fit their bytes. -/
def RawPort.wf (e : RawPort) : Bool :=
  [e.enabled, e.managementAllowed, e.wakeOnGlide, e.wakeOnKey, e.settlePolls].all oneByte && twoBytes e.stallTimeout

/-- The fields of a source entry fit their bytes. -/
def RawSource.wf (e : RawSource) : Bool := [e.owner, e.priv].all oneByte && [e.x0, e.y0, e.w, e.h].all twoBytes

/-- The fields of a screen entry fit their bytes. -/
def RawScreen.wf (e : RawScreen) : Bool :=
  [e.placed, e.switchMode, e.fade].all oneByte && [e.x, e.y, e.w, e.h, e.switchLine].all twoBytes

/-- The fields of a layout entry fit their bytes. -/
def RawLayout.wf (e : RawLayout) : Bool := e.routes.cells.all oneByte && oneByte e.focus

/-- The numbers of an action fit their bytes. -/
def RawAction.wf (a : RawAction) : Bool := [a.kind, a.arg1, a.arg2].all oneByte

/-- The fields of a hotkey entry fit their bytes. -/
def RawHotkey.wf (e : RawHotkey) : Bool :=
  [e.valid, e.path, e.key, e.holdPresent].all oneByte && e.conditions.cells.all oneByte && e.tap.wf && e.hold.wf

/-- A Write Entry names the table of its row in its first argument (R187). -/
def Request.names (q : Request) (table : Nat) : Bool := q.wf && decide (q.arg1 = table)

/-- A command is well-formed. -/
def Instr.wf : Instr → Bool
  | .keyboardReport r => r.wf
  | .keyEvent e => e.wf
  | .consumeRequest k => isKeyUsage k
  | .passedEvent k _ => isKeyUsage k
  | .pointerEvent e => e.wf
  | .portKeyPress _ k => isKeyUsage k
  | .portKeyRelease _ k => isKeyUsage k
  | .ignoreRelease _ k => isKeyUsage k
  | .joinIndication _ ks => keySetOk ks
  | .portPointerReport _ r => r.wf
  | .lineValue _ n => decide (n ≤ 4095)
  | .fadeWaitReport _ n => twoBytes n
  | .fadeRequest _ n => twoBytes n
  | .deskWakeInput k => k.all isKeyUsage
  | .readEntry q => q.wf && decide (1 ≤ q.arg1 ∧ q.arg1 ≤ 6)
  | .writeDeskRecord q e => q.names 1 && e.wf
  | .writePortEntry q e => q.names 2 && e.wf
  | .writeSourceEntry q e => q.names 3 && e.wf
  | .writeScreenEntry q e => q.names 4 && e.wf
  | .writeLayoutEntry q e => q.names 5 && e.wf
  | .writeHotkeyEntry q e => q.names 6 && e.wf
  | .routeScreen q => q.wf
  | .recallLayout q => q.wf
  | .setFocus q => q.wf
  | .setShareOff q => q.wf && decide (q.arg2 = 0)
  | .setShareFollow q => q.wf && decide (q.arg2 = 1)
  | .setShareFixed q => q.wf && decide (2 ≤ q.arg2)
  | .wake q => q.wf
  | .deskSleep q => q.wf
  | .holdRoutes q => q.wf
  | .releaseRoutes q => q.wf
  | .readState q => q.wf && decide (1 ≤ q.arg1 ∧ q.arg1 ≤ 7)
  | .readNotices q => q.wf
  | .setNoticeMask q _ => q.wf
  | .readCountersLatch q => q.wf && decide (q.arg1 = 0)
  | .readCountersLatchAndClear q => q.wf && decide (q.arg1 = 1)
  | .readCountersRepeat q => q.wf && decide (2 ≤ q.arg1)
  | .saveSettings q => q.wf
  | .deskRestart q => q.wf
  | .badReq q kind => q.wf && oneByte kind
  | _ => true

end Sys2Proof
end

