-- ==== Sys2Proof/Certificates/Slice0/Obligations.lean ====
section
/-!
DEFINITION. The statements about the model, one Prop each. OBLIGATIONS.json says in words what each states and from which rules of
the manual it comes. Where a statement speaks of work handed from block to block, it speaks of the model's hand-offs (log 1).
-/

section Statements

open Sys2Proof Sys2Proof.Machine

/-! ## The step -/

/-- With a command waiting, a step is the execution of the command in front on the queue's rest. -/
def Obligations.StepTakesFront : Prop :=
  ∀ (c : Instr) (rest : List Instr) (s : State), step { s with pending := c :: rest } = exec c { s with pending := rest }

/-- With no command waiting, the part makes its only move when it has one, a hand-off taken, an expiry, or the Console Input Port going
on with its work, and lets a microsecond pass when it has none (the model's choice, log 2). -/
def Obligations.IdlePartGoesOn : Prop :=
  ∀ s : State, s.pending = [] →
    (moves s = [] → step s = .next { s with timebase := s.timebase + 1 })
    ∧ (∀ c : Instr, moves s = [some c] → step s = exec c s)
    ∧ (moves s = [none] → step s = .next (consoleGoesOn s))

/-- Every command answers a next state and changes no field of the state but those listed for it, and a command of one port, source,
screen or wake record leaves those of the others as they stand. -/
def Obligations.CommandsKeepTheirFrames : Prop :=
  (∀ (c : Instr) (s : State), ∃ t, exec c s = .next t ∧ Keeps (touches c) s t)
  ∧ ∀ (c : Instr) (s : State), ∃ t, exec c s = .next t
      ∧ (∀ p q : Port, engineOf c = some (.cpe p) → q ≠ p → t.cpe.get q = s.cpe.get q)
      ∧ (∀ v w : Source, engineOf c = some (.fmn v) → w ≠ v → t.fmn.get w = s.fmn.get w)
      ∧ (∀ sc d : Screen, engineOf c = some (.dms sc) → d ≠ sc → t.dms.get d = s.dms.get d)
      ∧ (∀ p q : Port, wakePortOf c = some p → q ≠ p → t.wkc.wakes.get q = s.wkc.wakes.get q)
      ∧ (∀ p : Port, wakePortOf c = some p → t.wkc.power = s.wkc.power ∧ t.wkc.deskAsleep = s.wkc.deskAsleep)

/-! ## Reset, load and restart -/

/-- What a Reset leaves in every block (R13, R36, R78, R101, R114, R132, R148, R155, R172, R182, R185). The requests in flight, the
notice set and mask, the pacing timer, the save and the last save result are those of the table at the head of chapter 11, and the load
runs after it (R185). The model's own: no hand-off is left (log 10). -/
def Obligations.ResetValues : Prop :=
  ∀ s : State, ∃ t, exec .reset s = .next t ∧ t.loading = true ∧ t.handoffs = []
    ∧ t.cip.keyboardAttached = false ∧ t.cip.pointerAttached = false ∧ t.cip.held = [] ∧ t.cip.ledLast = none
    ∧ t.cip.baseline = true ∧ (∀ b, t.cip.buttons.get b = .up)
    ∧ t.hkm.state = .idle ∧ t.hkm.buffer = [] ∧ t.hkm.consumed = [] ∧ t.hkm.misses = 0 ∧ t.hkm.tapCounter = 0
    ∧ t.hkm.tapWindow = none ∧ t.hkm.sequence = none ∧ t.hkm.hold = none ∧ t.hkm.holding = none
    ∧ t.fcu.focus = none ∧ t.fcu.owner = none ∧ t.fcu.lock = false ∧ t.fcu.broadcast = false ∧ t.fcu.dimOverride = false
    ∧ t.fcu.slot = none ∧ t.fcu.lastCause = .restart ∧ t.fcu.passedKeys = []
    ∧ (∀ p, (t.cpe.get p).linkState = .detached ∧ (t.cpe.get p).link = .down ∧ (t.cpe.get p).wakeArmed = false
      ∧ (t.cpe.get p).reported = [] ∧ (t.cpe.get p).ignored = [] ∧ (t.cpe.get p).keyQueue = []
      ∧ (t.cpe.get p).pointerQueue = [] ∧ (t.cpe.get p).lastReport = none ∧ (t.cpe.get p).lamps = Flags.none
      ∧ (t.cpe.get p).pointerIgnored = Flags.none ∧ (t.cpe.get p).settle = 0 ∧ (t.cpe.get p).stall = none
      ∧ (t.cpe.get p).counters = { keysCoalesced := 0, clicksCoalesced := 0, keysDiscarded := 0, stalls := 0 })
    ∧ (∀ v, (t.fmn.get v).state = .noSignal ∧ (t.fmn.get v).lastStart = none ∧ (t.fmn.get v).agreement = 0
      ∧ (t.fmn.get v).measured = none ∧ (t.fmn.get v).lockedPeriod = none ∧ (t.fmn.get v).linesPerFrame = none
      ∧ (t.fmn.get v).currentLine = 0 ∧ (t.fmn.get v).loss = none)
    ∧ (∀ sc, (t.xpc.routes.get sc).active = none ∧ (t.xpc.routes.get sc).pending = none ∧ t.xpc.counts.get sc = 0)
    ∧ t.xpc.hold = none ∧ t.xpc.layout = none ∧ t.xpc.peek = none
    ∧ t.xpc.pendingReplaced = 0 ∧ t.xpc.layoutsSuperseded = 0
    ∧ (∀ sc, (t.dms.get sc).level = 0 ∧ (t.dms.get sc).phase = .normal ∧ (t.dms.get sc).source = none
      ∧ (t.dms.get sc).inHand = none ∧ (t.dms.get sc).number = 0 ∧ (t.dms.get sc).tick = none)
    ∧ (∀ o, (t.sou.get o).mode = .off ∧ (t.sou.get o).blanked = false)
    ∧ (∀ p, (t.wkc.wakes.get p).phase = .idle ∧ (t.wkc.wakes.get p).retries = 0 ∧ (t.wkc.wakes.get p).timer = none
      ∧ (t.wkc.wakes.get p).signal = none ∧ (t.wkc.wakes.get p).recovery = none)
    ∧ (∀ sc, (t.wkc.power.get sc).on = true ∧ (t.wkc.power.get sc).noSignal = none) ∧ t.wkc.deskAsleep = false
    ∧ (∀ p, t.mfe.inFlight.get p = none) ∧ (∀ k, t.mfe.notices.get k = false) ∧ (∀ k, t.mfe.mask.get k = true)
    ∧ t.mfe.pacing = none ∧ (∀ i, t.mfe.snapshot.get i = 0) ∧ t.mfe.save = none ∧ t.mfe.lastSave = .none

/-- The end of the load: the tables from a valid image or the factory, the start layout's routes at once with no pendings, and the
cursor at the centre of the lowest-numbered placed screen (R61, R132, R185). The model's own: what the command carries of the
memory and the consoles (log 13); that the routing is set before the cursor within the command, so that the cursor source is the routed
active source, an order that R61 leaves open (log 26); and the owner held with the cursor source (log 39). -/
def Obligations.LoadEndRestartsTheDesk : Prop :=
  ∀ (answers keyboard pointer : Bool) (s : State), s.loading = true →
    ∃ t, exec (.settingsLoadEnd answers keyboard pointer) s = .next t ∧ t.loading = false
      ∧ t.tables = (if answers = true ∧ s.memory.valid = true then s.memory.image else factoryTables)
      ∧ t.mfe.loadResult = (if answers = true ∧ s.memory.valid = true then .image else .factory)
      ∧ (∀ sc : Screen, (t.xpc.routes.get sc).pending = none
        ∧ match (t.tables.layouts.get t.tables.desk.startLayout).routes.get sc with
          | .to x => (t.xpc.routes.get sc).active = x
          | .keep => (t.xpc.routes.get sc).active = (s.xpc.routes.get sc).active)
      ∧ (∀ sc : Screen, t.lowestPlaced = some sc →
        t.glu.screen = sc ∧ t.glu.pos = centre (t.tables.screens.get sc)
        ∧ t.glu.source = (t.xpc.routes.get sc).active ∧ t.glu.sourceOwner = t.screenOwner sc
        ∧ t.glu.residueX = 0 ∧ t.glu.residueY = 0)
      ∧ (∀ c, t.glu.homes.get c = none) ∧ t.glu.pressure = none

/-- A Desk Restart that is served. The pointer event in flight is finished first, and the later ones are left for the restarted state
(R62). The matcher is Idle with nothing withheld, its consumed set the keys held; with only key events in hand, no press and no detach
indication of before is left on its way to it, and the next event in hand follows the set when no release is on its way (R37, R79).
Every port is re-taken from Detached by its link, with its queues and sets cleared, and is detached with its stall and settle stopped;
one that enters Active at once has the one empty snapshot and its stall timer; its counters are kept, and PortChanged is raised where
its state differs (R85, R88, R102). The focus record is at its reset values (R79). The start layout is routed at once and its restart
completion handed (R133). The cursor goes to the centre of the lowest-numbered placed screen with no home records (R62). Dim levels are
0, with no step of a frame start from before on its way (R148), both share outputs Off (R155), every wake record Idle and every screen
On (R173). Tables, monitors, notices, snapshot and desk counters are kept (R183). It stays in flight until every block has taken it;
then its reply is handed (R175, R183). The model's own: every block's part is made in the one command (log 26), the hand-offs it takes
first, keeps and drops (log 9, log 52), and the owner held with the cursor source (log 39). -/
def Obligations.DeskRestartServed : Prop :=
  (∀ (q : Request) (s : State), s.managed q.port = true → s.mfe.inFlight.get q.port = none → s.mfe.save = none →
      let layout := s.tables.layouts.get s.tables.desk.startLayout
      ∃ u, (match pointerEvents s.handoffs with
          | e :: _ => exec (.pointerEvent e) s
          | [] => .next s) = .next u
        ∧ ∃ t, exec (.deskRestart q) s = .next t
        ∧ pointerEvents t.handoffs = (pointerEvents s.handoffs).tail
        ∧ t.mfe = { s.mfe with inFlight := s.mfe.inFlight.set q.port (some { kind := 16, request := q }) }
        ∧ t.tables = s.tables ∧ t.fmn = s.fmn ∧ t.memory = s.memory ∧ t.timebase = s.timebase
        ∧ t.hkm.state = .idle ∧ t.hkm.buffer = [] ∧ t.hkm.tapCounter = 0 ∧ t.hkm.tapWindow = none ∧ t.hkm.sequence = none
        ∧ t.hkm.hold = none ∧ t.hkm.holding = none
        ∧ ((∀ h ∈ s.handoffs, ∀ e : KeyEvent, h.cmd = .keyEvent e → e.press = false) → t.hkm.misses = s.hkm.misses)
        ∧ ((∀ w ∈ s.cip.work, ∃ (x : Key) (y : Bool), w = .event x y) →
          t.hkm.consumed = s.cip.held ∧ (∀ h ∈ t.handoffs, h.cmd ≠ .keyboardDetachedIndication)
          ∧ (s.cip.work = [] → t.cip = s.cip ∧ ∀ h ∈ t.handoffs, ∀ e : KeyEvent, h.cmd = .keyEvent e → e.press = false)
          ∧ ∀ (k : Key) (press : Bool) (rest : List ConsoleWork), s.cip.work = .event k press :: rest →
            (∀ h ∈ s.handoffs, ∀ e : KeyEvent, h.cmd = .keyEvent e → e.press = true) →
            let held := if press then keyInsert k s.cip.held else keyErase k s.cip.held
            t.cip = { s.cip with held := held, work := rest }
            ∧ { src := .cip, cmd := .keyEvent { key := k, press := press, held := held } } ∈ t.handoffs
            ∧ ∀ h ∈ t.handoffs, ∀ e : KeyEvent, h.cmd = .keyEvent e → e = { key := k, press := press, held := held })
        ∧ t.fcu = Fcu.reset
        ∧ (∀ p, (t.cpe.get p).linkState =
            (if (s.portEntry p).enabled = false then .detached
            else
              match (s.cpe.get p).link with
              | .down => .detached
              | .asleep => .suspended
              | .up => if (s.portEntry p).settlePolls = 0 then .active else .settling)
          ∧ (t.cpe.get p).pointerIgnored = (if (t.cpe.get p).linkState = .detached then Flags.none else s.passedButtons)
          ∧ (t.cpe.get p).reported = [] ∧ (t.cpe.get p).ignored = [] ∧ (t.cpe.get p).pointerQueue = []
          ∧ (t.cpe.get p).keyQueue = (if (t.cpe.get p).linkState = .active then [{ modifiers := [], keys := [] }] else [])
          ∧ (t.cpe.get p).settle = 0
          ∧ (t.cpe.get p).stall =
            (if (t.cpe.get p).linkState = .active then some (s.timebase + (s.portEntry p).stallTimeout * 1000) else none)
          ∧ ((t.cpe.get p).linkState ≠ (s.cpe.get p).linkState →
            { src := .cpe p, cmd := .noticeRaise .portChanged } ∈ t.handoffs)
          ∧ (t.cpe.get p).link = (s.cpe.get p).link ∧ (t.cpe.get p).wakeArmed = (s.cpe.get p).wakeArmed
          ∧ (t.cpe.get p).lamps = (s.cpe.get p).lamps ∧ (t.cpe.get p).lastReport = u.lastHanded p
          ∧ (t.cpe.get p).counters.keysCoalesced = (s.cpe.get p).counters.keysCoalesced
          ∧ (t.cpe.get p).counters.keysDiscarded = (s.cpe.get p).counters.keysDiscarded
          ∧ (t.cpe.get p).counters.stalls = (s.cpe.get p).counters.stalls
          ∧ ((∀ h ∈ u.handoffs, isPortReport h.cmd = false) →
            (t.cpe.get p).counters.clicksCoalesced = (s.cpe.get p).counters.clicksCoalesced))
        ∧ (∀ sc, (t.xpc.routes.get sc).pending = none
          ∧ (t.xpc.routes.get sc).active =
            (match layout.routes.get sc with
            | .to x => x
            | .keep => s.active sc))
        ∧ t.xpc.hold = none ∧ t.xpc.layout = none ∧ t.xpc.peek = none ∧ t.xpc.counts = s.xpc.counts
        ∧ t.xpc.pendingReplaced = s.xpc.pendingReplaced ∧ t.xpc.layoutsSuperseded = s.xpc.layoutsSuperseded
        ∧ { src := .xpc, cmd := .layoutCompletion layout.focus true } ∈ t.handoffs
        ∧ (∀ sc, t.lowestPlaced = some sc →
          t.glu.screen = sc ∧ t.glu.pos = centre (t.screenEntry sc) ∧ t.glu.source = t.active sc
          ∧ t.glu.sourceOwner = t.screenOwner sc)
        ∧ t.glu.residueX = 0 ∧ t.glu.residueY = 0 ∧ t.glu.pressure = none ∧ t.glu.pressureHold = none
        ∧ (∀ c, t.glu.homes.get c = none) ∧ { src := .glu, cmd := .cursorScreenChange .restart } ∈ t.handoffs
        ∧ (∀ sc, (t.dms.get sc).level = 0 ∧ (t.dms.get sc).phase = .normal ∧ (t.dms.get sc).inHand = none
          ∧ (t.dms.get sc).source = (s.dms.get sc).source)
        ∧ (∀ h ∈ t.handoffs, ∀ (sc : Screen) (v : Source), h.cmd ≠ .rampStep sc v)
        ∧ (∀ o, (t.sou.get o).mode = .off ∧ (t.sou.get o).blanked = false)
        ∧ (∀ p, t.wkc.wakes.get p = WakeRecord.reset)
        ∧ (∀ h ∈ t.handoffs, ∀ (p : Port) (st : LinkState), h.cmd ≠ .linkStateChange p st)
        ∧ t.wkc.deskAsleep = false
        ∧ ∀ sc, (t.wkc.power.get sc).on = true
          ∧ (t.wkc.power.get sc).noSignal =
            (if t.showsDark (t.active sc) = true then some (s.timebase + s.tables.desk.screenSleepDelay * 1000000) else none))
  ∧ ∀ (p : Port) (q : Request) (s : State), q.port = p → s.mfe.inFlight.get p = some { kind := 16, request := q } →
      (s.tables.ports.get p).enabled = true → (s.cpe.get p).link = .up →
      exec (.deskRestartCompletion p) s = .next { s with
        handoffs := withoutFirst (.deskRestartCompletion p) s.handoffs
        mfe := { s.mfe with inFlight := s.mfe.inFlight.set p none }
        sent := s.sent ++ [.frame p (replyFrame 16 q (plainReply .ok))] }

/-! ## Console Input Port -/

/-- The console devices attach and detach: an attaching keyboard has an empty held set and is sent an LED report whatever was sent
before; a detaching one releases every held key in ascending order and then hands the indication, and waits behind a key event that is
still being handed, the reports held there discarded; when the matcher has taken the last release the indication is handed and the LED
state last sent becomes absent, and a detach that waited is taken when the last event in hand has been; the pointer attaches with no
button held, and at its detach one final event releases the passed buttons (R5, R6, R9, R11). The model's own: what the part waits for
(log 1), and that an attach behind the releases of a detach waits for them, and a second detach behind it (log 41). -/
def Obligations.ConsoleAttachments : Prop :=
  (∀ s : State, s.loading = false → s.cip.keyboardAttached = false → s.cip.work = [] → s.keyEventInFlight = false →
      exec .keyboardAttach s = .next { s with
        sent := s.sent ++ [.led s.builtLamps]
        cip := { s.cip with keyboardAttached := true, held := [], ledLast := some s.builtLamps } })
  ∧ (∀ s : State, s.cip.keyboardAttached = true → s.cip.work = [] → s.keyEventInFlight = false →
      (s.cip.held = [] → exec .keyboardDetach s = .next { s with
        handoffs := s.handoffs ++ [{ src := .cip, cmd := .keyboardDetachedIndication }]
        cip := { s.cip with keyboardAttached := false, ledLast := none } })
      ∧ ∀ (k : Key) (ks : KeySet), s.cip.held = k :: ks → exec .keyboardDetach s = .next { s with
        handoffs := s.handoffs ++ [{ src := .cip, cmd := .keyEvent { key := k, press := false, held := keyErase k (k :: ks) } }]
        cip := { s.cip with
          keyboardAttached := false, held := keyErase k (k :: ks)
          work := ks.map (fun x => .event x false) ++ [.indication] } })
  ∧ (∀ s : State, s.keyEventInFlight = true → exec .keyboardDetach s = .next { s with
      cip := { s.cip with work := s.cip.work.filter (fun w => !isHeldReport w) ++ [.detach] } })
  ∧ (∀ s : State, s.loading = false → s.keyEventInFlight = true → exec .keyboardAttach s = .next { s with
      cip := { s.cip with work := s.cip.work ++ [.attach] } })
  ∧ (∀ (e : KeyEvent) (s t : State), exec (.keyEvent e) { s with cip := { s.cip with work := [] } } = .next t →
      t.keyEventInFlight = false →
      (s.cip.work = [.indication] → exec (.keyEvent e) s = .next { t with
        cip := { t.cip with ledLast := none }
        handoffs := t.handoffs ++ [{ src := .cip, cmd := .keyboardDetachedIndication }] })
      ∧ (s.cip.work = [.detach] → exec (.keyEvent e) s = exec .keyboardDetach t)
      ∧ (s.loading = false → s.cip.work = [.indication, .attach] → exec (.keyEvent e) s = exec .keyboardAttach { t with
        cip := { t.cip with ledLast := none }
        handoffs := t.handoffs ++ [{ src := .cip, cmd := .keyboardDetachedIndication }] }))
  ∧ (∀ w : ConsoleWork, isHeldReport w = true ↔ ∃ r : KeyboardReport, w = .report r)
  ∧ (∀ s : State, s.loading = false → s.cip.pointerAttached = false →
      exec .pointerAttach s = .next { s with cip := { s.cip with pointerAttached := true, buttons := Tab.fill .up } })
    ∧ ∀ s : State, s.cip.pointerAttached = true →
      exec .pointerDetach s = .next { s with
        cip := { s.cip with pointerAttached := false, buttons := Tab.fill .up }
        handoffs := s.handoffs ++ (if s.passedButtons.any = true then
          [{ src := .cip, cmd := .pointerEvent
              { dx := 0, dy := 0, wheel := 0, held := Flags.none, pressed := Flags.none, released := s.passedButtons } }]
          else []) }

/-- A keyboard report: ignored whole with an error usage in a slot, the baseline when the flag is set, and otherwise its first
difference from the held set is emitted and the rest stay in hand (R3, R4, R13): it is handed to the matcher with the held set, or to
the Wake Controller when it is a press and the desk is asleep (R10). The differences are the releases and then the presses, each in
ascending order (R4). A report that comes while a key event is being handed is held (R4), and when the matcher has taken that event the
next one in hand is emitted, a press reading the desk-asleep flag anew (R4, R10). The new held set is in ascending order with no key
twice, and holds the report's flagged modifiers and the key usages of its slots (R2). The model's own: a detach indication still on its
way is taken before the baseline (log 1); and a report is compared, and the next event emitted, whenever no key event is on its way to
the matcher, also while a press diverted to the Wake Controller still waits there (log 47). -/
def Obligations.KeyboardReportTaken : Prop :=
  (∀ (r : KeyboardReport) (s : State), s.cip.keyboardAttached = true → s.cip.work = [] → s.keyEventInFlight = false →
      ((∃ u ∈ r.slots.cells, 1 ≤ u ∧ u ≤ 3) → exec (.keyboardReport r) s = .next s)
      ∧ ((∀ u ∈ r.slots.cells, ¬(1 ≤ u ∧ u ≤ 3)) →
        (s.cip.baseline = true → (∀ h ∈ s.handoffs, h.cmd ≠ .keyboardDetachedIndication) →
          exec (.keyboardReport r) s = .next { s with
            cip := { s.cip with held := newHeldSet r, baseline := false }
            hkm := { s.hkm with consumed := newHeldSet r } })
        ∧ (s.cip.baseline = true → (∃ h ∈ s.handoffs, h.cmd = .keyboardDetachedIndication) →
          exec (.keyboardReport r) s = .next { s with
            handoffs := s.handoffs.filter (fun h => decide (h.cmd ≠ .keyboardDetachedIndication))
            cip := { s.cip with held := newHeldSet r, baseline := false }
            hkm :=
              { state := .idle, buffer := [], consumed := newHeldSet r, tapCounter := 0, tapWindow := none, sequence := none
                hold := none, holding := none, misses := s.hkm.misses } })
        ∧ (s.cip.baseline = false → heldDifferences s.cip.held (newHeldSet r) = [] → exec (.keyboardReport r) s = .next s)
        ∧ ∀ (k : Key) (press : Bool) (rest : List ConsoleWork), s.cip.baseline = false →
          heldDifferences s.cip.held (newHeldSet r) = .event k press :: rest →
          let held := if press then keyInsert k s.cip.held else keyErase k s.cip.held
          exec (.keyboardReport r) s = .next { s with
            cip := { s.cip with held := held, work := rest }
            handoffs := s.handoffs ++
              (if press = true ∧ s.wkc.deskAsleep = true then [{ src := .cip, cmd := .deskWakeInput (some k) }]
              else [{ src := .cip, cmd := .keyEvent { key := k, press := press, held := held } }]) }))
  ∧ (∀ (r : KeyboardReport) (s : State), s.keyEventInFlight = true → exec (.keyboardReport r) s = .next { s with
      cip := { s.cip with work := s.cip.work ++ [.report r] } })
  ∧ (∀ (e : KeyEvent) (k : Key) (press : Bool) (rest : List ConsoleWork) (s t : State),
      s.cip.work = .event k press :: rest → (∀ w ∈ rest, ∃ (x : Key) (y : Bool), w = .event x y) →
      exec (.keyEvent e) { s with cip := { s.cip with work := [] } } = .next t → t.keyEventInFlight = false →
      let held := if press then keyInsert k s.cip.held else keyErase k s.cip.held
      exec (.keyEvent e) s = .next { t with
        cip := { s.cip with held := held, work := rest }
        handoffs := t.handoffs ++
          (if press = true ∧ s.wkc.deskAsleep = true then [{ src := .cip, cmd := .deskWakeInput (some k) }]
          else [{ src := .cip, cmd := .keyEvent { key := k, press := press, held := held } }]) })
  ∧ (∀ (k : Key) (press : Bool) (rest : List ConsoleWork) (s : State), s.keyEventInFlight = false →
      s.cip.work = .event k press :: rest → (∀ w ∈ rest, ∃ (x : Key) (y : Bool), w = .event x y) →
      let held := if press then keyInsert k s.cip.held else keyErase k s.cip.held
      consoleGoesOn s = { s with
        cip := { s.cip with held := held, work := rest }
        handoffs := s.handoffs ++
          (if press = true ∧ s.wkc.deskAsleep = true then [{ src := .cip, cmd := .deskWakeInput (some k) }]
          else [{ src := .cip, cmd := .keyEvent { key := k, press := press, held := held } }]) })
  ∧ (∀ held new : KeySet,
      let releases := held.filter (fun k => decide (k ∉ new))
      let presses := new.filter (fun k => decide (k ∉ held))
      heldDifferences held new = releases.map (fun k => .event k false) ++ presses.map (fun k => .event k true)
      ∧ (rising held = true → rising releases = true) ∧ (rising new = true → rising presses = true))
  ∧ ∀ r : KeyboardReport, rising (newHeldSet r) = true
      ∧ ∀ k : Key, k ∈ newHeldSet r ↔
        (∃ i : Fin 8, r.modifiers.get i = true ∧ k = 224 + i.val) ∨ (k ∈ r.slots.cells ∧ isKeyUsage k = true)

/-- A pointer report with the desk awake marks its new buttons passed and hands its event on when there is something to hand, and so
does one with the desk asleep that carries wheel or releases only; while the desk is asleep, motion or a new button is a desk-wake
input and its new buttons are swallowed (R7, R8, R10). Motion and wheel are saturated, new and released buttons are found against the
held ones, further buttons are ignored, and the event carries the buttons marked passed (R7, R8). The model's own: a report of a
pointer that is not attached changes nothing (log 14), and a report that comes before the Glide Unit has taken the event before is taken
at once (log 51). -/
def Obligations.PointerReportTaken : Prop :=
  ∀ (r : ConsolePointerReport) (s : State),
    let old := s.cip.buttons
    let e := pointerEventOf r old
    let marks (m : ButtonMark) := newMarks m (reportedButtons r) old
    (s.cip.pointerAttached = false → exec (.pointerReport r) s = .next s)
    ∧ (s.cip.pointerAttached = true → s.wkc.deskAsleep = false ∨ wakesDesk e = false →
      exec (.pointerReport r) s = .next { s with
        cip := { s.cip with buttons := marks .passed }
        handoffs := s.handoffs ++ (if eventMatters e = true then [{ src := .cip, cmd := .pointerEvent e }] else []) })
    ∧ (s.cip.pointerAttached = true → s.wkc.deskAsleep = true → wakesDesk e = true →
      exec (.pointerReport r) s = .next { s with
        cip := { s.cip with buttons := marks .swallowed }
        handoffs := s.handoffs ++ [{ src := .cip, cmd := .deskWakeInput none }] })
    ∧ e.dx = max (-2047) (min 2047 r.dx) ∧ e.dy = max (-2047) (min 2047 r.dy) ∧ e.wheel = max (-127) (min 127 r.wheel)
    ∧ (∀ b : Fin 5,
      (e.held.get b = true ↔ b.val + 1 ∈ r.buttons ∧ old.get b ≠ .swallowed)
      ∧ (e.pressed.get b = true ↔ b.val + 1 ∈ r.buttons ∧ old.get b = .up)
      ∧ (e.released.get b = true ↔ b.val + 1 ∉ r.buttons ∧ old.get b = .passed)
      ∧ ∀ m : ButtonMark, (marks m).get b =
        (if b.val + 1 ∉ r.buttons then .up else if old.get b = .up then m else old.get b))
    ∧ (wakesDesk e = true ↔ e.dx ≠ 0 ∨ e.dy ≠ 0 ∨ ∃ b : Fin 5, e.pressed.get b = true)
    ∧ (eventMatters e = true ↔
      e.dx ≠ 0 ∨ e.dy ≠ 0 ∨ e.wheel ≠ 0 ∨ (∃ b : Fin 5, e.pressed.get b = true) ∨ ∃ b : Fin 5, e.released.get b = true)

/-- An LED trigger sends the LED state built when the keyboard is attached, the trigger concerns the focus, and that state
differs from the one last sent; otherwise it sends nothing (R12). The LED state built is that of the keyboard focus when its port is
Active, and all lamps off otherwise (R11). -/
def Obligations.LedTriggerTaken : Prop :=
  (∀ s : State,
    (∀ p : Port, s.fcu.focus = some p → (s.cpe.get p).linkState = .active → s.builtLamps = (s.cpe.get p).lamps)
    ∧ ((∀ p : Port, s.fcu.focus = some p → (s.cpe.get p).linkState ≠ .active) → s.builtLamps = Flags.none))
  ∧ ∀ (c : LedCause) (s : State),
    exec (.ledTrigger c) s = .next
      (if s.cip.keyboardAttached = true ∧ s.cip.ledLast ≠ some s.builtLamps
          ∧ (c = .focusChange ∨ ∃ p, c = .port p ∧ s.fcu.focus = some p) then
        { s with
          handoffs := withoutFirst (.ledTrigger c) s.handoffs
          sent := s.sent ++ [.led s.builtLamps]
          cip := { s.cip with ledLast := some s.builtLamps } }
      else { s with handoffs := withoutFirst (.ledTrigger c) s.handoffs })

/-! ## Hotkey Matcher -/

/-- A press in Idle: the prefix key begins the count, or opens Sequence at once with a tap count of 1; a press that matches a Direct
entry is consumed, and fires its tap action or enters Holding; any other is passed (R22, R31, R32). In Counting the press that
completes the count is consumed, the withheld events are discarded, and Sequence begins; another prefix press or release is withheld
(R23). A modifier and another release pass, and another ordinary key has the withheld events delivered and is then taken as in Idle
(R25). -/
def Obligations.PrefixCounted : Prop :=
  (∀ (k : Key) (held : KeySet) (s : State), s.hkm.state = .idle → s.cip.work = [] →
      let c : Instr := .keyEvent { key := k, press := true, held := held }
      (k = s.tables.desk.prefixKey → s.tables.desk.tapCount ≠ 1 → exec c s = .next { s with
        handoffs := withoutFirst c s.handoffs
        hkm := { s.hkm with
          state := .counting, buffer := s.hkm.buffer ++ [(k, true)], tapCounter := 1
          tapWindow := some (s.timebase + s.tables.desk.tapWindow * 1000) } })
      ∧ (k = s.tables.desk.prefixKey → s.tables.desk.tapCount = 1 → exec c s = .next { s with
        handoffs := withoutFirst c s.handoffs
        hkm := { s.hkm with
          state := .sequence, buffer := [], consumed := keyInsert k s.hkm.consumed, tapCounter := 0, tapWindow := none
          sequence := some (s.timebase + s.tables.desk.sequenceTimeout * 1000) } })
      ∧ (k ≠ s.tables.desk.prefixKey →
        (∀ n : EntryNo, entryMatches .direct k held (s.tables.hotkeys.get n) = false) →
        exec c s = .next { s with
          handoffs := withoutFirst c s.handoffs ++ [{ src := .hkm, cmd := .passedEvent k true }] })
      ∧ ∀ n : EntryNo, k ≠ s.tables.desk.prefixKey → s.findEntry .direct k held = some n →
        let e := s.tables.hotkeys.get n
        (e.hold = none → exec c s = .next { s with
          handoffs := withoutFirst c s.handoffs ++ handedByAction s n false e.tap
          hkm := { s.hkm with
            state := .idle, consumed := keyInsert k s.hkm.consumed, tapCounter := 0, tapWindow := none, sequence := none
            hold := none, holding := none } })
        ∧ ∀ a : Action, e.hold = some a → exec c s = .next { s with
          handoffs := withoutFirst c s.handoffs
          hkm := { s.hkm with
            state := .holding, consumed := keyInsert k s.hkm.consumed, tapCounter := 0, tapWindow := none, sequence := none
            hold := some (s.timebase + s.tables.desk.holdThreshold * 1000)
            holding := some { entry := n, key := e.key, tap := e.tap, hold := some a } } })
  ∧ (∀ (held : KeySet) (s : State), s.hkm.state = .counting → s.hkm.tapCounter + 1 = s.tables.desk.tapCount →
      s.cip.work = [] →
      let c : Instr := .keyEvent { key := s.tables.desk.prefixKey, press := true, held := held }
      exec c s = .next { s with
        handoffs := withoutFirst c s.handoffs
        hkm := { s.hkm with
          state := .sequence, buffer := [], consumed := keyInsert s.tables.desk.prefixKey s.hkm.consumed, tapCounter := 0
          tapWindow := none, sequence := some (s.timebase + s.tables.desk.sequenceTimeout * 1000) } })
  ∧ ∀ (k : Key) (held : KeySet) (s : State), s.hkm.state = .counting → s.cip.work = [] →
      let press : Instr := .keyEvent { key := k, press := true, held := held }
      let release : Instr := .keyEvent { key := k, press := false, held := held }
      (k = s.tables.desk.prefixKey → s.hkm.tapCounter + 1 ≠ s.tables.desk.tapCount → exec press s = .next { s with
        handoffs := withoutFirst press s.handoffs
        hkm := { s.hkm with tapCounter := s.hkm.tapCounter + 1, buffer := s.hkm.buffer ++ [(k, true)] } })
      ∧ (k ≠ s.tables.desk.prefixKey → isModifier k = true → exec press s = .next { s with
        handoffs := withoutFirst press s.handoffs ++ [{ src := .hkm, cmd := .passedEvent k true }] })
      ∧ (k ≠ s.tables.desk.prefixKey → isModifier k = false → exec press s = exec press { s with
        handoffs := s.handoffs ++ withheld s
        hkm := { s.hkm with
          state := .idle, buffer := [], tapCounter := 0, tapWindow := none, sequence := none, hold := none
          holding := none } })
      ∧ (k ∉ s.hkm.consumed → exec release s = .next
        (if k = s.tables.desk.prefixKey then { s with
          handoffs := withoutFirst release s.handoffs, hkm := { s.hkm with buffer := s.hkm.buffer ++ [(k, false)] } }
        else { s with
          handoffs := withoutFirst release s.handoffs ++ [{ src := .hkm, cmd := .passedEvent k false }] }))

/-- A press in Sequence: the prefix key is passed as a literal; a modifier passes and the sequence goes on; a matched entry has its key
consumed, and fires its tap action and ends in Idle, or enters Holding when it has a hold action; an unmatched ordinary key is
consumed and counted as a miss, and ends in Idle (R26, R31, R32). -/
def Obligations.SequencePress : Prop :=
  ∀ (k : Key) (held : KeySet) (s : State), s.hkm.state = .sequence → s.cip.work = [] →
    let c : Instr := .keyEvent { key := k, press := true, held := held }
    let idle : Hkm := { s.hkm with
      state := .idle, tapCounter := 0, tapWindow := none, sequence := none, hold := none, holding := none }
    (k = s.tables.desk.prefixKey → exec c s = .next { s with
      handoffs := withoutFirst c s.handoffs ++ [{ src := .hkm, cmd := .passedEvent k true }], hkm := idle })
    ∧ (k ≠ s.tables.desk.prefixKey → isModifier k = true → exec c s = .next { s with
      handoffs := withoutFirst c s.handoffs ++ [{ src := .hkm, cmd := .passedEvent k true }] })
    ∧ (k ≠ s.tables.desk.prefixKey → isModifier k = false →
      (∀ n : EntryNo, entryMatches .prefixed k held (s.tables.hotkeys.get n) = false) →
      exec c s = .next { s with
        handoffs := withoutFirst c s.handoffs
        hkm := { idle with consumed := keyInsert k s.hkm.consumed, misses := bump s.hkm.misses } })
    ∧ ∀ n : EntryNo, k ≠ s.tables.desk.prefixKey → isModifier k = false → s.findEntry .prefixed k held = some n →
      let e := s.tables.hotkeys.get n
      (e.hold = none → exec c s = .next { s with
        handoffs := withoutFirst c s.handoffs ++ handedByAction s n false e.tap
        hkm := { idle with consumed := keyInsert k s.hkm.consumed } })
      ∧ ∀ a : Action, e.hold = some a → exec c s = .next { s with
        handoffs := withoutFirst c s.handoffs
        hkm := { s.hkm with
          state := .holding, consumed := keyInsert k s.hkm.consumed, tapCounter := 0, tapWindow := none, sequence := none
          hold := some (s.timebase + s.tables.desk.holdThreshold * 1000)
          holding := some { entry := n, key := e.key, tap := e.tap, hold := some a } } }

/-- The release of a consumed key is swallowed and the key leaves the consumed set (R21); another release passes, outside Counting.
The release of the holding entry's key fires its tap action in Holding and hands the revert of its hold action in Held, and ends in
Idle; a modifier in Holding and any press in Held pass; another press in Holding fires the tap action and is then taken as in Idle
(R28, R29, R33). A keyboard detach clears the matcher with nothing delivered (R35); a consume request adds a key that is still held
(R38). -/
def Obligations.KeysConsumed : Prop :=
  (∀ (k : Key) (held : KeySet) (s : State), s.cip.work = [] →
      let c : Instr := .keyEvent { key := k, press := false, held := held }
      (k ∈ s.hkm.consumed → (∀ e : HoldingEntry, s.hkm.holding = some e → e.key ≠ k) → exec c s = .next { s with
        handoffs := withoutFirst c s.handoffs, hkm := { s.hkm with consumed := keyErase k s.hkm.consumed } })
      ∧ (k ∉ s.hkm.consumed → s.hkm.state ≠ .counting → exec c s = .next { s with
        handoffs := withoutFirst c s.handoffs ++ [{ src := .hkm, cmd := .passedEvent k false }] }))
  ∧ (∀ (held : KeySet) (s : State), s.cip.work = [] → ∀ e : HoldingEntry, s.hkm.holding = some e → e.key ∈ s.hkm.consumed →
      let c : Instr := .keyEvent { key := e.key, press := false, held := held }
      let idle : Hkm := { s.hkm with
        state := .idle, consumed := keyErase e.key s.hkm.consumed, tapCounter := 0, tapWindow := none, sequence := none
        hold := none, holding := none }
      (s.hkm.state = .holding → exec c s = .next { s with
        handoffs := withoutFirst c s.handoffs ++ handedByAction s e.entry false e.tap, hkm := idle })
      ∧ ∀ a : Action, s.hkm.state = .held → e.hold = some a → exec c s = .next { s with
        handoffs := withoutFirst c s.handoffs ++ handedByRevert e.entry a, hkm := idle })
  ∧ (∀ (k : Key) (held : KeySet) (s : State), s.cip.work = [] →
      let c : Instr := .keyEvent { key := k, press := true, held := held }
      ((s.hkm.state = .holding ∧ isModifier k = true) ∨ s.hkm.state = .held → exec c s = .next { s with
        handoffs := withoutFirst c s.handoffs ++ [{ src := .hkm, cmd := .passedEvent k true }] })
      ∧ ∀ e : HoldingEntry, s.hkm.state = .holding → s.hkm.holding = some e → isModifier k = false →
        exec c s = exec c { s with
          handoffs := s.handoffs ++ handedByAction s e.entry false e.tap
          hkm := { s.hkm with
            state := .idle, tapCounter := 0, tapWindow := none, sequence := none, hold := none, holding := none } })
  ∧ (∀ s : State, exec .keyboardDetachedIndication s = .next { s with
      handoffs := withoutFirst .keyboardDetachedIndication s.handoffs
      hkm := { s.hkm with
        state := .idle, buffer := [], consumed := [], tapCounter := 0, tapWindow := none, sequence := none, hold := none
        holding := none } })
    ∧ ∀ (k : Key) (s : State), exec (.consumeRequest k) s = .next { s with
      handoffs := withoutFirst (.consumeRequest k) s.handoffs
      hkm := if k ∈ s.cip.held then { s.hkm with consumed := keyInsert k s.hkm.consumed } else s.hkm }

/-- The matcher's three timers: at the tap window the withheld events are delivered oldest first, at the sequence timeout nothing
is, and both end in Idle; at the hold threshold the hold action fires and the matcher enters Held (R24, R27, R28, R33). An accepted
write of a hotkey entry, or of the prefix key, tap count or tap window, takes Counting and Sequence to Idle, Counting with the
withheld events delivered first (R34). The model's own: an expiry brings the timebase to its moment (log 5). -/
def Obligations.MatcherTimers : Prop :=
  let stopped (h : Hkm) : Hkm := { h with
    state := .idle, tapCounter := 0, tapWindow := none, sequence := none, hold := none, holding := none }
  let written (h : Hkm) : Hkm :=
    match h.state with
    | .counting => { stopped h with buffer := [] }
    | .sequence => stopped h
    | .idle | .holding | .held => h
  (∀ (e : Nat) (s : State),
    (s.hkm.state = .counting → s.hkm.tapWindow = some e → exec .tapWindowExpiry s = .next { s with
      timebase := max s.timebase e, handoffs := s.handoffs ++ withheld s, hkm := { stopped s.hkm with buffer := [] } })
    ∧ (s.hkm.state = .sequence → s.hkm.sequence = some e → exec .sequenceTimerExpiry s = .next { s with
      timebase := max s.timebase e, hkm := stopped s.hkm })
    ∧ ∀ (h : HoldingEntry) (a : Action), s.hkm.state = .holding → s.hkm.hold = some e → s.hkm.holding = some h →
      h.hold = some a → exec .holdTimerExpiry s = .next { s with
        timebase := max s.timebase e
        handoffs := s.handoffs ++ handedByAction s h.entry true a
        hkm := { s.hkm with state := .held, hold := none } })
  ∧ (∀ (q : Request) (w : RawHotkey) (n : EntryNo) (s : State), Served s q → q.arg2 = n.val + 1 →
      ∀ e : HotkeyEntry, checkHotkey w = some e → hotkeyConflict s.tables n e = false → ∃ t, exec (.writeHotkeyEntry q w) s = .next t
        ∧ t.hkm = written s.hkm
        ∧ t.handoffs = s.handoffs ++ (if s.hkm.state = .counting then withheld s else []))
  ∧ ∀ (q : Request) (w : RawDesk) (s : State), Served s q → q.arg2 = 1 →
      ∀ e : DeskRecord × Bool, checkDesk w = some e →
      deskConflict s.tables e.1 = false → ∃ t, exec (.writeDeskRecord q w) s = .next t
        ∧ (e.1.prefixKey = s.tables.desk.prefixKey ∧ e.1.tapCount = s.tables.desk.tapCount
            ∧ e.1.tapWindow = s.tables.desk.tapWindow → t.hkm = s.hkm)
        ∧ (e.1.prefixKey ≠ s.tables.desk.prefixKey ∨ e.1.tapCount ≠ s.tables.desk.tapCount
            ∨ e.1.tapWindow ≠ s.tables.desk.tapWindow →
          t.hkm = written s.hkm ∧ (s.hkm.state = .counting → ∀ x ∈ withheld s, x ∈ t.handoffs))

/-- Of two hotkey entries that do not conflict, a press matches at most one (R17, R19). -/
def Obligations.OneEntryMatches : Prop :=
  ∀ (path : HotkeyPath) (k : Key) (held : KeySet) (a b : HotkeyEntry), entriesConflict a b = false →
    entryMatches path k held a = true → entryMatches path k held b = false

/-! ## Focus Control -/

/-- A passed key event: a press joins the passed-key set and reaches each target; a release leaves it, reaches each target, and
is an ignore-release for every other port (R63). -/
def Obligations.PassedEventReachesTargets : Prop :=
  ∀ (k : Key) (s : State),
    (exec (.passedEvent k true) s = .next { s with
      fcu := { s.fcu with passedKeys := keyInsert k s.fcu.passedKeys }
      handoffs := withoutFirst (.passedEvent k true) s.handoffs ++
        (allPorts.filter s.isTarget).map (fun p => { src := .fcu, cmd := .portKeyPress p k }) })
    ∧ exec (.passedEvent k false) s = .next { s with
      fcu := { s.fcu with passedKeys := keyErase k s.fcu.passedKeys }
      handoffs := withoutFirst (.passedEvent k false) s.handoffs ++
        allPorts.map (fun p =>
          { src := .fcu, cmd := if s.isTarget p then .portKeyRelease p k else .ignoreRelease p k }) }

/-- A Focus action for another computer: the record, and everything handed in the order of R65; for the computer that has the keyboard
focus it hands the jump request and changes nothing (R65, R67, R69). -/
def Obligations.FocusChangeAppliedWhole : Prop :=
  (∀ (c : Computer) (s : State), s.fcu.focus ≠ some c →
      ∃ t, exec (.focus c) s = .next t
        ∧ t.fcu = { s.fcu with slot := none, focus := some c, lastCause := .hotkey }
        ∧ t.handoffs = withoutFirst (.focus c) s.handoffs
          ++ (match s.fcu.focus with
            | some f => [{ src := .fcu, cmd := .homeRecordRequest f }]
            | none => [])
          ++ allPorts.filterMap (fun p =>
            if s.isTarget p = true ∧ t.isTarget p = false then some { src := .fcu, cmd := .leaveIndication p }
            else if s.isTarget p = false ∧ t.isTarget p = true then
              some { src := .fcu, cmd := .joinIndication p s.fcu.passedKeys }
            else none)
          ++ [{ src := .fcu, cmd := .jumpRequest c .hotkey }]
          ++ (if (s.cpe.get c).linkState = .suspended ∧ (s.cpe.get c).wakeArmed = true then
              [{ src := .fcu, cmd := .wakeRequest c }] else [])
          ++ [{ src := .fcu, cmd := .ledTrigger .focusChange }]
          ++ allScreens.map (fun sc => { src := .fcu, cmd := .targetRefresh sc })
          ++ [{ src := .fcu, cmd := .noticeRaise .focusChanged }])
  ∧ ∀ (c : Computer) (s : State), s.fcu.focus = some c →
      exec (.focus c) s = .next { s with
        handoffs := withoutFirst (.focus c) s.handoffs ++ [{ src := .fcu, cmd := .jumpRequest c .hotkey }] }

/-- Focus Next and Focus Previous step to the first candidate in their order, wrapping, the keyboard focus left out: the change of
keyboard focus is applied whole, with cause Hotkey and a jump request (R65, R70). A candidate is a port that is Active or Recovering, or
Suspended with wake armed. With no candidate they change nothing and hand nothing (R70). -/
def Obligations.FocusSteps : Prop :=
  ∀ s : State,
    let order := nextOrder s.fcu.focus
    let stepped (c : Instr) (n : Computer) : Result := .next { s with
      fcu := { s.fcu with slot := none, focus := some n, lastCause := .hotkey }
      handoffs := withoutFirst c s.handoffs ++ handedByFocus s (some n) .hotkey true }
    (∀ p : Port, isCandidate s p = true ↔
      (s.cpe.get p).linkState = .active ∨ (s.cpe.get p).linkState = .recovering
      ∨ ((s.cpe.get p).linkState = .suspended ∧ (s.cpe.get p).wakeArmed = true))
    ∧ ((∀ p : Port, s.fcu.focus ≠ some p → isCandidate s p = false) →
      exec .focusNext s = .next { s with handoffs := withoutFirst .focusNext s.handoffs }
      ∧ exec .focusPrevious s = .next { s with handoffs := withoutFirst .focusPrevious s.handoffs })
    ∧ (∀ n : Computer, order.find? (isCandidate s) = some n → exec .focusNext s = stepped .focusNext n)
    ∧ (∀ n : Computer, order.reverse.find? (isCandidate s) = some n → exec .focusPrevious s = stepped .focusPrevious n)
    ∧ (s.fcu.focus = none → order = [0, 1, 2, 3, 4, 5])
    ∧ ∀ f : Computer, s.fcu.focus = some f → order.length = 5
      ∧ ∀ i : Fin 5, order[i.val]? = some ⟨(f.val + 1 + i.val) % 6, Nat.mod_lt _ (by decide)⟩

/-- A momentary Focus fills the return slot with the keyboard focus as it stands and is a Focus action with cause Hotkey: the change
handed whole, and for the computer that has the keyboard focus the jump request alone. The momentary return empties the slot and goes
back to its value in the same way, to none with no jump, and changes nothing when the slot is absent (R65, R69, R71). The model's own:
a return to none hands no home-record request (log 36). -/
def Obligations.MomentaryFocusReturns : Prop :=
  (∀ (c : Computer) (s : State),
      let m : Instr := .momentaryFocus c
      (s.fcu.focus = some c → exec m s = .next { s with
        fcu := { s.fcu with slot := some (some c) }
        handoffs := withoutFirst m s.handoffs ++ [{ src := .fcu, cmd := .jumpRequest c .hotkey }] })
      ∧ (s.fcu.focus ≠ some c → exec m s = .next { s with
        fcu := { s.fcu with slot := some s.fcu.focus, focus := some c, lastCause := .hotkey }
        handoffs := withoutFirst m s.handoffs ++ handedByFocus s (some c) .hotkey true }))
  ∧ (∀ (v : Option Computer) (s : State), s.fcu.slot = some v →
      let waiting := withoutFirst .momentaryReturn s.handoffs
      (s.fcu.focus ≠ v → exec .momentaryReturn s = .next { s with
        fcu := { s.fcu with slot := none, focus := v, lastCause := .hotkey }
        handoffs := waiting ++ handedByFocus s v .hotkey v.isSome })
      ∧ (s.fcu.focus = v → exec .momentaryReturn s = .next { s with
        fcu := { s.fcu with slot := none }
        handoffs := waiting ++ v.toList.map (fun c => { src := .fcu, cmd := .jumpRequest c .hotkey }) }))
  ∧ ∀ s : State, s.fcu.slot = none →
    exec .momentaryReturn s = .next { s with handoffs := withoutFirst .momentaryReturn s.handoffs }

/-- Lock toggles (R74); Broadcast toggles, with the ports of the mask that are not the keyboard focus joining or leaving (R75); the
three Dim Override commands set the value they ask for, and change nothing when it holds (R76). Each change raises FocusChanged. -/
def Obligations.FocusSwitchesToggle : Prop :=
  (∀ s : State, exec .lock s = .next { s with
      fcu := { s.fcu with lock := !s.fcu.lock }
      handoffs := withoutFirst .lock s.handoffs ++ [{ src := .fcu, cmd := .noticeRaise .focusChanged }] })
  ∧ (∀ s : State, exec .broadcast s = .next { s with
      fcu := { s.fcu with broadcast := !s.fcu.broadcast }
      handoffs := withoutFirst .broadcast s.handoffs
        ++ (allPorts.filter (fun p => s.tables.desk.broadcastMask.get p && decide (s.fcu.focus ≠ some p))).map (fun p =>
          { src := .fcu
            cmd := if s.fcu.broadcast then .leaveIndication p else .joinIndication p s.fcu.passedKeys })
        ++ [{ src := .fcu, cmd := .noticeRaise .focusChanged }]
        ++ allScreens.map (fun sc => { src := .fcu, cmd := .targetRefresh sc }) })
  ∧ ∀ s : State, ∀ x ∈ [((.dimOverride : Instr), !s.fcu.dimOverride), (.dimOverrideHold, true), (.dimOverrideRelease, false)],
      exec x.1 s = .next
        (if s.fcu.dimOverride = x.2 then { s with handoffs := withoutFirst x.1 s.handoffs }
        else { s with
          fcu := { s.fcu with dimOverride := x.2 }
          handoffs := withoutFirst x.1 s.handoffs
            ++ allScreens.map (fun sc => { src := .fcu, cmd := .targetRefresh sc })
            ++ [{ src := .fcu, cmd := .noticeRaise .focusChanged }] })

/-- A cursor-screen change recomputes the pointer owner, and the keyboard focus follows it as its cause says (R64, R68, R78). At a
change of owner the old owner is handed a buttons-released report where one is due and its pointer-ignore set empties, and the held
and passed buttons join the new owner's (R66, steps 1 and 2). The model's own: both sets change within the one command (log 8), and the
report taken is the latest handed to the port, one still on its way included (log 32); and a glide that finds the owner recorded already
leaves the keyboard focus, whatever the screen left shows (log 56). -/
def Obligations.CursorScreenChangeTaken : Prop :=
  (∀ (c : CursorCause) (s : State), ∃ t, exec (.cursorScreenChange c) s = .next t
      ∧ t.fcu.owner = s.screenOwner s.glu.screen
      ∧ t.fcu.focus =
        (match s.screenOwner s.glu.screen, c with
        | none, _ => s.fcu.focus
        | some m, .glide => if s.fcu.owner = some m then s.fcu.focus else some m
        | some m, .management => if s.fcu.owner = some m ∨ s.fcu.lock = true then s.fcu.focus else some m
        | some m, .restart => some m))
  ∧ ∀ (c : CursorCause) (s : State), s.fcu.owner ≠ s.screenOwner s.glu.screen →
      let handed := withoutFirst (.cursorScreenChange c) s.handoffs
      ∃ t, exec (.cursorScreenChange c) s = .next t
        ∧ (s.fcu.owner = none →
          t.handoffs.filter (fun h => isPortReport h.cmd) = handed.filter (fun h => isPortReport h.cmd))
        ∧ (∀ o : Computer, s.fcu.owner = some o →
          (t.cpe.get o).pointerIgnored = Flags.none
          ∧ t.handoffs.filter (fun h => isPortReport h.cmd) = handed.filter (fun h => isPortReport h.cmd) ++
            (match (Flags.minus s.passedButtons (s.cpe.get o).pointerIgnored).any, s.lastHanded o with
            | true, some r => [{ src := .fcu, cmd := .portPointerReport o { r with buttons := Flags.none, wheel := 0 } }]
            | true, none => []
            | false, _ => []))
        ∧ ∀ m : Computer, s.screenOwner s.glu.screen = some m → ∀ b : Fin 5,
          (t.cpe.get m).pointerIgnored.get b = (s.passedButtons.get b || (s.cpe.get m).pointerIgnored.get b)

/-- The answer to a jump (R69), a switch notice (R72) and a layout completion (R73, R78): what each makes of the pointer owner and the
keyboard focus, and what it hands on; a layout completion leaves the pointer owner as it stands and hands a jump request for a Cn
field only (R65, R69). An accepted source-table write: a new owner of the cursor screen's source moves the pointer owner and, with
lock off, the keyboard focus; a cursor notice is handed for it and for a new rectangle of the cursor source; and one that changes
nothing hands nothing (R72, R104). A mask written under broadcast makes ports join and leave (R75). The model's own: a layout
completion that hands no jump request hands no home-record request (log 36). -/
def Obligations.FocusInputsTaken : Prop :=
  (∀ (n : Computer) (cause : FocusCause) (s : State),
      exec (.jumpAnswer n cause none) s = .next { s with handoffs := withoutFirst (.jumpAnswer n cause none) s.handoffs }
      ∧ ∀ sc : Screen, ∃ t, exec (.jumpAnswer n cause (some sc)) s = .next t
        ∧ t.fcu.owner = s.screenOwner s.glu.screen
        ∧ { src := .fcu, cmd := .cursorNotice } ∈ t.handoffs
        ∧ t.fcu.focus = if s.screenOwner s.glu.screen = some n then some n else s.fcu.focus)
  ∧ (∀ (sc : Screen) (s : State),
      (sc ≠ s.glu.screen → exec (.switchNotice sc) s = .next { s with
        handoffs := withoutFirst (.switchNotice sc) s.handoffs
          ++ allScreens.map (fun d => { src := .fcu, cmd := .targetRefresh d }) })
      ∧ (sc = s.glu.screen → ∃ t, exec (.switchNotice sc) s = .next t
        ∧ t.fcu.owner = s.screenOwner sc
        ∧ { src := .fcu, cmd := .cursorNotice } ∈ t.handoffs
        ∧ t.fcu.focus =
          (match s.screenOwner sc with
          | none => s.fcu.focus
          | some m => if s.fcu.owner = some m ∨ s.fcu.lock = true then s.fcu.focus else some m)))
  ∧ (∀ (f : FocusField) (restart : Bool) (s : State),
      let c : Instr := .layoutCompletion f restart
      let cause : FocusCause := if restart = true then .restart else .layout
      let kept (handed : List Handoff) : Result := .next { s with handoffs := withoutFirst c s.handoffs ++ handed }
      let changed (new : Option Computer) (jump : Bool) : Result := .next { s with
        fcu := { s.fcu with slot := none, focus := new, lastCause := cause }
        handoffs := withoutFirst c s.handoffs ++ handedByFocus s new cause jump }
      (f = .keep → restart = false → exec c s = kept [])
      ∧ (f = .follow → restart = false → s.fcu.owner = none → exec c s = kept [])
      ∧ ((f = .follow ∧ (restart = true ∨ s.fcu.owner ≠ none)) ∨ (f = .keep ∧ restart = true) →
        exec c s = if s.fcu.focus = s.fcu.owner then kept [] else changed s.fcu.owner false)
      ∧ ∀ n : Computer, f = .computer n →
        exec c s = if s.fcu.focus = some n then kept [{ src := .fcu, cmd := .jumpRequest n cause }] else changed (some n) true)
  ∧ (∀ (q : Request) (w : RawSource) (v : Source) (s : State), Served s q → q.arg2 = v.val + 1 →
      ∀ e : SourceEntry, checkSource w = some e →
      let old := s.tables.sources.get v
      let owned : Bool := decide (s.active s.glu.screen = some v) && decide (e.owner ≠ old.owner)
      let moved : Prop := e.x0 ≠ old.x0 ∨ e.y0 ≠ old.y0 ∨ e.w ≠ old.w ∨ e.h ≠ old.h
      ∃ t, exec (.writeSourceEntry q w) s = .next t
        ∧ t.fcu.owner = (if owned = true then e.owner else s.fcu.owner)
        ∧ t.fcu.focus =
          (match e.owner with
          | some c => if owned = true ∧ s.fcu.lock = false ∧ s.fcu.owner ≠ some c then some c else s.fcu.focus
          | none => s.fcu.focus)
        ∧ (owned = true ∨ (moved ∧ (s.active s.glu.screen = some v ∨ s.glu.source = some v)) →
          { src := .fcu, cmd := .cursorNotice } ∈ t.handoffs)
        ∧ (e.owner ≠ old.owner → ∀ sc : Screen, { src := .fcu, cmd := .targetRefresh sc } ∈ t.handoffs)
        ∧ (e = old → t.handoffs = s.handoffs))
  ∧ ∀ (q : Request) (w : RawDesk) (s : State), Served s q → q.arg2 = 1 →
      ∀ e : DeskRecord × Bool, checkDesk w = some e →
      deskConflict s.tables e.1 = false → s.fcu.broadcast = true → ∃ t, exec (.writeDeskRecord q w) s = .next t
        ∧ ∀ p : Port, s.fcu.focus ≠ some p →
          (s.tables.desk.broadcastMask.get p = true → e.1.broadcastMask.get p = false →
            { src := .fcu, cmd := .leaveIndication p } ∈ t.handoffs)
          ∧ (s.tables.desk.broadcastMask.get p = false → e.1.broadcastMask.get p = true →
            { src := .fcu, cmd := .joinIndication p s.fcu.passedKeys } ∈ t.handoffs)

/-! ## Glide Unit -/

/-- The scaled motion of an axis loses nothing, its residue lies within -255 to 255, and the division is truncated toward zero
(R44). -/
def Obligations.ScaledMotionExact : Prop :=
  ∀ (d : Int) (gain : Nat) (residue : Int),
    let r := scaled d gain residue
    256 * r.1 + r.2 = d * gain + residue ∧ -255 ≤ r.2 ∧ r.2 ≤ 255
    ∧ (0 ≤ d * gain + residue → 0 ≤ r.2) ∧ (d * gain + residue ≤ 0 → r.2 ≤ 0)

/-- Case A: the cursor moves inside the cursor screen. Case C, a candidate position on no placed screen or on one that is not eligible,
and a blocked push of case B: it is clamped there. The pressure record becomes absent in cases A and C and is left as it stands in a
blocked push (R44, R46, R47, R49). An event without motion leaves the cursor as it is. In each case the released buttons leave every
pointer-ignore set, and the report, of the position mapped, the buttons held less the ignored ones, and the wheel, is handed to the
owner of the cursor source when it is the pointer owner and there is something to report (R53, R54, R66). A position lies on the placed
screen whose rectangle holds it (R45); a screen is eligible when it is placed and its owner's port takes the cursor (R43); and each axis
is clamped on its own (R49). The owner held with the cursor source is the model's own (log 39). -/
def Obligations.CursorStaysOnScreen : Prop :=
  (∀ (s : State) (x y : Int),
      let lies (sc : Screen) : Prop :=
        (s.screenEntry sc).placed = true
        ∧ ((s.screenEntry sc).x : Int) ≤ x ∧ x < (s.screenEntry sc).x + (s.screenEntry sc).w
        ∧ ((s.screenEntry sc).y : Int) ≤ y ∧ y < (s.screenEntry sc).y + (s.screenEntry sc).h
      (∀ sc : Screen, screenAt s x y = some sc → lies sc) ∧ (screenAt s x y = none → ∀ sc : Screen, ¬lies sc))
  ∧ (∀ (s : State) (sc : Screen), eligible s sc = true ↔
      (s.screenEntry sc).placed = true ∧ ∃ p : Port, s.screenOwner sc = some p
        ∧ ((s.cpe.get p).linkState = .settling ∨ (s.cpe.get p).linkState = .active ∨ (s.cpe.get p).linkState = .recovering
          ∨ (s.cpe.get p).linkState = .waking ∨ (s.cpe.get p).linkState = .stalled
          ∨ ((s.cpe.get p).linkState = .suspended ∧ (s.portEntry p).wakeOnGlide = true ∧ (s.cpe.get p).wakeArmed = true)))
  ∧ (∀ (e : ScreenEntry) (x y : Int), 1 ≤ e.w → 1 ≤ e.h →
      ((clampInto e x y).x : Int) = max (e.x : Int) (min ((e.x : Int) + e.w - 1) x)
      ∧ ((clampInto e x y).y : Int) = max (e.y : Int) (min ((e.y : Int) + e.h - 1) y))
  ∧ (∀ (a b : Buttons) (i : Fin 5), (Flags.minus a b).get i = (a.get i && !b.get i))
  ∧ (∀ (e : PointerEvent) (s : State), e.dx = 0 ∧ e.dy = 0 →
      ∃ t, exec (.pointerEvent e) s = .next t ∧ t.glu = s.glu ∧ EventReported e s t)
  ∧ (∀ (e : PointerEvent) (s : State), ¬(e.dx = 0 ∧ e.dy = 0) →
      let mx := scaled e.dx s.tables.desk.glideGain s.glu.residueX
      let my := scaled e.dy s.tables.desk.glideGain s.glu.residueY
      let x : Int := s.glu.pos.x + mx.1
      let y : Int := s.glu.pos.y + my.1
      screenAt s x y = some s.glu.screen →
      ∃ t, exec (.pointerEvent e) s = .next t ∧ EventReported e s t
        ∧ t.glu = { s.glu with
          pos := { x := x.toNat, y := y.toNat }, residueX := mx.2, residueY := my.2, pressure := none, pressureHold := none })
  ∧ ∀ (e : PointerEvent) (s : State), ¬(e.dx = 0 ∧ e.dy = 0) →
      let mx := scaled e.dx s.tables.desk.glideGain s.glu.residueX
      let my := scaled e.dy s.tables.desk.glideGain s.glu.residueY
      let x : Int := s.glu.pos.x + mx.1
      let y : Int := s.glu.pos.y + my.1
      (screenAt s x y = none ∨ (∃ b : Screen, screenAt s x y = some b ∧ b ≠ s.glu.screen ∧ eligible s b = false) →
        ∃ t, exec (.pointerEvent e) s = .next t ∧ EventReported e s t
          ∧ t.glu = { s.glu with
            pos := clampInto (s.tables.screens.get s.glu.screen) x y, residueX := mx.2, residueY := my.2, pressure := none
            pressureHold := none })
      ∧ ∀ b : Screen, screenAt s x y = some b → b ≠ s.glu.screen → eligible s b = true →
        s.screenOwner b ≠ s.screenOwner s.glu.screen → (e.held.any = true ∨ s.fcu.lock = true) →
        ∃ t, exec (.pointerEvent e) s = .next t ∧ EventReported e s t
          ∧ t.glu = { s.glu with
            pos := clampInto (s.tables.screens.get s.glu.screen) x y, residueX := mx.2, residueY := my.2 }

/-- A push toward an eligible screen: of the cursor screen's owner, it crosses at once; of another owner and not blocked, the cursor
is held at the edge with the amount stored while that amount and the overshoot are short of the crossing resistance, and crosses
otherwise (R47, R48). The overshoot is the larger of the two axes' excesses beyond the cursor screen, and the amount stored toward
another screen counts as 0 (R48). A crossing sets the home record of another computer left and puts the cursor on the screen (R50,
R57); the pointer owner is the new screen's, and so is the keyboard focus where the owner changes, also when a landing answer was
still on its way (R68, R69); a Suspended port is asked to wake (R50); and the pointer report is built for the new owner (R54). The
released buttons leave every pointer-ignore set, that of the owner left empties, and the console buttons join that of another owner
(R66). A push held at the edge is reported as an event that does not cross (R54). The model's own: the crossing is made at all blocks
within the one command (log 7), the owner is held with the cursor source (log 39), and the keyboard focus follows by the pointer owner
recorded, not by the owner of the screen left (log 56). -/
def Obligations.PushIsWeighed : Prop :=
  ∀ (e : PointerEvent) (b : Screen) (c : Computer) (s : State), ¬(e.dx = 0 ∧ e.dy = 0) →
    let mx := scaled e.dx s.tables.desk.glideGain s.glu.residueX
    let my := scaled e.dy s.tables.desk.glideGain s.glu.residueY
    let x : Int := s.glu.pos.x + mx.1
    let y : Int := s.glu.pos.y + my.1
    let amount := storedPressure s.glu b + overshoot (s.tables.screens.get s.glu.screen) x y
    let free : Prop := s.screenOwner b ≠ s.screenOwner s.glu.screen ∧ e.held.any = false ∧ s.fcu.lock = false
    (∀ a : ScreenEntry, ((overshoot a x y : Nat) : Int) =
      max (max 0 (max ((a.x : Int) - x) (x - ((a.x : Int) + a.w - 1)))) (max ((a.y : Int) - y) (y - ((a.y : Int) + a.h - 1))))
    ∧ (∀ n : Nat, s.glu.pressure = some { target := b, amount := n } → storedPressure s.glu b = n)
    ∧ ((∀ r : Pressure, s.glu.pressure = some r → r.target ≠ b) → storedPressure s.glu b = 0)
    ∧ (screenAt s x y = some b → b ≠ s.glu.screen → eligible s b = true → s.screenOwner b = some c →
    (free → amount < s.tables.desk.crossingResistance →
      ∃ t, exec (.pointerEvent e) s = .next t ∧ EventReported e s t
        ∧ t.glu = { s.glu with
          pos := clampInto (s.tables.screens.get s.glu.screen) x y, residueX := mx.2, residueY := my.2
          pressure := some { target := b, amount := amount }
          pressureHold := some (s.timebase + s.tables.desk.pressureHold * 1000) })
    ∧ (s.screenOwner b = s.screenOwner s.glu.screen ∨ (free ∧ s.tables.desk.crossingResistance ≤ amount) →
      ∃ t, exec (.pointerEvent e) s = .next t
        ∧ t.glu = { s.glu with
          pos := { x := x.toNat, y := y.toNat }, screen := b, source := s.active b, sourceOwner := some c
          residueX := 0, residueY := 0, pressure := none, pressureHold := none
          homes :=
            match s.screenOwner s.glu.screen with
            | some m =>
              if m = c then s.glu.homes else s.glu.homes.set m (some { screen := s.glu.screen, pos := s.glu.pos })
            | none => s.glu.homes }
        ∧ t.fcu.owner = some c
        ∧ ((∀ h ∈ s.handoffs, h.src ≠ .glu) → t.fcu.focus = if s.fcu.owner = some c then s.fcu.focus else some c)
        ∧ ((∀ h ∈ s.handoffs, h.src ≠ .glu) → ∀ p : Port,
          let kept := Flags.minus (s.cpe.get p).pointerIgnored e.released
          (t.cpe.get p).pointerIgnored =
            if s.fcu.owner = some c then kept
            else if p = c then Flags.union s.passedButtons kept
            else if s.fcu.owner = some p then Flags.none
            else kept)
        ∧ ((∃ h ∈ s.handoffs, h.src = .glu ∧ ∃ (m : Computer) (cause : FocusCause) (sc : Screen),
            h.cmd = .jumpAnswer m cause (some sc)) →
          s.screenOwner b ≠ s.screenOwner s.glu.screen → t.fcu.focus = some c)
        ∧ ((s.cpe.get c).linkState = .suspended → { src := .glu, cmd := .wakeRequest c } ∈ t.handoffs)
        ∧ ∀ v : Source, s.active b = some v →
          (t.glu.pos ≠ s.glu.pos ∨ e.pressed.any = true ∨ e.released.any = true ∨ e.wheel ≠ 0) →
          t.handoffs.getLast? = some
            { src := .glu, cmd := .portPointerReport c
                { absX := (mapCursor t v).1, absY := (mapCursor t v).2
                  buttons := Flags.minus e.held (t.cpe.get c).pointerIgnored, wheel := e.wheel } }))

/-- The absolute position that the Glide Unit builds from the cursor: on each axis the source's origin and the floor of the cursor's
offset in the screen times the source's extent over the screen's; so it lies within the absolute rectangle of the source (R53). -/
def Obligations.PositionInRectangle : Prop :=
  ∀ (s : State) (v : Source), CursorPlaced s → 1 ≤ (s.tables.sources.get v).w → 1 ≤ (s.tables.sources.get v).h →
    let a := s.tables.sources.get v
    let e := s.screenEntry s.glu.screen
    ((mapCursor s v).1 : Int) = a.x0 + ((s.glu.pos.x : Int) - e.x) * a.w / e.w
    ∧ ((mapCursor s v).2 : Int) = a.y0 + ((s.glu.pos.y : Int) - e.y) * a.h / e.h
    ∧ (s.tables.sources.get v).x0 ≤ (mapCursor s v).1
    ∧ (mapCursor s v).1 < (s.tables.sources.get v).x0 + (s.tables.sources.get v).w
    ∧ (s.tables.sources.get v).y0 ≤ (mapCursor s v).2
    ∧ (mapCursor s v).2 < (s.tables.sources.get v).y0 + (s.tables.sources.get v).h

/-- A cursor notice reports the cursor as it stands (R54, R56); a jump request lands on the home record, at the centre of the
lowest-numbered screen of the computer that the cursor may enter, or answers blind, and a jump away sets the home record of the owner
left; a home-record request sets the record of the cursor source's owner only (R57, R58); at the pressure hold timer's expiry the
pressure record becomes absent (R51). An accepted screen-table write that changes a placement clears the pressure, clamps the cursor
into its screen with a report where it moved, and takes it to the lowest-numbered placed screen, with a report to that screen's owner,
when its own is unplaced (R54, R59). The model's own: an expiry brings the timebase to its moment (log 5), the owner is held with the
cursor source (log 39), Focus Control takes the cursor-screen change of an unplaced screen within the write's own command (log 7), and
the report after that move carries the passed console buttons and a wheel of 0 (log 55). -/
def Obligations.GlideRequestsTaken : Prop :=
  (∀ s : State, ∃ t, exec .cursorNotice s = .next t
      ∧ t.glu = { s.glu with source := s.active s.glu.screen, sourceOwner := s.screenOwner s.glu.screen }
      ∧ (s.screenOwner s.glu.screen = none → t.handoffs = withoutFirst .cursorNotice s.handoffs)
      ∧ ∀ (v : Source) (p : Port), s.active s.glu.screen = some v → (s.tables.sources.get v).owner = some p →
        t.handoffs = withoutFirst .cursorNotice s.handoffs
          ++ (if s.fcu.owner = some p then
            [{ src := .glu, cmd := .portPointerReport p
                { absX := (mapCursor s v).1, absY := (mapCursor s v).2
                  buttons := Flags.minus s.passedButtons (s.cpe.get p).pointerIgnored, wheel := 0 } }]
            else []))
  ∧ (∀ (c : Computer) (cause : FocusCause) (s : State),
      (landingOf s c = none → exec (.jumpRequest c cause) s = .next { s with
        handoffs := withoutFirst (.jumpRequest c cause) s.handoffs ++ [{ src := .glu, cmd := .jumpAnswer c cause none }] })
      ∧ (∀ (sc : Screen) (pos : Pos), landingOf s c = some (sc, pos) → ∃ t, exec (.jumpRequest c cause) s = .next t
        ∧ t.glu.screen = sc ∧ t.glu.pos = pos ∧ t.glu.source = s.active sc ∧ t.glu.sourceOwner = some c
        ∧ t.glu.residueX = 0 ∧ t.glu.residueY = 0 ∧ t.glu.pressure = none ∧ t.glu.pressureHold = none
        ∧ t.glu.homes =
          (match s.screenOwner s.glu.screen with
          | some m => if m = c then s.glu.homes else s.glu.homes.set m (some { screen := s.glu.screen, pos := s.glu.pos })
          | none => s.glu.homes)
        ∧ t.handoffs = withoutFirst (.jumpRequest c cause) s.handoffs
          ++ [{ src := .glu, cmd := .jumpAnswer c cause (some sc) }]
        ∧ s.screenOwner sc = some c ∧ eligible s sc = true)
      ∧ exec (.homeRecordRequest c) s = .next { s with
        handoffs := withoutFirst (.homeRecordRequest c) s.handoffs
        glu :=
          if s.glu.sourceOwner = some c then
            { s.glu with homes := s.glu.homes.set c (some { screen := s.glu.screen, pos := s.glu.pos }) }
          else s.glu })
  ∧ (∀ (c : Computer) (s : State),
      let lands (sc : Screen) : Prop := eligible s sc = true ∧ s.screenOwner sc = some c
      let unrecorded : Prop := ∀ h : Home, s.glu.homes.get c = some h → ¬lands h.screen
      (∀ h : Home, s.glu.homes.get c = some h → lands h.screen →
        landingOf s c = some (h.screen, clampInto (s.screenEntry h.screen) h.pos.x h.pos.y))
      ∧ (unrecorded → ∀ sc : Screen, lands sc → (∀ d : Screen, d < sc → ¬lands d) →
        let e := s.screenEntry sc
        landingOf s c = some (sc, { x := e.x + e.w / 2, y := e.y + e.h / 2 }))
      ∧ (unrecorded → (∀ sc : Screen, ¬lands sc) → landingOf s c = none))
  ∧ (∀ s : State,
      (s.glu.pressureHold = none → exec .pressureHoldTimerExpiry s = .next s)
      ∧ ∀ e : Nat, s.glu.pressureHold = some e → exec .pressureHoldTimerExpiry s = .next { s with
        timebase := max s.timebase e, glu := { s.glu with pressure := none, pressureHold := none } })
  ∧ ∀ (q : Request) (w : RawScreen) (sc : Screen) (s : State), Served s q → q.arg2 = sc.val + 1 →
      ∀ e : ScreenEntry, checkScreen w = some e → screenConflict s.tables sc e = false →
      let old := s.screenEntry sc
      let freed : Glu := { s.glu with pressure := none, pressureHold := none }
      ∃ t, exec (.writeScreenEntry q w) s = .next t
        ∧ (e.placed = old.placed ∧ e.x = old.x ∧ e.y = old.y ∧ e.w = old.w ∧ e.h = old.h → t.glu = s.glu)
        ∧ (e.placed ≠ old.placed ∨ e.x ≠ old.x ∨ e.y ≠ old.y ∨ e.w ≠ old.w ∨ e.h ≠ old.h →
          (sc ≠ s.glu.screen → t.glu = freed)
          ∧ (sc = s.glu.screen → e.placed = true → t.glu = { freed with pos := clampInto e s.glu.pos.x s.glu.pos.y }
            ∧ ∀ (v : Source) (p : Port), t.glu.pos ≠ s.glu.pos → s.glu.source = some v → s.glu.sourceOwner = some p →
              s.fcu.owner = some p →
              { src := .glu, cmd := .portPointerReport p
                  { absX := (mapCursor t v).1, absY := (mapCursor t v).2
                    buttons := Flags.minus s.passedButtons (s.cpe.get p).pointerIgnored, wheel := 0 } } ∈ t.handoffs)
          ∧ (sc = s.glu.screen → e.placed = false → ∀ d : Screen, t.lowestPlaced = some d →
            t.glu = { freed with
              pos := centre (t.screenEntry d), screen := d, source := s.active d, sourceOwner := s.screenOwner d
              residueX := 0, residueY := 0 }
            ∧ t.fcu.owner = s.screenOwner d
            ∧ ∀ (v : Source) (p : Port), s.active d = some v → (s.tables.sources.get v).owner = some p →
              { src := .glu, cmd := .portPointerReport p
                  { absX := (mapCursor t v).1, absY := (mapCursor t v).2
                    buttons := Flags.minus s.passedButtons (t.cpe.get p).pointerIgnored, wheel := 0 } } ∈ t.handoffs))

/-! ## Computer Port Engines -/

/-- The events of a port's link: the link condition follows the event, and the link state moves as R83, R84, R87 and R88 say; a
link configured event of a port that is not Detached is taken as a detach and then a configure. Wake armed, wake disarmed and an
LED output report set what they name (R81). An accepted port-table write that disables the port takes it to Detached, one that enables
it re-takes it by its link, and settle polls lowered to the count take a Settling port to Active (R80, R83, R84). That detach and
configure are taken as such is the model's reading (log 15). -/
def Obligations.LinkEventsTaken : Prop :=
  (∀ (p : Port) (s : State), s.loading = false →
    let e := s.cpe.get p
    (∃ t, exec (.linkDetached p) s = .next t
      ∧ t.cpe = s.cpe.set p { e with
        linkState := .detached, link := .down, wakeArmed := false, lamps := Flags.none, reported := [], ignored := []
        pointerIgnored := Flags.none, keyQueue := [], pointerQueue := [], settle := 0, stall := none }
      ∧ t.handoffs = s.handoffs
        ++ (if e.lamps = Flags.none then [] else [{ src := .cpe p, cmd := .ledTrigger (.port p) }])
        ++ handedByMove p e.linkState .detached)
    ∧ (e.linkState ≠ .detached → ∀ t, exec (.linkDetached p) s = .next t →
      exec (.linkConfigured p) s = exec (.linkConfigured p) t)
    ∧ (e.linkState = .detached → (s.portEntry p).enabled = false →
      exec (.linkConfigured p) s = .next { s with cpe := s.cpe.set p { e with link := .up } })
    ∧ (e.linkState = .detached → (s.portEntry p).enabled = true → ∃ t, exec (.linkConfigured p) s = .next t
      ∧ ((s.portEntry p).settlePolls ≠ 0 → t.cpe = s.cpe.set p { e with
          linkState := .settling, link := .up, settle := 0, ignored := s.fcu.passedKeys, pointerIgnored := s.passedButtons }
        ∧ t.handoffs = s.handoffs ++ handedByMove p .detached .settling)
      ∧ ((s.portEntry p).settlePolls = 0 → (t.cpe.get p).linkState = .active))
    ∧ (e.linkState = .active ∨ e.linkState = .stalled ∨ e.linkState = .recovering → ∃ t, exec (.linkSuspended p) s = .next t
      ∧ t.cpe = s.cpe.set p { e with
        linkState := .suspended, link := .asleep, keyQueue := [], pointerQueue := []
        ignored := keyUnion e.reported e.ignored, reported := [], stall := none }
      ∧ t.handoffs = s.handoffs ++ handedByMove p e.linkState .suspended)
    ∧ (e.linkState = .settling → ∃ t, exec (.linkSuspended p) s = .next t
      ∧ t.cpe = s.cpe.set p { e with linkState := .suspended, link := .asleep, settle := 0 }
      ∧ t.handoffs = s.handoffs ++ handedByMove p .settling .suspended)
    ∧ (e.linkState = .detached ∨ e.linkState = .suspended ∨ e.linkState = .waking →
      exec (.linkSuspended p) s = .next { s with cpe := s.cpe.set p { e with link := .asleep } })
    ∧ (e.linkState = .suspended ∨ e.linkState = .waking → ∃ t, exec (.linkResumed p) s = .next t
      ∧ t.cpe = s.cpe.set p { e with linkState := .recovering, link := .up }
      ∧ t.handoffs = s.handoffs ++ handedByMove p e.linkState .recovering)
    ∧ (e.linkState ≠ .suspended → e.linkState ≠ .waking →
      exec (.linkResumed p) s = .next { s with cpe := s.cpe.set p { e with link := .up } })
    ∧ exec (.wakeArmed p) s = .next { s with cpe := s.cpe.set p { e with wakeArmed := true } }
    ∧ exec (.wakeDisarmed p) s = .next { s with cpe := s.cpe.set p { e with wakeArmed := false } }
    ∧ ∀ lamps : Lamps, exec (.ledOutputReport p lamps) s = .next
      (if e.lamps = lamps then s
      else { s with
        cpe := s.cpe.set p { e with lamps := lamps }
        handoffs := s.handoffs ++ [{ src := .cpe p, cmd := .ledTrigger (.port p) }] }))
  ∧ ∀ (q : Request) (w : RawPort) (p : Port) (s : State), Served s q → q.arg2 = p.val + 1 →
      ∀ new : PortEntry × Bool, checkPort w = some new → (p ≠ q.port ∨ new.1.managementAllowed = true) →
      let old := s.portEntry p
      let e := s.cpe.get p
      ∃ t, exec (.writePortEntry q w) s = .next t
        ∧ (t.cpe.get p).linkState =
          (if old.enabled = true ∧ new.1.enabled = false then .detached
          else if old.enabled = false ∧ new.1.enabled = true ∧ e.linkState = .detached then
            match e.link with
            | .down => .detached
            | .asleep => .suspended
            | .up => if new.1.settlePolls = 0 then .active else .settling
          else if old.settlePolls ≠ new.1.settlePolls ∧ e.linkState = .settling ∧ new.1.settlePolls ≤ e.settle then .active
          else e.linkState)
        ∧ (t.cpe.get p).link = e.link
        ∧ (old.enabled = true → new.1.enabled = false → t.cpe.get p = { e with
          linkState := .detached, keyQueue := [], pointerQueue := [], reported := [], ignored := []
          pointerIgnored := Flags.none, settle := 0, stall := none })
        ∧ (old.enabled = new.1.enabled → e.linkState ≠ .settling → t.cpe = s.cpe ∧ t.handoffs = s.handoffs)
        ∧ ∀ x : Port, x ≠ p → t.cpe.get x = s.cpe.get x

/-- A poll by the port's state: in Active the oldest entry is the answer and the stall timer starts anew or stops; in Stalled the
port enters Active first; in Settling the answer is empty and the settle counter counts; otherwise the answer is "no change", and
a port whose link is not Up answers nothing in Detached (R84, R96, R98, R99). The last of these is the model's reading (log 25).
-/
def Obligations.PollsAnswered : Prop :=
  ∀ (p : Port) (s : State), s.loading = false →
    let e := s.cpe.get p
    let stall (keys : List Snapshot) (reports : List PointerReport) : Timer :=
      if keys = [] ∧ reports = [] then none else some (s.timebase + (s.portEntry p).stallTimeout * 1000)
    (e.linkState = .active →
      exec (.keyboardPoll p) s = .next { s with
        sent := s.sent ++ [.keyboardAnswer p e.keyQueue.head?]
        cpe := s.cpe.set p { e with keyQueue := e.keyQueue.tail, stall := stall e.keyQueue.tail e.pointerQueue } }
      ∧ exec (.pointerPoll p) s = .next { s with
        sent := s.sent ++ [.pointerAnswer p e.pointerQueue.head?]
        cpe := s.cpe.set p { e with pointerQueue := e.pointerQueue.tail, stall := stall e.keyQueue e.pointerQueue.tail } })
    ∧ (e.linkState = .stalled →
      (∃ t, exec (.keyboardPoll p) s = .next t ∧ (t.cpe.get p).linkState = .active
        ∧ t.sent.getLast? = some (.keyboardAnswer p
          (if e.keyQueue = [] then some (snapshotOf e.reported) else e.keyQueue.head?)))
      ∧ ∃ t, exec (.pointerPoll p) s = .next t ∧ (t.cpe.get p).linkState = .active
        ∧ t.sent.getLast? = some (.pointerAnswer p
          (if e.pointerQueue = [] ∧ s.fcu.owner = some p then e.lastReport.map (fun r => { r with wheel := 0 })
          else e.pointerQueue.head?)))
    ∧ (e.linkState = .settling → e.settle + 1 < (s.portEntry p).settlePolls →
      exec (.keyboardPoll p) s = .next { s with
        sent := s.sent ++ [.keyboardAnswer p (some { modifiers := [], keys := [] })]
        cpe := s.cpe.set p { e with settle := e.settle + 1 } }
      ∧ exec (.pointerPoll p) s = .next { s with
        sent := s.sent ++ [.pointerAnswer p none], cpe := s.cpe.set p { e with settle := e.settle + 1 } })
    ∧ (e.linkState = .settling → (s.portEntry p).settlePolls ≤ e.settle + 1 →
      (∃ t, exec (.keyboardPoll p) s = .next t ∧ (t.cpe.get p).linkState = .active
        ∧ t.sent[s.sent.length]? = some (.keyboardAnswer p (some { modifiers := [], keys := [] })))
      ∧ ∃ t, exec (.pointerPoll p) s = .next t ∧ (t.cpe.get p).linkState = .active
        ∧ t.sent[s.sent.length]? = some (.pointerAnswer p none))
    ∧ (e.linkState = .suspended ∨ e.linkState = .waking ∨ e.linkState = .recovering
        ∨ (e.linkState = .detached ∧ e.link = .up) →
      exec (.keyboardPoll p) s = .next { s with sent := s.sent ++ [.keyboardAnswer p none] }
      ∧ exec (.pointerPoll p) s = .next { s with sent := s.sent ++ [.pointerAnswer p none] })
    ∧ (e.linkState = .detached → e.link ≠ .up →
      exec (.keyboardPoll p) s = .next s ∧ exec (.pointerPoll p) s = .next s)

/-- A key press, a key release and an ignore-release at a port, by its state: the reported set, the ignore set, the snapshot
queued or put in the place of the newest of a full queue, the wake request, and the counters (R90, R91, R94, R98). -/
def Obligations.PortKeysTaken : Prop :=
  ∀ (p : Port) (k : Key) (s : State),
    let e := s.cpe.get p
    let press : Instr := .portKeyPress p k
    let release : Instr := .portKeyRelease p k
    let ignore : Instr := .ignoreRelease p k
    let stall : Timer :=
      if e.linkState = .active ∧ e.keyQueue = [] ∧ e.pointerQueue = [] then
        some (s.timebase + (s.portEntry p).stallTimeout * 1000)
      else e.stall
    let up := snapshotOf (keyInsert k e.reported)
    let down := snapshotOf (keyErase k e.reported)
    let takes : Prop :=
      e.linkState = .active ∨ e.linkState = .stalled ∨ e.linkState = .waking ∨ e.linkState = .recovering
    let wakes : Prop := (s.portEntry p).wakeOnKey = true ∧ e.wakeArmed = true
    (k ∈ e.ignored ∨ e.linkState = .detached →
      exec press s = .next { s with handoffs := withoutFirst press s.handoffs })
    ∧ (k ∉ e.ignored → takes → e.keyQueue.length < 8 → exec press s = .next { s with
      handoffs := withoutFirst press s.handoffs
      cpe := s.cpe.set p { e with
        reported := keyInsert k e.reported, keyQueue := e.keyQueue ++ [up], stall := stall } })
    ∧ (k ∉ e.ignored → takes → 8 ≤ e.keyQueue.length → exec press s = .next { s with
      handoffs := withoutFirst press s.handoffs ++ [{ src := .cpe p, cmd := .noticeRaise .inputCoalesced }]
      cpe := s.cpe.set p { e with
        reported := keyInsert k e.reported, keyQueue := e.keyQueue.dropLast ++ [up]
        counters := { e.counters with keysCoalesced := bump e.counters.keysCoalesced } } })
    ∧ (k ∉ e.ignored → e.linkState = .settling → exec press s = .next { s with
      handoffs := withoutFirst press s.handoffs
      cpe := s.cpe.set p { e with ignored := keyInsert k e.ignored } })
    ∧ (k ∉ e.ignored → e.linkState = .suspended → wakes → e.keyQueue.length < 8 → exec press s = .next { s with
      handoffs := withoutFirst press s.handoffs ++ [{ src := .cpe p, cmd := .wakeRequest p }]
      cpe := s.cpe.set p { e with reported := keyInsert k e.reported, keyQueue := e.keyQueue ++ [up] } })
    ∧ (k ∉ e.ignored → e.linkState = .suspended → wakes → 8 ≤ e.keyQueue.length → exec press s = .next { s with
      handoffs := withoutFirst press s.handoffs ++
        [{ src := .cpe p, cmd := .noticeRaise .inputCoalesced }, { src := .cpe p, cmd := .wakeRequest p }]
      cpe := s.cpe.set p { e with
        reported := keyInsert k e.reported, keyQueue := e.keyQueue.dropLast ++ [up]
        counters := { e.counters with keysCoalesced := bump e.counters.keysCoalesced } } })
    ∧ (k ∉ e.ignored → e.linkState = .suspended → ¬wakes → exec press s = .next { s with
      handoffs := withoutFirst press s.handoffs
      cpe := s.cpe.set p { e with
        ignored := keyInsert k e.ignored
        counters := { e.counters with keysDiscarded := bump e.counters.keysDiscarded } } })
    ∧ (e.linkState = .detached →
      exec release s = .next { s with handoffs := withoutFirst release s.handoffs }
      ∧ exec ignore s = .next { s with handoffs := withoutFirst ignore s.handoffs })
    ∧ (e.linkState ≠ .detached → k ∈ e.reported → e.keyQueue.length < 8 → exec release s = .next { s with
      handoffs := withoutFirst release s.handoffs
      cpe := s.cpe.set p { e with
        reported := keyErase k e.reported, keyQueue := e.keyQueue ++ [down], stall := stall } })
    ∧ (e.linkState ≠ .detached → k ∈ e.reported → 8 ≤ e.keyQueue.length → exec release s = .next { s with
      handoffs := withoutFirst release s.handoffs ++ [{ src := .cpe p, cmd := .noticeRaise .inputCoalesced }]
      cpe := s.cpe.set p { e with
        reported := keyErase k e.reported, keyQueue := e.keyQueue.dropLast ++ [down]
        counters := { e.counters with keysCoalesced := bump e.counters.keysCoalesced } } })
    ∧ (e.linkState ≠ .detached → k ∉ e.reported → exec release s = .next { s with
      handoffs := withoutFirst release s.handoffs
      cpe := s.cpe.set p { e with ignored := keyErase k e.ignored } })
    ∧ (e.linkState ≠ .detached → exec ignore s = .next { s with
      handoffs := withoutFirst ignore s.handoffs
      cpe := s.cpe.set p { e with ignored := keyErase k e.ignored } })

/-- A leave indication queues one empty snapshot and empties the reported set, in Suspended only when that set holds a key; a join
indication adds to the ignore set the carried keys that are not reported (R92). -/
def Obligations.LeaveAndJoinTaken : Prop :=
  ∀ (p : Port) (s : State),
    let e := s.cpe.get p
    let leave : Instr := .leaveIndication p
    (e.linkState = .active ∨ e.linkState = .stalled ∨ e.linkState = .waking ∨ e.linkState = .recovering
        ∨ (e.linkState = .suspended ∧ e.reported ≠ []) →
      (e.keyQueue.length < 8 → exec leave s = .next { s with
        handoffs := withoutFirst leave s.handoffs
        cpe := s.cpe.set p { e with
          reported := [], keyQueue := e.keyQueue ++ [{ modifiers := [], keys := [] }]
          stall :=
            if e.linkState = .active ∧ e.keyQueue = [] ∧ e.pointerQueue = [] then
              some (s.timebase + (s.portEntry p).stallTimeout * 1000)
            else e.stall } })
      ∧ (8 ≤ e.keyQueue.length → exec leave s = .next { s with
        handoffs := withoutFirst leave s.handoffs ++ [{ src := .cpe p, cmd := .noticeRaise .inputCoalesced }]
        cpe := s.cpe.set p { e with
          reported := [], keyQueue := e.keyQueue.dropLast ++ [{ modifiers := [], keys := [] }]
          counters := { e.counters with keysCoalesced := bump e.counters.keysCoalesced } } }))
    ∧ (e.linkState = .settling ∨ e.linkState = .detached ∨ (e.linkState = .suspended ∧ e.reported = []) →
      exec leave s = .next { s with handoffs := withoutFirst leave s.handoffs })
    ∧ ∀ keys : KeySet, exec (.joinIndication p keys) s = .next
      (if e.linkState = .detached then { s with handoffs := withoutFirst (.joinIndication p keys) s.handoffs }
      else { s with
        handoffs := withoutFirst (.joinIndication p keys) s.handoffs
        cpe := s.cpe.set p { e with ignored := keyUnion (keyMinus keys e.reported) e.ignored } })

/-- A pointer report at a port is recorded as its last, and queued by the merging rules where the port's state takes input
(R93, R95, R98). -/
def Obligations.PointerReportsMerge : Prop :=
  ∀ (p : Port) (r : PointerReport) (s : State),
    let e := s.cpe.get p
    let c : Instr := .portPointerReport p r
    (e.linkState = .settling ∨ e.linkState = .suspended ∨ e.linkState = .detached → exec c s = .next { s with
      handoffs := withoutFirst c s.handoffs, cpe := s.cpe.set p { e with lastReport := some r } })
    ∧ (e.linkState = .active ∨ e.linkState = .stalled ∨ e.linkState = .waking ∨ e.linkState = .recovering →
      (e.pointerQueue = [] → exec c s = .next { s with
        handoffs := withoutFirst c s.handoffs
        cpe := s.cpe.set p { e with
          lastReport := some r, pointerQueue := [r]
          stall :=
            if e.linkState = .active ∧ e.keyQueue = [] then
              some (s.timebase + (s.portEntry p).stallTimeout * 1000)
            else e.stall } })
      ∧ ∀ (old : List PointerReport) (newest : PointerReport), e.pointerQueue = old ++ [newest] →
        let merged : PointerReport := { r with wheel := max (-127) (min 127 (newest.wheel + r.wheel)) }
        (newest.buttons = r.buttons → exec c s = .next { s with
          handoffs := withoutFirst c s.handoffs
          cpe := s.cpe.set p { e with lastReport := some r, pointerQueue := old ++ [merged] } })
        ∧ (newest.buttons ≠ r.buttons → e.pointerQueue.length < 8 → exec c s = .next { s with
          handoffs := withoutFirst c s.handoffs
          cpe := s.cpe.set p { e with lastReport := some r, pointerQueue := old ++ [newest, r] } })
        ∧ (newest.buttons ≠ r.buttons → 8 ≤ e.pointerQueue.length → exec c s = .next { s with
          handoffs := withoutFirst c s.handoffs ++ [{ src := .cpe p, cmd := .noticeRaise .inputCoalesced }]
          cpe := s.cpe.set p { e with
            lastReport := some r, pointerQueue := old ++ [merged]
            counters := { e.counters with clicksCoalesced := bump e.counters.clicksCoalesced } } }))

/-- What moves a port besides its link: wake begins takes a Suspended port with wake armed to Waking and is refused otherwise;
wake failed takes Waking to Suspended with a flush; recovery ended takes Recovering to Active with its state put in front; the
stall timer takes the port to Stalled with a flush (R85, R86, R87, R98, R163). The model's own: an expiry brings the timebase to
its moment (log 5), and a stall hands PortChanged before PortStalled (log 43). -/
def Obligations.WakesAndStallsAtPort : Prop :=
  ∀ (p : Port) (s : State),
    let e := s.cpe.get p
    (e.linkState = .suspended → e.wakeArmed = true → exec (.wakeBegins p) s = .next { s with
      handoffs := withoutFirst (.wakeBegins p) s.handoffs ++ handedByMove p .suspended .waking
      cpe := s.cpe.set p { e with linkState := .waking } })
    ∧ (e.linkState ≠ .suspended ∨ e.wakeArmed = false → exec (.wakeBegins p) s = .next { s with
      handoffs := withoutFirst (.wakeBegins p) s.handoffs ++ [{ src := .cpe p, cmd := .wakeBeginsRefusal p }] })
    ∧ (e.linkState = .waking → exec (.wakeFailed p) s = .next { s with
      handoffs := withoutFirst (.wakeFailed p) s.handoffs ++ handedByMove p .waking .suspended
      cpe := s.cpe.set p { e with
        linkState := .suspended, keyQueue := [], pointerQueue := [], ignored := keyUnion e.reported e.ignored
        reported := [], stall := none } })
    ∧ (e.linkState ≠ .waking →
      exec (.wakeFailed p) s = .next { s with handoffs := withoutFirst (.wakeFailed p) s.handoffs })
    ∧ (e.linkState = .recovering → ∃ t, exec (.recoveryEnded p) s = .next t
      ∧ (t.cpe.get p).linkState = .active
      ∧ (t.cpe.get p).keyQueue = (if e.keyQueue = [] then [snapshotOf e.reported] else e.keyQueue)
      ∧ (t.cpe.get p).pointerQueue =
        (if e.pointerQueue = [] ∧ s.fcu.owner = some p then (e.lastReport.map (fun r => { r with wheel := 0 })).toList
        else e.pointerQueue)
      ∧ (t.cpe.get p).stall = some (s.timebase + (s.portEntry p).stallTimeout * 1000)
      ∧ t.handoffs = withoutFirst (.recoveryEnded p) s.handoffs ++ handedByMove p .recovering .active)
    ∧ (e.linkState ≠ .recovering →
      exec (.recoveryEnded p) s = .next { s with handoffs := withoutFirst (.recoveryEnded p) s.handoffs })
    ∧ (e.stall = none → exec (.stallTimerExpiry p) s = .next s)
    ∧ ∀ x : Nat, e.stall = some x → exec (.stallTimerExpiry p) s = .next { s with
      timebase := max s.timebase x
      handoffs := s.handoffs ++ handedByMove p e.linkState .stalled ++ [{ src := .cpe p, cmd := .noticeRaise .portStalled }]
      cpe := s.cpe.set p { e with
        linkState := .stalled, keyQueue := [], pointerQueue := [], ignored := keyUnion e.reported e.ignored
        reported := [], stall := none, counters := { e.counters with stalls := bump e.counters.stalls } } }

/-! ## Frame Monitors -/

/-- A frame start, by the source's state: the first one takes NoSignal to Acquiring; a period is weighed against the run in
Acquiring and Unstable, and the third agreeing one locks; in Locked it is compared with the locked period (R105, R107, R108, R109,
R111). The loss timer's expiry takes the source to NoSignal with everything it measured forgotten, and raises SourceLost for a source
that was Locked or Unstable (R110). The model's own: a loss timer that ran out before a frame start is taken first (log 6), an
expiry brings the timebase to its moment (log 5), a state change carries the state left (log 40), and a frame start is handed also to
the Dim Stages of screens that wait to switch onto the source (log 42). -/
def Obligations.FrameStartTaken : Prop :=
  ∀ (v : Source) (now : Nat) (s : State),
    let f := s.fmn.get v
    let at_ := max s.timebase now
    let onTime : Prop := ∀ x : Nat, f.loss = some x → at_ ≤ x
    let weigh (before : Option Nat) (count period : Nat) : Nat :=
      if period < 8000 ∨ 50000 < period then 0
      else
        match before with
        | some m => if 1 ≤ count ∧ period ≤ m + 64 ∧ m ≤ period + 64 then count + 1 else 1
        | none => 1
    let g : Fmn := { f with lastStart := some at_, currentLine := 0, loss := some (at_ + 100000) }
    (f.state = .noSignal → f.lastStart = none → onTime → exec (.frameStart v now) s = .next { s with
      timebase := at_
      fmn := s.fmn.set v { g with state := .acquiring, agreement := 0 }
      handoffs := s.handoffs ++ handedByState v .noSignal .acquiring })
    ∧ (∀ l : Nat, f.state = .acquiring ∨ f.state = .unstable → f.lastStart = some l → onTime →
      weigh f.measured f.agreement (at_ - l) < 3 → exec (.frameStart v now) s = .next { s with
        timebase := at_
        fmn := s.fmn.set v
          { g with measured := some (at_ - l), agreement := weigh f.measured f.agreement (at_ - l) } })
    ∧ (∀ l : Nat, f.state = .acquiring ∨ f.state = .unstable → f.lastStart = some l → onTime →
      3 ≤ weigh f.measured f.agreement (at_ - l) → exec (.frameStart v now) s = .next { s with
        timebase := at_
        fmn := s.fmn.set v { g with
          measured := some (at_ - l), state := .locked, agreement := 3, lockedPeriod := some (at_ - l)
          linesPerFrame := some (min (f.currentLine + 1) 4095) }
        handoffs := s.handoffs ++ [{ src := .fmn v, cmd := .noticeRaise .sourceLocked }] ++ handedByState v f.state .locked
          ++ handedByFrame s v })
    ∧ (∀ l q : Nat, f.state = .locked → f.lastStart = some l → f.lockedPeriod = some q → onTime →
      ((at_ - l) ≤ q + 64 ∧ q ≤ (at_ - l) + 64 → exec (.frameStart v now) s = .next { s with
        timebase := at_
        fmn := s.fmn.set v { g with measured := some (at_ - l) }
        handoffs := s.handoffs ++ handedByFrame s v })
      ∧ (¬((at_ - l) ≤ q + 64 ∧ q ≤ (at_ - l) + 64) → exec (.frameStart v now) s = .next { s with
        timebase := at_
        fmn := s.fmn.set v { g with
          measured := some (at_ - l), state := .unstable
          agreement := if 8000 ≤ at_ - l ∧ at_ - l ≤ 50000 then 1 else 0 }
        handoffs := s.handoffs ++ handedByState v .locked .unstable }))
    ∧ (∀ x : Nat, f.loss = some x → x < at_ → ∃ t, exec (.frameStart v now) s = .next t
      ∧ t.fmn = s.fmn.set v
        { Fmn.reset with state := .acquiring, lastStart := some at_, loss := some (at_ + 100000) })
    ∧ (f.loss = none → exec (.lossTimerExpiry v) s = .next s)
    ∧ ∀ x : Nat, f.loss = some x → exec (.lossTimerExpiry v) s = .next { s with
      timebase := max s.timebase x
      fmn := s.fmn.set v
        { state := .noSignal, lastStart := none, measured := none, agreement := 0, lockedPeriod := none
          linesPerFrame := none, currentLine := 0, loss := none }
      handoffs := s.handoffs
        ++ (if f.state = .locked ∨ f.state = .unstable then [{ src := .fmn v, cmd := .noticeRaise .sourceLost }] else [])
        ++ (if f.state = .noSignal then [] else handedByState v f.state .noSignal) }

/-- A line start counts in every state but NoSignal and holds at 4095; a Locked source hands the line on (R106, R111). -/
def Obligations.LinesCounted : Prop :=
  ∀ (v : Source) (s : State),
    let f := s.fmn.get v
    (f.state = .noSignal ∨ 4095 ≤ f.currentLine → exec (.lineStart v) s = .next s)
    ∧ (f.state ≠ .noSignal → f.currentLine < 4095 → exec (.lineStart v) s = .next { s with
      fmn := s.fmn.set v { f with currentLine := f.currentLine + 1 }
      handoffs := s.handoffs ++
        (if f.state = .locked then [{ src := .fmn v, cmd := .lineValue v (f.currentLine + 1) }] else []) })

/-! ## Crosspoint Controller -/

/-- A route request: it cancels a peek on its screen; it replaces and counts a pending; equal to the active source it is dropped with
RouteDone, and a drop is handed when a pending was removed; otherwise it makes a pending under a new number, which waits when it is
not ready or is for a line of a Locked source, and takes effect at once otherwise (R119, R120, R121, R123, R136). A replaced pending
of cause Layout leaves the layout in flight, which completes when it was the last (R130, R131). RouteDone and RouteForced are raised
in these cases and in no other (R134), and the share outputs that follow the screen switch with it (R153, R154). The model's own: they
do so within the one command (log 8). -/
def Obligations.RouteRequestTaken : Prop :=
  ∀ (sc : Screen) (target : Option Source) (s : State),
    let c : Instr := .route sc target
    let r := s.xpc.routes.get sc
    let number := (s.xpc.counts.get sc + 1) % 65536
    let line : Prop := s.showsLocked target = true ∧ (s.screenEntry sc).switchMode = .frame
    (∀ k : PeekRecord, s.xpc.peek = some k → ∃ t, exec c s = .next t
      ∧ t.xpc.peek = if k.screen = sc then none else some k)
    ∧ (∃ t, exec c s = .next t
      ∧ t.xpc.pendingReplaced = if r.pending = none then s.xpc.pendingReplaced else bump s.xpc.pendingReplaced)
    ∧ (∃ t, exec c s = .next t
      ∧ LayoutLeft (fun d => d = sc ∧ ∃ p : Pending, r.pending = some p ∧ p.cause = .layout) s t
      ∧ t.xpc.routes = s.xpc.routes.set sc (requestedRecord s sc target .route) ∧ t.xpc.hold = s.xpc.hold
      ∧ (target = r.active → t.xpc.counts = s.xpc.counts ∧ t.xpc.fadeWait = s.xpc.fadeWait
        ∧ (r.pending ≠ none → { src := .xpc, cmd := .drop sc } ∈ t.handoffs))
      ∧ (target ≠ r.active → t.xpc.counts = s.xpc.counts.set sc number ∧ t.xpc.fadeWait = s.xpc.fadeWait.set sc false
        ∧ { src := .xpc, cmd := .fadeRequest sc number } ∈ t.handoffs)
      ∧
        let made : Prop := target ≠ r.active ∧ s.xpc.hold = none ∧ (s.screenEntry sc).fade = false ∧ ¬line
        RouteNotices (target = r.active ∨ (made ∧ target = none)) (made ∧ target ≠ none) s t
        ∧ SharesFollow (fun d v => d = sc ∧ made ∧ v = target) s t)
    ∧ (target = r.active → r.pending = none → s.xpc.peek = none → exec c s = .next { s with
      handoffs := withoutFirst c s.handoffs ++ [{ src := .xpc, cmd := .noticeRaise .routeDone }] })
    ∧ (∀ p : Pending, target = r.active → r.pending = some p → s.xpc.peek = none → s.xpc.layout = none →
      exec c s = .next { s with
        xpc := { s.xpc with
          routes := s.xpc.routes.set sc { active := target, pending := none }
          pendingReplaced := bump s.xpc.pendingReplaced }
        handoffs := withoutFirst c s.handoffs ++
          [{ src := .xpc, cmd := .noticeRaise .routeDone }, { src := .xpc, cmd := .drop sc }] })
    ∧ (target ≠ r.active → r.pending = none → s.xpc.peek = none →
      s.xpc.hold ≠ none ∨ (s.screenEntry sc).fade = true ∨ line → exec c s = .next { s with
        xpc := { s.xpc with
          counts := s.xpc.counts.set sc number, fadeWait := s.xpc.fadeWait.set sc false
          routes := s.xpc.routes.set sc
            { active := r.active
              pending := some
                { target := target, line := (s.screenEntry sc).switchLine, cause := .route, quiet := false
                  number := number } } }
        handoffs := withoutFirst c s.handoffs ++ [{ src := .xpc, cmd := .fadeRequest sc number }] })
    ∧ (target ≠ r.active → s.xpc.hold = none → (s.screenEntry sc).fade = false → ¬line → ∃ t, exec c s = .next t
      ∧ t.xpc.routes = s.xpc.routes.set sc { active := target, pending := none }
      ∧ { src := .xpc, cmd := .switchNotice sc } ∈ t.handoffs
      ∧ { src := .xpc, cmd := .switchAtDimStage sc target } ∈ t.handoffs
      ∧ { src := .xpc, cmd := .switchAtWakeController sc target } ∈ t.handoffs
      ∧ t.handoffs.getLast? = some
        { src := .xpc, cmd := .noticeRaise (if target = none then .routeDone else .routeForced) })

/-- When a pending that waits takes effect: at the effective line handed by its source in Frame mode; when its source leaves Locked;
when the FadeWait report of its own number makes it ready for a switch that is made at once; at the end of route hold, by its expiry,
a release or a write; and at a write of its screen's switch fields that makes it ready, while fade turned on gives it a new number
(R117, R120, R121, R122, R125, R136). Each switch is handed on (R123), and the share outputs that follow the screen switch with it
(R153, R154); RouteDone is raised for one at a line or onto None, RouteForced for any other, and neither for a quiet one (R134); and
one of cause Layout leaves the layout in flight, which completes with its focus field handed and LayoutDone raised when it was the
last (R130, R131). A write of the route hold limit moves the end of a hold to the earlier moment (R125). The model's own: the shares
switch within the one command (log 8); an expiry brings the timebase to its moment (log 5); a line value is compared as handed,
whatever state its source is then in (log 34); and a state change carries the state left (log 40). -/
def Obligations.PendingTakesEffect : Prop :=
  (∀ (s : State),
    let ready (sc : Screen) : Prop :=
      s.xpc.hold = none ∧ ((s.screenEntry sc).fade = false ∨ s.xpc.fadeWait.get sc = true)
    let atOnce (sc : Screen) (p : Pending) : Prop :=
      ¬(s.showsLocked p.target = true ∧ (s.screenEntry sc).switchMode = .frame)
    let switched (p : Pending) : RouteRecord := { active := p.target, pending := none }
    (∀ (v : Source) (line : Nat), ∃ t, exec (.lineValue v line) s = .next t
      ∧ (∀ n : Nat, (s.fmn.get v).linesPerFrame = some n →
        PendingsSwitch (fun sc p => p.target = some v ∧ ready sc ∧ (s.screenEntry sc).switchMode = .frame
          ∧ line = if p.line < n then p.line else 0) (fun _ => .routeDone) s t)
      ∧ ∀ sc : Screen,
        (∀ p : Pending, (s.xpc.routes.get sc).pending = some p → p.target = some v → ready sc →
          (s.screenEntry sc).switchMode = .frame →
          (∃ n, (s.fmn.get v).linesPerFrame = some n ∧ line = if p.line < n then p.line else 0) →
          t.xpc.routes.get sc = switched p)
        ∧ (∀ p : Pending, (s.xpc.routes.get sc).pending = some p →
          p.target ≠ some v ∨ ¬ready sc ∨ (s.screenEntry sc).switchMode ≠ .frame
            ∨ (∃ n, (s.fmn.get v).linesPerFrame = some n ∧ line ≠ if p.line < n then p.line else 0) →
          t.xpc.routes.get sc = s.xpc.routes.get sc)
        ∧ ((s.xpc.routes.get sc).pending = none → t.xpc.routes.get sc = s.xpc.routes.get sc))
    ∧ (∀ (v : Source) (old new : SourceState), ∃ t, exec (.sourceStateChange v { old := old, new := new }) s = .next t
      ∧ PendingsSwitch (fun sc p => p.target = some v ∧ ready sc ∧ old = .locked ∧ new ≠ .locked) (fun _ => .routeForced) s t
      ∧ ∀ sc : Screen,
        (∀ p : Pending, (s.xpc.routes.get sc).pending = some p → p.target = some v → ready sc → old = .locked →
          new ≠ .locked → t.xpc.routes.get sc = switched p)
        ∧ (∀ p : Pending, (s.xpc.routes.get sc).pending = some p →
          p.target ≠ some v ∨ ¬ready sc ∨ old ≠ .locked ∨ new = .locked →
          t.xpc.routes.get sc = s.xpc.routes.get sc)
        ∧ ((s.xpc.routes.get sc).pending = none → t.xpc.routes.get sc = s.xpc.routes.get sc))
    ∧ (∀ (sc : Screen) (n : Nat),
      ((∀ p : Pending, (s.xpc.routes.get sc).pending = some p → p.number ≠ n) →
        exec (.fadeWaitReport sc n) s = .next { s with handoffs := withoutFirst (.fadeWaitReport sc n) s.handoffs })
      ∧ ∀ p : Pending, (s.xpc.routes.get sc).pending = some p → p.number = n →
        (s.xpc.hold = none → atOnce sc p →
          ∃ t, exec (.fadeWaitReport sc n) s = .next t ∧ t.xpc.routes.get sc = switched p
            ∧ PendingsSwitch (fun d _ => d = sc) testedKind s t)
        ∧ (s.xpc.hold ≠ none ∨ ¬atOnce sc p → exec (.fadeWaitReport sc n) s = .next { s with
          handoffs := withoutFirst (.fadeWaitReport sc n) s.handoffs
          xpc := { s.xpc with fadeWait := s.xpc.fadeWait.set sc true } }))
    ∧ (s.xpc.hold = none → exec .routeHoldTimerExpiry s = .next s)
    ∧ ∀ h : RouteHold, s.xpc.hold = some h → ∃ t, exec .routeHoldTimerExpiry s = .next t
      ∧ t.timebase = max s.timebase h.expiry ∧ t.xpc.hold = none
      ∧ PendingsSwitch (fun sc p => ((s.screenEntry sc).fade = false ∨ s.xpc.fadeWait.get sc = true) ∧ atOnce sc p)
        testedKind s t
      ∧ { src := .xpc, cmd := .noticeRaise .holdExpired } ∈ t.handoffs
      ∧ ∀ sc : Screen,
        (∀ p : Pending, (s.xpc.routes.get sc).pending = some p →
          ((s.screenEntry sc).fade = false ∨ s.xpc.fadeWait.get sc = true) → atOnce sc p →
          t.xpc.routes.get sc = switched p)
        ∧ (∀ p : Pending, (s.xpc.routes.get sc).pending = some p →
          ¬((s.screenEntry sc).fade = false ∨ s.xpc.fadeWait.get sc = true) ∨ ¬atOnce sc p →
          t.xpc.routes.get sc = s.xpc.routes.get sc))
  ∧ (∀ (q : Request) (w : RawScreen) (sc : Screen) (s : State), Served s q → q.arg2 = sc.val + 1 →
      ∀ e : ScreenEntry, checkScreen w = some e → screenConflict s.tables sc e = false →
      ∀ p : Pending, (s.xpc.routes.get sc).pending = some p →
      let old := s.screenEntry sc
      let number := (s.xpc.counts.get sc + 1) % 65536
      let tested : Prop := (old.fade = true ∧ e.fade = false) ∨ old.switchMode ≠ e.switchMode
      let ready : Prop := s.xpc.hold = none ∧ (e.fade = false ∨ s.xpc.fadeWait.get sc = true)
      let atOnce : Prop := ¬(s.showsLocked p.target = true ∧ e.switchMode = .frame)
      ∃ t, exec (.writeScreenEntry q w) s = .next t
        ∧ PendingsSwitch (fun d _ => d = sc ∧ (old.fade = true ∨ e.fade = false) ∧ tested ∧ ready ∧ atOnce) testedKind s t
        ∧ (old.fade = false → e.fade = true →
          t.xpc.routes.get sc = { s.xpc.routes.get sc with pending := some { p with number := number } }
          ∧ { src := .xpc, cmd := .fadeRequest sc number } ∈ t.handoffs)
        ∧ (old.fade = true ∨ e.fade = false →
          (tested → ready → atOnce → t.xpc.routes.get sc = { active := p.target, pending := none })
          ∧ (¬tested ∨ ¬ready ∨ ¬atOnce → t.xpc.routes = s.xpc.routes)))
  ∧ (∀ (q : Request) (s : State), s.managed q.port = true → s.mfe.inFlight.get q.port = none → s.xpc.hold ≠ none →
      ∃ t, exec (.releaseRoutes q) s = .next t ∧ PendingsSwitch (fun sc p =>
        ((s.screenEntry sc).fade = false ∨ s.xpc.fadeWait.get sc = true)
        ∧ ¬(s.showsLocked p.target = true ∧ (s.screenEntry sc).switchMode = .frame)) testedKind s t)
  ∧ ∀ (q : Request) (w : RawDesk) (s : State), Served s q → q.arg2 = 1 →
      ∀ e : DeskRecord × Bool, checkDesk w = some e →
      deskConflict s.tables e.1 = false → ∃ t, exec (.writeDeskRecord q w) s = .next t
        ∧ (s.xpc.hold = none ∨ e.1.routeHoldLimit = s.tables.desk.routeHoldLimit → t.xpc = s.xpc)
        ∧ ∀ h : RouteHold, s.xpc.hold = some h → e.1.routeHoldLimit ≠ s.tables.desk.routeHoldLimit →
          let expiry := min h.expiry (h.start + e.1.routeHoldLimit * 1000)
          (s.timebase < expiry → t.xpc = { s.xpc with hold := some { h with expiry := expiry } })
          ∧ (expiry ≤ s.timebase → t.xpc.hold = none ∧ { src := .xpc, cmd := .noticeRaise .holdExpired } ∈ t.handoffs
            ∧ PendingsSwitch (fun sc p =>
              ((s.screenEntry sc).fade = false ∨ s.xpc.fadeWait.get sc = true)
              ∧ ¬(s.showsLocked p.target = true ∧ (s.screenEntry sc).switchMode = .frame)) testedKind s t)

/-- A layout recall supersedes and counts a layout in flight, raising LayoutSuperseded; it leaves the screens whose field is Keep and
requests each other with cause Layout, by the screen's own switch line (R119, R129). It is in flight with the screens that hold a
pending of cause Layout; with none outstanding it completes at once, handing its focus field and raising LayoutDone (R129, R131). The
share outputs that follow a screen switched at once switch with it (R153, R154), within the one command (the model's own, log 8). -/
def Obligations.LayoutRecallTaken : Prop :=
  ∀ (l : LayoutNo) (s : State),
    let e := s.tables.layouts.get l
    ∃ t, exec (.layout l) s = .next t
      ∧ SharesFollow (Switched s t) s t
      ∧ t.xpc.layoutsSuperseded =
        (if s.xpc.layout = none then s.xpc.layoutsSuperseded else bump s.xpc.layoutsSuperseded)
      ∧ (s.xpc.layout ≠ none → { src := .xpc, cmd := .noticeRaise .layoutSuperseded } ∈ t.handoffs)
      ∧ (∀ sc : Screen, t.xpc.routes.get sc =
        match e.routes.get sc with
        | .keep => s.xpc.routes.get sc
        | .to x => requestedRecord s sc x .layout)
      ∧ (∀ record : LayoutInFlight, t.xpc.layout = some record →
        record.number = l ∧ record.focus = e.focus ∧ record.outstanding.any = true
        ∧ ∀ sc : Screen, record.outstanding.get sc = true ↔
          e.routes.get sc ≠ .keep ∧ ∃ p, (t.xpc.routes.get sc).pending = some p ∧ p.cause = .layout)
      ∧ (t.xpc.layout = none →
        { src := .xpc, cmd := .layoutCompletion e.focus false } ∈ t.handoffs
        ∧ { src := .xpc, cmd := .noticeRaise .layoutDone } ∈ t.handoffs
        ∧ ∀ (sc : Screen) (p : Pending), e.routes.get sc ≠ .keep → (t.xpc.routes.get sc).pending = some p →
          p.cause ≠ .layout)

/-- The peek record: a second tap of its entry reverts it; a Peek on its screen keeps its return source; a Peek elsewhere first
reverts it, and returns to what its own screen shows; a revert of its entry clears it, and any other revert is dropped. A Peek makes a
quiet request of cause Peek for its source on its screen, and a revert one for the return source. Neither raises RouteDone or
RouteForced (R119, R156, R157). The share outputs that follow a screen switched at once switch with it (R153, R154), within the one
command (the model's own, log 8). -/
def Obligations.PeekTaken : Prop :=
  ∀ (v : Source) (sc : Screen) (entry : EntryNo) (held : Bool) (s : State),
    (∃ t, exec (.peek v sc entry held) s = .next t
      ∧ SharesFollow (Switched s t) s t
      ∧ (∀ k : NoticeKind, k = .routeDone ∨ k = .routeForced → ∀ b : Block,
        { src := b, cmd := .noticeRaise k } ∈ t.handoffs →
        { src := b, cmd := .noticeRaise k } ∈ withoutFirst (.peek v sc entry held) s.handoffs)
      ∧ (s.xpc.peek = none →
        t.xpc.peek = some { screen := sc, back := s.active sc, entry := entry, held := held }
        ∧ t.xpc.routes.get sc = requestedRecord s sc (some v) .peek)
      ∧ ∀ k : PeekRecord, s.xpc.peek = some k →
        (held = false ∧ k.entry = entry → t.xpc.peek = none
          ∧ t.xpc.routes.get k.screen = requestedRecord s k.screen k.back .peek)
        ∧ (¬(held = false ∧ k.entry = entry) →
          t.xpc.peek = some
            { screen := sc, back := if k.screen = sc then k.back else s.active sc, entry := entry, held := held }
          ∧ t.xpc.routes.get sc = requestedRecord s sc (some v) .peek
          ∧ (k.screen ≠ sc → t.xpc.routes.get k.screen = requestedRecord s k.screen k.back .peek)))
    ∧ ((∀ k : PeekRecord, s.xpc.peek = some k → k.entry ≠ entry) →
      exec (.peekRevert entry) s = .next { s with handoffs := withoutFirst (.peekRevert entry) s.handoffs })
    ∧ ∀ k : PeekRecord, s.xpc.peek = some k → k.entry = entry → ∃ t, exec (.peekRevert entry) s = .next t
      ∧ SharesFollow (Switched s t) s t
      ∧ (∀ kind : NoticeKind, kind = .routeDone ∨ kind = .routeForced → ∀ b : Block,
        { src := b, cmd := .noticeRaise kind } ∈ t.handoffs →
        { src := b, cmd := .noticeRaise kind } ∈ withoutFirst (.peekRevert entry) s.handoffs)
      ∧ t.xpc.peek = none ∧ t.xpc.routes.get k.screen = requestedRecord s k.screen k.back .peek

/-! ## Dim Stages -/

/-- A step moves the level toward the target by the ramp rate or the remaining distance; in FadeOut it ends in FadeWait, reported with
the number in hand, when the level is 0, and in FadeIn it ends in Normal at the target. A frame start of another source than the
screen source is dropped; the substitute tick steps in the same way, ends of phases with it, and starts anew (R112, R139, R142, R143).
While the screen is On, a component of its active source is sent scaled to the level, and black for None and for a source in NoSignal
(R140, R149). The model's own: an expiry brings the timebase to its moment (log 5), and a picture is a function of the state (log 31). -/
def Obligations.DimSteps : Prop :=
  ∀ (sc : Screen) (s : State),
    let d := s.dms.get sc
    let rate := s.tables.desk.rampRate
    let level := if d.level ≤ d.target then d.level + min rate (d.target - d.level) else d.level - min rate (d.level - d.target)
    (∀ v : Source,
      (d.source ≠ some v →
        exec (.rampStep sc v) s = .next { s with handoffs := withoutFirst (.rampStep sc v) s.handoffs })
      ∧ (d.source = some v →
        (d.phase = .normal ∨ d.phase = .fadeWait ∨ (d.phase = .fadeOut ∧ level ≠ 0)
            ∨ (d.phase = .fadeIn ∧ level ≠ d.target) →
          exec (.rampStep sc v) s = .next { s with
            handoffs := withoutFirst (.rampStep sc v) s.handoffs, dms := s.dms.set sc { d with level := level } })
        ∧ (∀ n : Nat, d.phase = .fadeOut → level = 0 → d.inHand = some n →
          exec (.rampStep sc v) s = .next { s with
            handoffs := withoutFirst (.rampStep sc v) s.handoffs ++ [{ src := .dms sc, cmd := .fadeWaitReport sc n }]
            dms := s.dms.set sc { d with level := 0, target := 0, phase := .fadeWait } })
        ∧ (d.phase = .fadeIn → level = d.target → ∃ t, exec (.rampStep sc v) s = .next t
          ∧ (t.dms.get sc).level = level ∧ (t.dms.get sc).phase = .normal ∧ (t.dms.get sc).source = d.source)))
    ∧ (d.tick = none → exec (.substituteTickExpiry sc) s = .next s)
    ∧ (∀ x : Nat, d.tick = some x → ∃ t, exec (.substituteTickExpiry sc) s = .next t
      ∧ (t.dms.get sc).level = level ∧ (t.dms.get sc).tick = some (max s.timebase x + 16667)
      ∧ t.timebase = max s.timebase x)
    ∧ (∀ x : Nat, d.tick = some x →
      let now := max s.timebase x
      let tick : Option Nat := some (now + 16667)
      (d.phase = .normal ∨ d.phase = .fadeWait ∨ (d.phase = .fadeOut ∧ level ≠ 0)
          ∨ (d.phase = .fadeIn ∧ level ≠ d.target) →
        exec (.substituteTickExpiry sc) s = .next { s with
          timebase := now, dms := s.dms.set sc { d with level := level, tick := tick } })
      ∧ (∀ n : Nat, d.phase = .fadeOut → level = 0 → d.inHand = some n →
        exec (.substituteTickExpiry sc) s = .next { s with
          timebase := now, handoffs := s.handoffs ++ [{ src := .dms sc, cmd := .fadeWaitReport sc n }]
          dms := s.dms.set sc { d with level := 0, target := 0, phase := .fadeWait, tick := tick } })
      ∧ (d.phase = .fadeIn → level = d.target → exec (.substituteTickExpiry sc) s = .next { s with
          timebase := now
          dms := s.dms.set sc
            { d with level := level, target := ordinaryTarget s d.source, phase := .normal, tick := tick } }))
    ∧ ∀ pixel : Source → Nat,
      ((s.wkc.power.get sc).on = false → s.screenComponent sc pixel = none)
      ∧ ((s.wkc.power.get sc).on = true →
        (s.active sc = none → s.screenComponent sc pixel = some 0)
        ∧ ∀ v : Source, s.active sc = some v → s.screenComponent sc pixel =
          some (if (s.fmn.get v).state = .noSignal then 0 else pixel v * (d.level + 1) / 256))

/-- A request at a Dim Stage by its phase and the screen's fade field; a drop; and a switch (R141, R142, R143, R144). An accepted
write that turns fade off ends a fade in Normal (R145), and one of the dim floor or the unfocused level recomputes every target
(R138). The model's own: when the request in hand ends (log 23), and that a switch starts or stops the substitute tick by the new
source's monitor as it stands when the switch is taken (R112, log 53). -/
def Obligations.FadePhasesMove : Prop :=
  (∀ (sc : Screen) (n : Nat) (s : State),
    let d := s.dms.get sc
    let fade := (s.screenEntry sc).fade
    let c : Instr := .fadeRequest sc n
    let report : Handoff := { src := .dms sc, cmd := .fadeWaitReport sc n }
    ((d.phase = .normal ∨ d.phase = .fadeIn) → fade = true → d.level ≠ 0 → exec c s = .next { s with
      handoffs := withoutFirst c s.handoffs
      dms := s.dms.set sc { d with inHand := some n, number := n, phase := .fadeOut, target := 0 } })
    ∧ ((d.phase = .normal ∨ d.phase = .fadeIn) → fade = true → d.level = 0 → exec c s = .next { s with
      handoffs := withoutFirst c s.handoffs ++ [report]
      dms := s.dms.set sc { d with inHand := some n, number := n, phase := .fadeWait, target := 0 } })
    ∧ (d.phase = .fadeOut → fade = true → exec c s = .next { s with
      handoffs := withoutFirst c s.handoffs, dms := s.dms.set sc { d with inHand := some n, number := n } })
    ∧ (d.phase = .fadeWait → fade = true → exec c s = .next { s with
      handoffs := withoutFirst c s.handoffs ++ [report]
      dms := s.dms.set sc { d with inHand := some n, number := n } })
    ∧ ((d.phase = .normal ∨ d.phase = .fadeIn) → fade = false → exec c s = .next { s with
      handoffs := withoutFirst c s.handoffs, dms := s.dms.set sc { d with inHand := some n, number := n } })
    ∧ ((d.phase = .fadeOut ∨ d.phase = .fadeWait) → fade = false → ∃ t, exec c s = .next t
      ∧ (t.dms.get sc).phase = .normal ∧ (t.dms.get sc).level = d.level
      ∧ (t.dms.get sc).target = ordinaryTarget s d.source)
    ∧ ((d.phase = .fadeOut ∨ d.phase = .fadeWait) → exec (.drop sc) s = .next { s with
      handoffs := withoutFirst (.drop sc) s.handoffs
      dms := s.dms.set sc { d with inHand := none, phase := .fadeIn, target := ordinaryTarget s d.source } })
    ∧ ((d.phase = .normal ∨ d.phase = .fadeIn) →
      exec (.drop sc) s = .next { s with handoffs := withoutFirst (.drop sc) s.handoffs })
    ∧ ∀ source : Option Source, exec (.switchAtDimStage sc source) s = .next { s with
      handoffs := withoutFirst (.switchAtDimStage sc source) s.handoffs
      dms := s.dms.set sc { d with
        source := source, inHand := none, phase := if fade = true then .fadeIn else .normal
        target := ordinaryTarget s source
        tick :=
          if s.showsLocked source = true then none
          else if d.tick = none then some (s.timebase + 16667) else d.tick } })
  ∧ (∀ (q : Request) (w : RawScreen) (sc : Screen) (s : State), Served s q → q.arg2 = sc.val + 1 →
      ∀ e : ScreenEntry, checkScreen w = some e → screenConflict s.tables sc e = false →
      let d := s.dms.get sc
      ∃ t, exec (.writeScreenEntry q w) s = .next t
        ∧ ((s.screenEntry sc).fade = true → e.fade = false → d.phase ≠ .normal → t.dms = s.dms.set sc { d with
          phase := .normal, inHand := none, target := ordinaryTarget t d.source })
        ∧ ((s.screenEntry sc).fade = false ∨ e.fade = true ∨ d.phase = .normal → t.dms = s.dms))
  ∧ ∀ (q : Request) (w : RawDesk) (s : State), Served s q → q.arg2 = 1 →
      ∀ e : DeskRecord × Bool, checkDesk w = some e →
      deskConflict s.tables e.1 = false → ∃ t, exec (.writeDeskRecord q w) s = .next t
        ∧ (e.1.dimFloor = s.tables.desk.dimFloor ∧ e.1.unfocusedLevel = s.tables.desk.unfocusedLevel → t.dms = s.dms)
        ∧ (e.1.dimFloor ≠ s.tables.desk.dimFloor ∨ e.1.unfocusedLevel ≠ s.tables.desk.unfocusedLevel → ∀ sc : Screen,
          t.dms.get sc = { s.dms.get sc with
            target :=
              if (s.dms.get sc).phase = .fadeOut ∨ (s.dms.get sc).phase = .fadeWait then 0
              else ordinaryTarget t (s.dms.get sc).source })

/-- A target refresh sets the target by the first case that applies, and no target outside a fade is below the floor (R137); a
screen wake sets the level to 0, and in FadeOut enters FadeWait; a state change of the screen source starts or stops the tick, and
one of another source does nothing (R112, R138, R147). -/
def Obligations.DimStageRefreshed : Prop :=
  ∀ (sc : Screen) (s : State),
    let d := s.dms.get sc
    let desk := s.tables.desk
    let outside : Nat :=
      if s.fcu.dimOverride = true then 255
      else
        match s.ownerOf d.source with
        | none => desk.dimFloor
        | some o =>
          if s.fcu.focus = some o ∨ (s.fcu.broadcast = true ∧ desk.broadcastMask.get o = true) then 255
          else max desk.unfocusedLevel desk.dimFloor
    (exec (.targetRefresh sc) s = .next { s with
      handoffs := withoutFirst (.targetRefresh sc) s.handoffs
      dms := s.dms.set sc { d with target := if d.phase = .fadeOut ∨ d.phase = .fadeWait then 0 else outside } })
    ∧ (desk.dimFloor ≤ 255 → desk.dimFloor ≤ outside)
    ∧ (d.phase ≠ .fadeOut → exec (.screenWake sc) s = .next { s with
      handoffs := withoutFirst (.screenWake sc) s.handoffs
      dms := s.dms.set sc { d with level := 0, target := if d.phase = .fadeWait then 0 else outside } })
    ∧ (∀ n : Nat, d.phase = .fadeOut → d.inHand = some n → exec (.screenWake sc) s = .next { s with
      handoffs := withoutFirst (.screenWake sc) s.handoffs ++ [{ src := .dms sc, cmd := .fadeWaitReport sc n }]
      dms := s.dms.set sc { d with level := 0, target := 0, phase := .fadeWait } })
    ∧ ∀ (v : Source) (st : SourceState),
      let c : Instr := .stateChangeAtDimStage sc v st
      (d.source ≠ some v → exec c s = .next { s with handoffs := withoutFirst c s.handoffs })
      ∧ (d.source = some v → exec c s = .next { s with
        handoffs := withoutFirst c s.handoffs
        dms := s.dms.set sc { d with
          tick := if st = .locked then none else if d.tick = none then some (s.timebase + 16667) else d.tick } })

/-! ## Share Output Unit -/

/-- A Share action, a Share Off action and a switch of a followed screen: the mode, the wanted source, and blanked exactly when the
wanted source is private, with ShareBlanked raised for each output on which it goes from no to yes (R150, R151, R153, R154). An accepted
source-table write recomputes it on the outputs that want a source whose private field it changes (R154). An output's picture is that of
its wanted source undimmed, black for one in NoSignal, and blank when it wants none or a private one (R149, R150). The model's own: a
picture is a function of the state (log 31). -/
def Obligations.ShareActionsTaken : Prop :=
  (∀ (o : ShareOut) (sc : Screen) (s : State),
    let c : Instr := .share o sc
    let blanked := s.isPrivate (s.active sc)
    (follows (s.sou.get o) sc = true → exec c s = .next { s with handoffs := withoutFirst c s.handoffs })
    ∧ (follows (s.sou.get o) sc = false → exec c s = .next { s with
      sou := s.sou.set o { mode := .follow sc (s.active sc), blanked := blanked }
      handoffs := withoutFirst c s.handoffs ++
        (if blanked = true ∧ (s.sou.get o).blanked = false then [{ src := .sou, cmd := .noticeRaise .shareBlanked }]
        else []) }))
  ∧ (∀ (o : ShareOut) (s : State), exec (.shareOff o) s = .next { s with
    sou := s.sou.set o { mode := .off, blanked := false }
    handoffs := withoutFirst (.shareOff o) s.handoffs })
  ∧ (∀ (sc : Screen) (source : Option Source) (s : State),
    let c : Instr := .followedScreenSwitch sc source
    ∃ t, exec c s = .next t
      ∧ (∀ o : ShareOut, t.sou.get o =
        if follows (s.sou.get o) sc = true then { mode := .follow sc source, blanked := s.isPrivate source }
        else s.sou.get o)
      ∧ t.handoffs = withoutFirst c s.handoffs ++
        (allOutputs.filter (fun o =>
          follows (s.sou.get o) sc && s.isPrivate source && !(s.sou.get o).blanked)).map (fun _ =>
            { src := .sou, cmd := .noticeRaise .shareBlanked }))
  ∧ (∀ (q : Request) (w : RawSource) (v : Source) (s : State), Served s q → q.arg2 = v.val + 1 →
      ∀ e : SourceEntry, checkSource w = some e → ∃ t, exec (.writeSourceEntry q w) s = .next t
      ∧ (e.priv = (s.tables.sources.get v).priv → t.sou = s.sou)
      ∧ (e.priv ≠ (s.tables.sources.get v).priv → ∀ o : ShareOut,
        t.sou.get o = (if (s.sou.get o).wanted = some v then { s.sou.get o with blanked := e.priv } else s.sou.get o)
        ∧ ((s.sou.get o).wanted = some v → e.priv = true → (s.sou.get o).blanked = false →
          { src := .sou, cmd := .noticeRaise .shareBlanked } ∈ t.handoffs)))
  ∧ ∀ (o : ShareOut) (pixel : Source → Nat) (s : State),
    ((s.sou.get o).wanted = none → s.outputComponent o pixel = none)
    ∧ ∀ v : Source, (s.sou.get o).wanted = some v → s.outputComponent o pixel =
      if (s.tables.sources.get v).priv = true then none
      else some (if (s.fmn.get v).state = .noSignal then 0 else pixel v)

/-! ## Wake Controller -/

/-- A wake request by phase and link state; a refusal of wake begins; and a change of a port's link state at the wake record
(R162, R163, R165). -/
def Obligations.WakeRequestsTaken : Prop :=
  ∀ (p : Port) (s : State),
    let w := s.wkc.wakes.get p
    let e := s.cpe.get p
    let c : Instr := .wakeRequest p
    let only (r : WakeRecord) : Wkc := { s.wkc with wakes := s.wkc.wakes.set p r }
    (w.phase ≠ .idle ∨ (e.linkState ≠ .suspended ∧ e.linkState ≠ .detached) →
      exec c s = .next { s with handoffs := withoutFirst c s.handoffs })
    ∧ (w.phase = .idle → e.linkState = .suspended → e.wakeArmed = true → exec c s = .next { s with
      handoffs := withoutFirst c s.handoffs ++ [{ src := .wkc, cmd := .wakeBegins p }]
      wkc := only { w with phase := .asked } })
    ∧ (w.phase = .idle → (e.linkState = .suspended ∧ e.wakeArmed = false) ∨ e.linkState = .detached →
      exec c s = .next { s with
        handoffs := withoutFirst c s.handoffs ++ [{ src := .wkc, cmd := .noticeRaise .wakeRefused }] })
    ∧ (w.phase = .asked → exec (.wakeBeginsRefusal p) s = .next { s with
      handoffs := withoutFirst (.wakeBeginsRefusal p) s.handoffs ++ [{ src := .wkc, cmd := .noticeRaise .wakeRefused }]
      wkc := only { w with phase := .idle } })
    ∧ (w.phase ≠ .asked → exec (.wakeBeginsRefusal p) s = .next { s with
      handoffs := withoutFirst (.wakeBeginsRefusal p) s.handoffs })
    ∧ ∀ st : LinkState,
      let d : Instr := .linkStateChange p st
      (st = .waking → w.phase = .asked → exec d s = .next { s with
        handoffs := withoutFirst d s.handoffs
        wkc := only { w with
          phase := .signalling, retries := 0, signal := some (s.timebase + 10000)
          timer := some (s.timebase + s.tables.desk.wakeTimeout * 1000) } })
      ∧ (st = .waking → w.phase ≠ .asked → exec d s = .next { s with handoffs := withoutFirst d s.handoffs })
      ∧ (st = .recovering → exec d s = .next { s with
        handoffs := withoutFirst d s.handoffs
        wkc := only
          { phase := .recovering, retries := 0, timer := none, signal := none
            recovery := some (s.timebase + s.tables.desk.recoveryTime * 1000) } })
      ∧ (st ≠ .waking → st ≠ .recovering → exec d s = .next { s with
        handoffs := withoutFirst d s.handoffs
        wkc := only { phase := .idle, retries := 0, timer := none, signal := none, recovery := none } })

/-- The wake signal ends; the wake timer re-signals while retries are left and the port is still armed, and otherwise fails the
wake; the recovery timer ends the recovery. An expiry that finds the port in another state is dropped, and one of a stopped timer
is not taken (R163, R164, R166). The model's own: an expiry brings the timebase to its moment (log 5). -/
def Obligations.WakeTimersExpire : Prop :=
  ∀ (p : Port) (s : State),
    let w := s.wkc.wakes.get p
    let e := s.cpe.get p
    let only (r : WakeRecord) : Wkc := { s.wkc with wakes := s.wkc.wakes.set p r }
    let left : Prop := w.retries < s.tables.desk.wakeRetries ∧ e.wakeArmed = true
    (w.signal = none → exec (.wakeSignalEnd p) s = .next s)
    ∧ (w.timer = none → exec (.wakeTimerExpiry p) s = .next s)
    ∧ (w.recovery = none → exec (.recoveryTimerExpiry p) s = .next s)
    ∧ ∀ x : Nat,
      let at_ := max s.timebase x
      (w.signal = some x → exec (.wakeSignalEnd p) s = .next { s with timebase := at_, wkc := only { w with signal := none } })
      ∧ (w.timer = some x → e.linkState ≠ .waking → exec (.wakeTimerExpiry p) s = .next { s with
        timebase := at_, wkc := only { w with timer := none } })
      ∧ (w.timer = some x → e.linkState = .waking → left → exec (.wakeTimerExpiry p) s = .next { s with
        timebase := at_
        wkc := only { w with
          retries := w.retries + 1, signal := some (at_ + 10000)
          timer := some (at_ + s.tables.desk.wakeTimeout * 1000) } })
      ∧ (w.timer = some x → e.linkState = .waking → ¬left → exec (.wakeTimerExpiry p) s = .next { s with
        timebase := at_
        wkc := only { w with phase := .idle, timer := none, signal := none }
        handoffs := s.handoffs ++
          [{ src := .wkc, cmd := .noticeRaise .wakeFailed }, { src := .wkc, cmd := .wakeFailed p }] })
      ∧ (w.recovery = some x → exec (.recoveryTimerExpiry p) s = .next { s with
        timebase := at_
        wkc := only { w with recovery := none }
        handoffs := s.handoffs ++
          (if e.linkState = .recovering then [{ src := .wkc, cmd := .recoveryEnded p }] else []) })

/-- Screen power: a Sleeping screen becomes On, and its Dim Stage is handed a screen wake, at a switch onto a Locked source and
when its source locks, unless the desk is asleep; the no-signal timer runs while the screen is On and dark; its expiry puts the
screen to sleep (R167, R168). The model's own: an expiry brings the timebase to its moment (log 5); a state change concerns the screens
whose route record names the source when it is taken, also while a switch is on its way (log 46); and a switch's source is Locked or
dark as its monitor stands when the switch is taken (log 50). -/
def Obligations.ScreenPowerMoves : Prop :=
  ∀ (sc : Screen) (s : State),
    let r := s.wkc.power.get sc
    let delay := s.tables.desk.screenSleepDelay * 1000000
    let timer (on dark : Bool) : Timer :=
      if on = true ∧ dark = true then (if r.noSignal = none then some (s.timebase + delay) else r.noSignal) else none
    (∀ source : Option Source,
      let wakes : Bool := s.showsLocked source && !r.on && !s.wkc.deskAsleep
      exec (.switchAtWakeController sc source) s = .next { s with
        handoffs := withoutFirst (.switchAtWakeController sc source) s.handoffs
          ++ (if wakes = true then [{ src := .wkc, cmd := .screenWake sc }] else [])
        wkc := { s.wkc with
          power := s.wkc.power.set sc
            { on := r.on || wakes, noSignal := timer (r.on || wakes) (s.showsDark source) } } })
    ∧ (∀ (v : Source) (st : SourceState), ∃ t, exec (.stateChangeAtWakeController v st) s = .next t
      ∧ (s.active sc ≠ some v → t.wkc.power.get sc = r)
      ∧ (s.active sc = some v →
        let wakes : Bool := decide (st = .locked) && !r.on && !s.wkc.deskAsleep
        t.wkc.power.get sc = { on := r.on || wakes, noSignal := timer (r.on || wakes) (decide (st = .noSignal)) }
        ∧ (wakes = true → { src := .wkc, cmd := .screenWake sc } ∈ t.handoffs)))
    ∧ (r.noSignal = none → exec (.noSignalTimerExpiry sc) s = .next s)
    ∧ ∀ x : Nat, r.noSignal = some x → exec (.noSignalTimerExpiry sc) s = .next { s with
      timebase := max s.timebase x
      wkc := { s.wkc with power := s.wkc.power.set sc { on := false, noSignal := none } } }

/-- Desk Sleep sets the flag, puts every screen to sleep with its no-signal timer stopped, and raises DeskSleepChanged; taken again it
changes nothing. A desk-wake input asks for its key to be consumed, and when the flag is set it clears it, brings the screens of
Locked sources On, with a screen wake to the Dim Stage of each that was Sleeping, asks in port order the Suspended computers that own
what a screen shows to wake where the desk record says so, with WakeRefused for one whose wake armed is off, and raises
DeskSleepChanged (R162, R168, R169, R170, R171). The model's own: the Locked sources are those of the route records and monitors as
they stand when the input is taken (log 54). -/
def Obligations.DeskSleepAndWake : Prop :=
  ∀ s : State,
    (s.wkc.deskAsleep = true → exec .deskSleepAction s = .next { s with handoffs := withoutFirst .deskSleepAction s.handoffs })
    ∧ (s.wkc.deskAsleep = false → exec .deskSleepAction s = .next { s with
      handoffs := withoutFirst .deskSleepAction s.handoffs ++ [{ src := .wkc, cmd := .noticeRaise .deskSleepChanged }]
      wkc := { s.wkc with deskAsleep := true, power := Tab.fill { on := false, noSignal := none } } })
    ∧ ∀ k : Option Key,
      let c : Instr := .deskWakeInput k
      let consume : List Handoff :=
        match k with
        | some k => [{ src := .wkc, cmd := .consumeRequest k }]
        | none => []
      (s.wkc.deskAsleep = false → exec c s = .next { s with handoffs := withoutFirst c s.handoffs ++ consume })
      ∧ (s.wkc.deskAsleep = true →
        let woken := allScreens.filter (fun sc => !(s.wkc.power.get sc).on && s.showsLocked (s.active sc))
        let asked := allPorts.filter (fun p =>
          s.tables.desk.deskWakeWakes && decide ((s.wkc.wakes.get p).phase = .idle)
          && decide ((s.cpe.get p).linkState = .suspended) && allScreens.any (fun sc => decide (s.screenOwner sc = some p)))
        ∃ t, exec c s = .next t
        ∧ t.wkc.deskAsleep = false
        ∧ (∀ sc : Screen, t.wkc.power.get sc =
          if s.showsLocked (s.active sc) = true then { s.wkc.power.get sc with on := true } else s.wkc.power.get sc)
        ∧ (∀ p : Port, t.wkc.wakes.get p =
          if p ∈ asked ∧ (s.cpe.get p).wakeArmed = true then { s.wkc.wakes.get p with phase := .asked }
          else s.wkc.wakes.get p)
        ∧ t.handoffs = withoutFirst c s.handoffs ++ consume
          ++ woken.map (fun sc => { src := .wkc, cmd := .screenWake sc })
          ++ asked.map (fun p =>
            { src := .wkc, cmd := if (s.cpe.get p).wakeArmed = true then .wakeBegins p else .noticeRaise .wakeRefused })
          ++ [{ src := .wkc, cmd := .noticeRaise .deskSleepChanged }])

/-! ## Management Frame Engine -/

/-- A notice kind joins the set once; when the mask holds it a report of the whole set goes to every managed port that can be sent
it, and the pacing timer starts when pacing is on; at its expiry the set is sent again while it holds a kind the mask holds. Read
Notices empties the set and stops the timer; Set Notice Mask sets the mask (R179, R180, R181). An accepted desk-record write that turns
pacing off stops the timer (R180). The model's own: an expiry brings the timebase to its moment (log 5), and pacing starts whether or
not a port can be sent the report (log 37). -/
def Obligations.NoticesTaken : Prop :=
  (∀ (k : NoticeKind) (s : State),
    let c : Instr := .noticeRaise k
    let set := s.mfe.notices.set (noticeBit k) true
    let pacing : Timer :=
      if s.tables.desk.noticePacing = 0 then s.mfe.pacing else some (s.timebase + s.tables.desk.noticePacing * 1000)
    let reports (n : NoticeSet) : List Sent :=
      (allPorts.filter (fun p => s.managed p && decide ((s.portEntry p).enabled = true ∧ (s.cpe.get p).link = .up))).map
        (fun p => .frame p (noticeFrame n))
    (s.mfe.notices.get (noticeBit k) = true → exec c s = .next { s with handoffs := withoutFirst c s.handoffs })
    ∧ (s.mfe.notices.get (noticeBit k) = false → s.mfe.mask.get (noticeBit k) = false → exec c s = .next { s with
      handoffs := withoutFirst c s.handoffs, mfe := { s.mfe with notices := set } })
    ∧ (s.mfe.notices.get (noticeBit k) = false → s.mfe.mask.get (noticeBit k) = true → exec c s = .next { s with
      handoffs := withoutFirst c s.handoffs
      sent := s.sent ++ reports set
      mfe := { s.mfe with notices := set, pacing := pacing } })
    ∧ (s.mfe.pacing = none → exec .pacingTimerExpiry s = .next s)
    ∧ ∀ x : Nat, s.mfe.pacing = some x → exec .pacingTimerExpiry s = .next
      (if s.noticesWanted = true ∧ s.tables.desk.noticePacing ≠ 0 then { s with
        timebase := max s.timebase x
        sent := s.sent ++ reports s.mfe.notices
        mfe := { s.mfe with pacing := some (max s.timebase x + s.tables.desk.noticePacing * 1000) } }
      else { s with
        timebase := max s.timebase x
        sent := s.sent ++ (if s.noticesWanted = true then reports s.mfe.notices else [])
        mfe := { s.mfe with pacing := none } }))
  ∧ (∀ (q : Request) (mask : NoticeSet) (s : State), s.managed q.port = true → s.mfe.inFlight.get q.port = none →
    (s.portEntry q.port).enabled = true → (s.cpe.get q.port).link = .up →
    exec (.readNotices q) s = .next { s with
      sent := s.sent ++ [.frame q.port (replyFrame 12 q (payloadReply (num2 (flagsNat s.mfe.notices))))]
      mfe := { s.mfe with notices := Flags.none, pacing := none } }
    ∧ exec (.setNoticeMask q mask) s = .next { s with
      sent := s.sent ++ [.frame q.port (replyFrame 13 q (plainReply .ok))]
      mfe := { s.mfe with mask := mask } })
  ∧ ∀ (q : Request) (w : RawDesk) (s : State), Served s q → q.arg2 = 1 →
      ∀ e : DeskRecord × Bool, checkDesk w = some e →
    deskConflict s.tables e.1 = false → ∃ t, exec (.writeDeskRecord q w) s = .next t
      ∧ t.mfe = if e.1.noticePacing = 0 then { s.mfe with pacing := none } else s.mfe

/-- A request of a port that is not Active or has no management is ignored; one taken while its port has another in flight is answered
BUSY and does nothing; a frame that is no request is answered BADREQ in either case (R174, R175). -/
def Obligations.RequestsRefused : Prop :=
  ∀ (q : Request) (s : State) (desk : RawDesk) (port : RawPort) (source : RawSource) (screen : RawScreen) (layout : RawLayout)
    (hotkey : RawHotkey) (mask : NoticeSet) (kind : Nat),
    let requests : List (Instr × Nat) :=
      [(.writeDeskRecord q desk, 2), (.writePortEntry q port, 2), (.writeSourceEntry q source, 2),
       (.writeScreenEntry q screen, 2), (.writeLayoutEntry q layout, 2), (.writeHotkeyEntry q hotkey, 2),
       (.routeScreen q, 3), (.recallLayout q, 4), (.setFocus q, 5), (.setShareOff q, 6), (.setShareFollow q, 6),
       (.setShareFixed q, 6), (.wake q, 7), (.deskSleep q, 8), (.holdRoutes q, 9), (.releaseRoutes q, 10),
       (.readNotices q, 12), (.setNoticeMask q mask, 13), (.readCountersLatch q, 14), (.readCountersLatchAndClear q, 14),
       (.readCountersRepeat q, 14), (.saveSettings q, 15), (.deskRestart q, 16)]
      ++ (if 1 ≤ q.arg1 ∧ q.arg1 ≤ 6 then [(.readEntry q, 1)] else [])
      ++ (if 1 ≤ q.arg1 ∧ q.arg1 ≤ 7 then [(.readState q, 11)] else [])
    let answered (k : Nat) (st : Status) : State := { s with sent := s.sent ++ [.frame q.port (replyFrame k q (plainReply st))] }
    (s.managed q.port = false →
      exec (.badReq q kind) s = .next s ∧ ∀ x ∈ requests, exec x.1 s = .next s)
    ∧ (s.managed q.port = true → (s.portEntry q.port).enabled = true → (s.cpe.get q.port).link = .up →
      exec (.badReq q kind) s = .next (answered kind .badreq)
      ∧ (s.mfe.inFlight.get q.port ≠ none → ∀ x ∈ requests, exec x.1 s = .next (answered x.2 .busy)))

/-- Read Entry, Read State and the three Read Counters options, served: the entry or part as it stands, RANGE beyond them; latch
copies the 27 live counters, latch and clear then sets them to 0, repeat copies nothing, and another option is RANGE (R177, R178,
R182). The tables are numbered 1 to 6, each with its entries numbered from 1 and RANGE beyond its last (R177), and the counters are
those of C1 to C6 and then HotkeyMisses, PendingReplaced and LayoutsSuperseded (R182). An entry is its fields in order, and a section
its items in order, each in the bytes that its range needs, low byte first, with named values numbered from 0 in the order listed
(R178, R186, R187). The model's own: the byte of a numbered member and of an absent optional field (log 17, log 18), and the bytes of
the lamps and of the route hold (log 45). -/
def Obligations.ReadsServed : Prop :=
  (∀ (q : Request) (s : State), s.managed q.port = true → s.mfe.inFlight.get q.port = none →
    (s.portEntry q.port).enabled = true → (s.cpe.get q.port).link = .up →
    let reply (kind : Nat) (r : Reply) : List Sent := s.sent ++ [.frame q.port (replyFrame kind q r)]
    let range := plainReply .range
    let snapshot (t : Tab 27 Nat) : Reply := payloadReply (t.cells.flatMap num2)
    (∀ b : Option (List Byte), readTable s.tables q.arg1 q.arg2 = some b → exec (.readEntry q) s = .next { s with
      sent := reply 1 (match b with | some b => payloadReply b | none => range) })
    ∧ (∀ b : List Byte, sectionBytes s q.arg1 = some b → exec (.readState q) s = .next { s with
      sent := reply 11
        (if q.arg2 * 56 < b.length then payloadReply (padTo 56 (b.drop (q.arg2 * 56))) else range) })
    ∧ exec (.readCountersLatch q) s = .next { s with
      sent := reply 14 (snapshot s.counterTable), mfe := { s.mfe with snapshot := s.counterTable } }
    ∧ (∃ t, exec (.readCountersLatchAndClear q) s = .next t
      ∧ t.sent = reply 14 (snapshot s.counterTable) ∧ t.mfe = { s.mfe with snapshot := s.counterTable }
      ∧ (∀ p : Port, (t.cpe.get p).counters =
        { keysCoalesced := 0, clicksCoalesced := 0, keysDiscarded := 0, stalls := 0 })
      ∧ t.hkm = { s.hkm with misses := 0 } ∧ t.xpc = { s.xpc with pendingReplaced := 0, layoutsSuperseded := 0 })
    ∧ exec (.readCountersRepeat q) s = .next { s with
      sent := reply 14 (if q.arg1 = 2 then snapshot s.mfe.snapshot else range) })
  ∧ (∀ (t : Tables) (number : Nat),
    readTable t 1 1 = some (some (deskBytes t.desk))
    ∧ (∀ p : Port, readTable t 2 (p.val + 1) = some (some (portBytes (t.ports.get p))))
    ∧ (∀ v : Source, readTable t 3 (v.val + 1) = some (some (sourceBytes (t.sources.get v))))
    ∧ (∀ sc : Screen, readTable t 4 (sc.val + 1) = some (some (screenBytes (t.screens.get sc))))
    ∧ (∀ l : LayoutNo, readTable t 5 (l.val + 1) = some (some (layoutBytes (t.layouts.get l))))
    ∧ (∀ n : EntryNo, readTable t 6 (n.val + 1) = some (some (hotkeyBytes (t.hotkeys.get n))))
    ∧ (∀ x ∈ [(1, 1), (2, 6), (3, 16), (4, 8), (5, 16), (6, 32)], ¬(1 ≤ number ∧ number ≤ x.2) →
      readTable t x.1 number = some none)
    ∧ ∀ table : Nat, readTable t table number = none ↔ ¬(1 ≤ table ∧ table ≤ 6))
  ∧ (∀ s : State, s.counterTable.cells =
    allPorts.flatMap (fun p =>
      [(s.cpe.get p).counters.keysCoalesced, (s.cpe.get p).counters.clicksCoalesced, (s.cpe.get p).counters.keysDiscarded,
        (s.cpe.get p).counters.stalls])
    ++ [s.hkm.misses, s.xpc.pendingReplaced, s.xpc.layoutsSuperseded])
  ∧ (∀ s : State,
    let b (n : Nat) : Byte := BitVec.ofNat 8 n
    let w (n : Nat) : List Byte := [b n, b (n / 256)]
    let yes (x : Bool) : Byte := if x then 1 else 0
    let computer (o : Option Computer) : Byte := match o with | none => 0 | some c => b (c.val + 1)
    let source (o : Option Source) : Byte := match o with | none => 0 | some v => b (v.val + 1)
    let optional (o : Option Nat) : List Byte := match o with | none => [0] | some n => 1 :: w n
    let entry (e : SourceEntry) : List Byte := computer e.owner :: (w e.x0 ++ w e.y0 ++ w e.w ++ w e.h) ++ [yes e.priv]
    sectionBytes s 1 = some [yes s.cip.keyboardAttached, yes s.cip.pointerAttached]
    ∧ sectionBytes s 2 = some
      ([computer s.fcu.focus, computer s.fcu.owner, yes s.fcu.lock, yes s.fcu.broadcast, yes s.fcu.dimOverride]
      ++ (match s.fcu.slot with
        | none => [0]
        | some c => [1, computer c])
      ++ [b (focusCauseNum s.fcu.lastCause)] ++ w s.glu.pos.x ++ w s.glu.pos.y
      ++ [b (s.glu.screen.val + 1), source s.glu.source]
      ++ (match s.glu.pressure with
        | none => [0]
        | some r => [1, b (r.target.val + 1)] ++ w r.amount)
      ++ s.glu.homes.cells.flatMap (fun h =>
        match h with
        | none => [0]
        | some h => [1, b (h.screen.val + 1)] ++ w h.pos.x ++ w h.pos.y))
    ∧ sectionBytes s 3 = some (allPorts.flatMap (fun p =>
      [b (linkStateNum (s.cpe.get p).linkState), b (linkConditionNum (s.cpe.get p).link), yes (s.cpe.get p).wakeArmed,
        b (flagsNat (s.cpe.get p).lamps), b (wakePhaseNum (s.wkc.wakes.get p).phase), b (s.wkc.wakes.get p).retries]))
    ∧ sectionBytes s 4 = some (allSources.flatMap (fun v =>
      entry (s.tables.sources.get v) ++ [b (sourceStateNum (s.fmn.get v).state)]
      ++ (match (s.fmn.get v).measured with
        | none => [0]
        | some n => [1, b n, b (n / 256), b (n / 65536)])
      ++ [b (s.fmn.get v).agreement] ++ optional (s.fmn.get v).lockedPeriod ++ optional (s.fmn.get v).linesPerFrame
      ++ w (s.fmn.get v).currentLine))
    ∧ sectionBytes s 5 = some
      (allScreens.flatMap (fun sc =>
        source (s.active sc) ::
        (match (s.xpc.routes.get sc).pending with
        | none => [0]
        | some p => [1, source p.target] ++ w p.line ++ [b (routeCauseNum p.cause), yes p.quiet] ++ w p.number)
        ++ [b (s.dms.get sc).level, b (s.dms.get sc).target, b (fadePhaseNum (s.dms.get sc).phase),
          yes (!(s.wkc.power.get sc).on)])
      ++ [yes s.xpc.hold.isSome]
      ++ (match s.xpc.layout with
        | none => [0]
        | some l => [1, b (l.number.val + 1), b (flagsNat l.outstanding), b (focusFieldNum l.focus)])
      ++ (match s.xpc.peek with
        | none => [0]
        | some k => [1, b (k.screen.val + 1), source k.back, b (k.entry.val + 1), yes k.held])
      ++ [yes s.wkc.deskAsleep])
    ∧ sectionBytes s 6 = some (allOutputs.flatMap (fun o =>
      (match (s.sou.get o).mode with
      | .off => [0, 0, 0, 0]
      | .follow sc v => [1, 1, b (sc.val + 1), 0, 1, source v]
      | .fixed v => [2, 0, 1, b (v.val + 1), 0])
      ++ [yes (s.sou.get o).blanked, source (s.carried o)]))
    ∧ sectionBytes s 7 = some [yes s.mfe.save.isSome, b (saveResultNum s.mfe.lastSave), b (loadResultNum s.mfe.loadResult)]
    ∧ (∀ e : DeskRecord, deskBytes e =
      [b e.prefixKey, b e.tapCount] ++ w e.tapWindow ++ w e.sequenceTimeout ++ w e.holdThreshold ++ w e.glideGain
      ++ w e.crossingResistance ++ w e.pressureHold ++ [b (flagsNat e.broadcastMask)] ++ w e.routeHoldLimit
      ++ [b (e.startLayout.val + 1), b e.dimFloor, b e.unfocusedLevel, b e.rampRate, b e.screenSleepDelay]
      ++ w e.wakeTimeout ++ [b e.wakeRetries, b e.recoveryTime, yes e.deskWakeWakes] ++ w e.noticePacing)
    ∧ (∀ e : PortEntry, portBytes e =
      [yes e.enabled, yes e.managementAllowed, yes e.wakeOnGlide, yes e.wakeOnKey, b e.settlePolls] ++ w e.stallTimeout)
    ∧ (∀ e : SourceEntry, sourceBytes e = entry e)
    ∧ (∀ e : ScreenEntry, screenBytes e =
      yes e.placed :: (w e.x ++ w e.y ++ w e.w ++ w e.h ++ w e.switchLine)
      ++ [b (match e.switchMode with | .frame => 0 | .immediate => 1), yes e.fade])
    ∧ (∀ e : LayoutEntry, layoutBytes e =
      e.routes.cells.map (fun f => b (match f with | .keep => 0 | .to none => 1 | .to (some v) => v.val + 2))
      ++ [b (match e.focus with | .keep => 0 | .follow => 1 | .computer c => c.val + 2)])
    ∧ ∀ e : HotkeyEntry, hotkeyBytes e =
      [yes e.valid, b (match e.path with | .prefixed => 0 | .direct => 1), b e.key]
      ++ e.conditions.cells.map (fun c => b (match c with | .any => 0 | .held => 1 | .notHeld => 2))
      ++ [b (actionRaw e.tap).kind, b (actionRaw e.tap).arg1, b (actionRaw e.tap).arg2]
      ++ (match e.hold with
        | none => [0]
        | some a => [1, b (actionRaw a).kind, b (actionRaw a).arg1, b (actionRaw a).arg2]))
  ∧ [.detached, .settling, .active, .stalled, .suspended, .waking, .recovering].map linkStateNum = [0, 1, 2, 3, 4, 5, 6]
  ∧ [.down, .up, .asleep].map linkConditionNum = [0, 1, 2]
  ∧ [.noSignal, .acquiring, .locked, .unstable].map sourceStateNum = [0, 1, 2, 3]
  ∧ [.glide, .hotkey, .management, .layout, .route, .restart].map focusCauseNum = [0, 1, 2, 3, 4, 5]
  ∧ [.route, .layout, .peek, .management].map routeCauseNum = [0, 1, 2, 3]
  ∧ [.idle, .asked, .signalling, .recovering].map wakePhaseNum = [0, 1, 2, 3]
  ∧ [.normal, .fadeOut, .fadeWait, .fadeIn].map fadePhaseNum = [0, 1, 2, 3]
  ∧ [.none, .succeeded, .failed].map saveResultNum = [0, 1, 2] ∧ [.image, .factory].map loadResultNum = [0, 1]

/-- The six table writes of a port that is served. While a save is in flight every one is BUSY; a field out of its range is RANGE;
a port-table write that takes management from the requesting port is DENIED; a conflict is CONFLICT; each of these stores nothing.
A write that passes stores the entry and is answered OK, with the Clamped flag of its fields; a port-table write that disables the
requesting port leaves it no way to be sent the reply (R97, R177), and one that makes a port enter Active, or gives it management while
Active, first sends that port the notice report it is owed (R181). The requesting port keeps its management (R177). The ranges, the
clamps with their flag, and the conflict of the desk record, and the ranges and clamp of a port entry and the ranges of a source entry,
are those of their chapters (R15, R41, R80, R103, R126, R135, R160, R180). The model's own: which unnamed field values are RANGE
(log 19), and that management given while Active is management that was off before the write (log 38). -/
def Obligations.TableWritesTaken : Prop :=
  (∀ w : RawDesk,
    (checkDesk w = none ↔
      ¬(4 ≤ w.prefixKey ∧ w.prefixKey ≤ 221 ∧ 1 ≤ w.tapCount ∧ w.tapCount ≤ 3 ∧ 16 ≤ w.glideGain ∧ w.glideGain ≤ 4096
        ∧ w.crossingResistance ≤ 4095 ∧ w.broadcastMask ≤ 63 ∧ 1 ≤ w.startLayout ∧ w.startLayout ≤ 16 ∧ w.deskWakeWakes ≤ 1))
    ∧ ∀ (e : DeskRecord) (clamped : Bool), checkDesk w = some (e, clamped) →
      e.prefixKey = w.prefixKey ∧ e.tapCount = w.tapCount ∧ e.glideGain = w.glideGain
      ∧ e.crossingResistance = w.crossingResistance ∧ e.startLayout.val + 1 = w.startLayout
      ∧ (∀ p : Computer, e.broadcastMask.get p = w.broadcastMask.testBit p.val)
      ∧ (e.deskWakeWakes = true ↔ w.deskWakeWakes = 1)
      ∧ e.tapWindow = max 100 (min 1000 w.tapWindow) ∧ e.sequenceTimeout = max 500 (min 5000 w.sequenceTimeout)
      ∧ e.holdThreshold = max 200 (min 2000 w.holdThreshold) ∧ e.pressureHold = max 50 (min 2000 w.pressureHold)
      ∧ e.routeHoldLimit = max 100 (min 5000 w.routeHoldLimit) ∧ e.dimFloor = min 255 w.dimFloor
      ∧ e.unfocusedLevel = min 255 w.unfocusedLevel ∧ e.rampRate = max 1 (min 255 w.rampRate)
      ∧ e.screenSleepDelay = max 1 (min 60 w.screenSleepDelay) ∧ e.wakeTimeout = max 500 (min 10000 w.wakeTimeout)
      ∧ e.wakeRetries = min 3 w.wakeRetries ∧ e.recoveryTime = max 5 (min 200 w.recoveryTime)
      ∧ e.noticePacing = (if w.noticePacing = 0 then 0 else max 10 (min 2550 w.noticePacing))
      ∧ (clamped = true ↔ e.tapWindow ≠ w.tapWindow ∨ e.sequenceTimeout ≠ w.sequenceTimeout
        ∨ e.holdThreshold ≠ w.holdThreshold ∨ e.pressureHold ≠ w.pressureHold ∨ e.routeHoldLimit ≠ w.routeHoldLimit
        ∨ e.dimFloor ≠ w.dimFloor ∨ e.unfocusedLevel ≠ w.unfocusedLevel ∨ e.rampRate ≠ w.rampRate
        ∨ e.screenSleepDelay ≠ w.screenSleepDelay ∨ e.wakeTimeout ≠ w.wakeTimeout ∨ e.wakeRetries ≠ w.wakeRetries
        ∨ e.recoveryTime ≠ w.recoveryTime ∨ e.noticePacing ≠ w.noticePacing))
  ∧ (∀ w : RawPort,
    (checkPort w = none ↔
      ¬(w.enabled ≤ 1 ∧ w.managementAllowed ≤ 1 ∧ w.wakeOnGlide ≤ 1 ∧ w.wakeOnKey ≤ 1 ∧ w.settlePolls ≤ 15))
    ∧ ∀ (e : PortEntry) (clamped : Bool), checkPort w = some (e, clamped) →
      (e.enabled = true ↔ w.enabled = 1) ∧ (e.managementAllowed = true ↔ w.managementAllowed = 1)
      ∧ (e.wakeOnGlide = true ↔ w.wakeOnGlide = 1) ∧ (e.wakeOnKey = true ↔ w.wakeOnKey = 1)
      ∧ e.settlePolls = w.settlePolls ∧ e.stallTimeout = max 100 (min 5000 w.stallTimeout)
      ∧ (clamped = true ↔ e.stallTimeout ≠ w.stallTimeout))
  ∧ (∀ w : RawSource,
    (checkSource w = none ↔
      ¬(w.owner ≤ 6 ∧ w.x0 ≤ 32767 ∧ w.y0 ≤ 32767 ∧ 1 ≤ w.w ∧ w.w ≤ 32768 ∧ 1 ≤ w.h ∧ w.h ≤ 32768
        ∧ w.x0 + w.w ≤ 32768 ∧ w.y0 + w.h ≤ 32768 ∧ w.priv ≤ 1))
    ∧ ∀ e : SourceEntry, checkSource w = some e →
      (e.owner = none ↔ w.owner = 0) ∧ (∀ p : Computer, e.owner = some p ↔ w.owner = p.val + 1)
      ∧ e.x0 = w.x0 ∧ e.y0 = w.y0 ∧ e.w = w.w ∧ e.h = w.h ∧ (e.priv = true ↔ w.priv = 1))
  ∧ (∀ (t : Tables) (e : DeskRecord), deskConflict t e = true ↔
      ∃ n : EntryNo, (t.hotkeys.get n).valid = true ∧ (t.hotkeys.get n).key = e.prefixKey)
  ∧ ∀ (q : Request) (s : State), s.managed q.port = true → s.mfe.inFlight.get q.port = none →
    (s.portEntry q.port).enabled = true → (s.cpe.get q.port).link = .up →
    let refused (st : Status) : Result := .next { s with sent := s.sent ++ [.frame q.port (replyFrame 2 q (plainReply st))] }
    let free : Prop := s.mfe.save = none
    let accepted (clamped : Bool) : List Sent :=
      s.sent ++ [.frame q.port (replyFrame 2 q { status := .ok, clamped := clamped, saveFailed := false, payload := [] })]
    (∀ w : RawDesk,
      (¬free → exec (.writeDeskRecord q w) s = refused .busy)
      ∧ (free → q.arg2 ≠ 1 ∨ checkDesk w = none → exec (.writeDeskRecord q w) s = refused .range)
      ∧ ∀ e : DeskRecord × Bool, free → q.arg2 = 1 → checkDesk w = some e →
        (deskConflict s.tables e.1 = true → exec (.writeDeskRecord q w) s = refused .conflict)
        ∧ (deskConflict s.tables e.1 = false → ∃ t, exec (.writeDeskRecord q w) s = .next t
          ∧ t.tables = { s.tables with desk := e.1 } ∧ t.sent = accepted e.2))
    ∧ (∀ w : RawPort,
      (¬free → exec (.writePortEntry q w) s = refused .busy)
      ∧ (free → ¬(1 ≤ q.arg2 ∧ q.arg2 ≤ 6) ∨ checkPort w = none → exec (.writePortEntry q w) s = refused .range)
      ∧ ∀ (i : Port) (e : PortEntry × Bool), free → q.arg2 = i.val + 1 → checkPort w = some e →
        (i = q.port → e.1.managementAllowed = false → exec (.writePortEntry q w) s = refused .denied)
        ∧ (i ≠ q.port ∨ e.1.managementAllowed = true → ∃ t, exec (.writePortEntry q w) s = .next t
          ∧ t.tables = { s.tables with ports := s.tables.ports.set i e.1 }
          ∧ (t.portEntry q.port).managementAllowed = true
          ∧ t.sent = s.sent
            ++ (if ((s.cpe.get i).linkState ≠ .active
                  ∨ ((s.portEntry i).managementAllowed = false ∧ e.1.managementAllowed = true))
                ∧ t.managed i = true ∧ s.noticesWanted = true ∧ e.1.enabled = true ∧ (s.cpe.get i).link = .up then
              [.frame i (noticeFrame s.mfe.notices)] else [])
            ++ (if i = q.port ∧ e.1.enabled = false then []
              else [.frame q.port (replyFrame 2 q { status := .ok, clamped := e.2, saveFailed := false, payload := [] })])))
    ∧ (∀ w : RawSource,
      (¬free → exec (.writeSourceEntry q w) s = refused .busy)
      ∧ (free → ¬(1 ≤ q.arg2 ∧ q.arg2 ≤ 16) ∨ checkSource w = none → exec (.writeSourceEntry q w) s = refused .range)
      ∧ ∀ (i : Source) (e : SourceEntry), free → q.arg2 = i.val + 1 → checkSource w = some e →
        ∃ t, exec (.writeSourceEntry q w) s = .next t
          ∧ t.tables = { s.tables with sources := s.tables.sources.set i e } ∧ t.sent = accepted false)
    ∧ (∀ w : RawScreen,
      (¬free → exec (.writeScreenEntry q w) s = refused .busy)
      ∧ (free → ¬(1 ≤ q.arg2 ∧ q.arg2 ≤ 8) ∨ checkScreen w = none → exec (.writeScreenEntry q w) s = refused .range)
      ∧ ∀ (i : Screen) (e : ScreenEntry), free → q.arg2 = i.val + 1 → checkScreen w = some e →
        (screenConflict s.tables i e = true → exec (.writeScreenEntry q w) s = refused .conflict)
        ∧ (screenConflict s.tables i e = false → ∃ t, exec (.writeScreenEntry q w) s = .next t
          ∧ t.tables = { s.tables with screens := s.tables.screens.set i e } ∧ t.sent = accepted false))
    ∧ (∀ w : RawLayout,
      (¬free → exec (.writeLayoutEntry q w) s = refused .busy)
      ∧ (free → ¬(1 ≤ q.arg2 ∧ q.arg2 ≤ 16) ∨ checkLayout w = none → exec (.writeLayoutEntry q w) s = refused .range)
      ∧ ∀ (i : LayoutNo) (e : LayoutEntry), free → q.arg2 = i.val + 1 → checkLayout w = some e →
        exec (.writeLayoutEntry q w) s = .next { s with
          tables := { s.tables with layouts := s.tables.layouts.set i e }
          sent := accepted false })
    ∧ ∀ w : RawHotkey,
      (¬free → exec (.writeHotkeyEntry q w) s = refused .busy)
      ∧ (free → ¬(1 ≤ q.arg2 ∧ q.arg2 ≤ 32) ∨ checkHotkey w = none → exec (.writeHotkeyEntry q w) s = refused .range)
      ∧ ∀ (i : EntryNo) (e : HotkeyEntry), free → q.arg2 = i.val + 1 → checkHotkey w = some e →
        (hotkeyConflict s.tables i e = true → exec (.writeHotkeyEntry q w) s = refused .conflict)
        ∧ (hotkeyConflict s.tables i e = false → ∃ t, exec (.writeHotkeyEntry q w) s = .next t
          ∧ t.tables = { s.tables with hotkeys := s.tables.hotkeys.set i e } ∧ t.sent = accepted false)

/-- The requests that work elsewhere, served: each with its argument in range is answered OK and has its effect on its block, and with
an argument out of range is answered RANGE and has none (R69, R118, R125, R129, R151, R152, R169, R176). A Recall Layout works as a
Layout action just taken, and a Set Share of mode Follow for the screen followed already changes nothing (R151). A Route Screen leaves
the screen's record as a route request of cause Management does, for None and for a source, under route hold or not (R118, R119,
R121), and the share outputs that follow it switch with it (R153). A Set Focus applies the change whole with cause Management, with a
jump request for a computer, also when it has the keyboard focus already (R65, R69). The model's own: a Set Focus of none hands no
home-record request (log 36), the effect at the owning block is made within the one command (log 8), a share mode above 2 is RANGE
(log 20), and the third argument of a Set Share Off is not looked at (log 44). -/
def Obligations.RequestsServed : Prop :=
  ∀ (q : Request) (s : State), s.managed q.port = true → s.mfe.inFlight.get q.port = none →
    (s.portEntry q.port).enabled = true → (s.cpe.get q.port).link = .up →
    let reply (kind : Nat) (st : Status) : List Sent := s.sent ++ [.frame q.port (replyFrame kind q (plainReply st))]
    let range (kind : Nat) : Result := .next { s with sent := reply kind .range }
    (¬(1 ≤ q.arg1 ∧ q.arg1 ≤ 8) ∨ 16 < q.arg2 → exec (.routeScreen q) s = range 3)
    ∧ (∀ (sc : Screen) (target : Option Source), q.arg1 = sc.val + 1 → (target = none → q.arg2 = 0) →
      (∀ v : Source, target = some v → q.arg2 = v.val + 1) →
      ∃ t, exec (.routeScreen q) s = .next t ∧ t.sent = reply 3 .ok
        ∧ t.xpc.routes.get sc = requestedRecord s sc target .management
        ∧ (∀ d : Screen, d ≠ sc → t.xpc.routes.get d = s.xpc.routes.get d) ∧ t.xpc.hold = s.xpc.hold
        ∧ SharesFollow (Switched s t) s t)
    ∧ (¬(1 ≤ q.arg1 ∧ q.arg1 ≤ 16) → exec (.recallLayout q) s = range 4)
    ∧ (∀ l : LayoutNo, q.arg1 = l.val + 1 →
      ∃ u, exec (.layout l) { s with handoffs := { src := .hkm, cmd := .layout l } :: s.handoffs } = .next u
      ∧ exec (.recallLayout q) s = .next { u with sent := reply 4 .ok })
    ∧ (6 < q.arg1 → exec (.setFocus q) s = range 5)
    ∧ (∀ c : Option Computer, q.arg1 = (match c with | none => 0 | some c => c.val + 1) →
      (s.fcu.focus = c → exec (.setFocus q) s = .next { s with
        sent := reply 5 .ok
        handoffs := s.handoffs ++ c.toList.map (fun p => { src := .fcu, cmd := .jumpRequest p .management }) })
      ∧ (s.fcu.focus ≠ c → exec (.setFocus q) s = .next { s with
        sent := reply 5 .ok
        fcu := { s.fcu with slot := none, focus := c, lastCause := .management }
        handoffs := s.handoffs ++ handedByFocus s c .management c.isSome }))
    ∧ (¬(1 ≤ q.arg1 ∧ q.arg1 ≤ 2) → exec (.setShareOff q) s = range 6 ∧ exec (.setShareFollow q) s = range 6
      ∧ exec (.setShareFixed q) s = range 6)
    ∧ (¬(1 ≤ q.arg3 ∧ q.arg3 ≤ 8) → exec (.setShareFollow q) s = range 6)
    ∧ (q.arg2 ≠ 2 ∨ ¬(1 ≤ q.arg3 ∧ q.arg3 ≤ 16) → exec (.setShareFixed q) s = range 6)
    ∧ (∀ o : ShareOut, q.arg1 = o.val + 1 →
      exec (.setShareOff q) s = .next { s with
        sent := reply 6 .ok, sou := s.sou.set o { mode := .off, blanked := false } }
      ∧ (∀ sc : Screen, q.arg3 = sc.val + 1 → follows (s.sou.get o) sc = true →
        exec (.setShareFollow q) s = .next { s with sent := reply 6 .ok })
      ∧ (∀ sc : Screen, q.arg3 = sc.val + 1 → follows (s.sou.get o) sc = false → ∃ t, exec (.setShareFollow q) s = .next t
        ∧ t.sent = reply 6 .ok
        ∧ t.sou = s.sou.set o { mode := .follow sc (s.active sc), blanked := s.isPrivate (s.active sc) })
      ∧ ∀ v : Source, q.arg2 = 2 → q.arg3 = v.val + 1 → ∃ t, exec (.setShareFixed q) s = .next t
        ∧ t.sent = reply 6 .ok ∧ t.sou = s.sou.set o { mode := .fixed v, blanked := s.isPrivate (some v) })
    ∧ (¬(1 ≤ q.arg1 ∧ q.arg1 ≤ 6) → exec (.wake q) s = range 7)
    ∧ (∀ p : Port, q.arg1 = p.val + 1 → exec (.wake q) s = .next { s with
      sent := reply 7 .ok, handoffs := s.handoffs ++ [{ src := .mfe, cmd := .wakeRequest p }] })
    ∧ exec (.deskSleep q) s = .next
      (if s.wkc.deskAsleep = true then { s with sent := reply 8 .ok }
      else { s with
        sent := reply 8 .ok
        handoffs := s.handoffs ++ [{ src := .wkc, cmd := .noticeRaise .deskSleepChanged }]
        wkc := { s.wkc with deskAsleep := true, power := Tab.fill { on := false, noSignal := none } } })
    ∧ (s.xpc.hold = none → exec (.holdRoutes q) s = .next { s with
        sent := reply 9 .ok
        xpc := { s.xpc with
          hold := some { start := s.timebase, expiry := s.timebase + s.tables.desk.routeHoldLimit * 1000 } } }
      ∧ exec (.releaseRoutes q) s = .next { s with sent := reply 10 .ok })
    ∧ (s.xpc.hold ≠ none → exec (.holdRoutes q) s = .next { s with sent := reply 9 .ok }
      ∧ ∃ t, exec (.releaseRoutes q) s = .next t ∧ t.sent = reply 10 .ok ∧ t.xpc.hold = none
        ∧ ∀ (sc : Screen) (p : Pending), (s.xpc.routes.get sc).pending = some p →
          ((s.screenEntry sc).fade = false ∨ s.xpc.fadeWait.get sc = true) → s.showsLocked p.target = false →
          t.xpc.routes.get sc = { active := p.target, pending := none })

/-- A Save Settings is BUSY during a save, and otherwise clears the valid marker and stays in flight until the save ends: by success
with the image of the tables and the marker valid, by a failure of its first step with the memory as it was, or by a later failure
with no valid marker (R184). A Desk Restart taken during a save is BUSY and does nothing (R183). The model's own: the marker reads
clear from the start of the save (log 22). -/
def Obligations.SavesTaken : Prop :=
  (∀ (q : Request) (s : State), s.managed q.port = true → s.mfe.inFlight.get q.port = none →
    (s.mfe.save ≠ none → (s.portEntry q.port).enabled = true → (s.cpe.get q.port).link = .up →
      exec (.saveSettings q) s = .next { s with sent := s.sent ++ [.frame q.port (replyFrame 15 q (plainReply .busy))] }
      ∧ exec (.deskRestart q) s = .next { s with sent := s.sent ++ [.frame q.port (replyFrame 16 q (plainReply .busy))] })
    ∧ (s.mfe.save = none → exec (.saveSettings q) s = .next { s with
      memory := { s.memory with valid := false }
      mfe := { s.mfe with
        save := some { port := q.port, prior := s.memory }
        inFlight := s.mfe.inFlight.set q.port (some { kind := 15, request := q }) } }))
  ∧ ∀ (outcome : SaveOutcome) (s : State),
    (s.mfe.save = none → exec (.saveEnd outcome) s = .next s)
    ∧ ∀ (v : SaveInFlight) (q : Request), s.mfe.save = some v →
      s.mfe.inFlight.get v.port = some { kind := 15, request := q } → q.port = v.port →
      (s.portEntry v.port).enabled = true → (s.cpe.get v.port).link = .up →
      ∃ t, exec (.saveEnd outcome) s = .next t
        ∧ t.mfe = { s.mfe with
          save := none, inFlight := s.mfe.inFlight.set v.port none
          lastSave := if outcome = .success then .succeeded else .failed }
        ∧ t.sent = s.sent ++ [.frame v.port (replyFrame 15 q
          { status := .ok, clamped := false, saveFailed := decide (outcome ≠ .success), payload := [] })]
        ∧ t.handoffs = s.handoffs ++ [{ src := .mfe, cmd := .noticeRaise .saveEnded }]
        ∧ (outcome = .success → t.memory = { valid := true, image := s.tables })
        ∧ (outcome = .failedAtClear → t.memory = v.prior)
        ∧ (outcome ≠ .success → outcome ≠ .failedAtClear → t.memory.valid = false)

/-- The entries of the six tables survive their bytes: what a Read Entry carries for an entry within its ranges is accepted by a Write
Entry of the same bytes, and stores the same entry, with no field clamped (R177, R186, R187). The ranges and conflicts of a screen
entry (R39, R117), the fields of a layout entry (R127), and the fields, actions and conflicts of a hotkey entry (R16, R17, R31) are
those of their chapters. A reply and a notice report are 64 bytes, each byte as R186 lays it out, and the 64 bytes that arrive from a
computer are the command that their kind and arguments name, with the fields of a written entry at their places (R186, R187). The
model's own: the byte of an absent optional field and of a numbered member (log 17, log 18), a presence byte or switch that is neither
0 nor 1 is RANGE (log 19), a share mode above 2 (log 20), a request that names no table or section is BADREQ (log 21), and the bytes
that a request gives as 0 are not looked at (log 44). -/
def Obligations.EntriesSurviveTheirBytes : Prop :=
  (∀ (w : RawDesk) (e : DeskRecord) (b : Bool), checkDesk w = some (e, b) → checkDesk (readRawDesk (deskBytes e)) = some (e, false))
  ∧ (∀ (w : RawPort) (e : PortEntry) (b : Bool), checkPort w = some (e, b) →
    checkPort (readRawPort (portBytes e)) = some (e, false))
  ∧ (∀ (w : RawSource) (e : SourceEntry), checkSource w = some e → checkSource (readRawSource (sourceBytes e)) = some e)
  ∧ (∀ (w : RawScreen) (e : ScreenEntry), checkScreen w = some e → checkScreen (readRawScreen (screenBytes e)) = some e)
  ∧ (∀ (w : RawLayout) (e : LayoutEntry), checkLayout w = some e → checkLayout (readRawLayout (layoutBytes e)) = some e)
  ∧ (∀ (w : RawHotkey) (e : HotkeyEntry), checkHotkey w = some e → checkHotkey (readRawHotkey (hotkeyBytes e)) = some e)
  ∧ (∀ (p : Port) (b : List Byte), (frameCommand p b).wf = true)
  ∧ (∀ w : RawScreen,
    (checkScreen w = none ↔
      ¬(w.placed ≤ 1 ∧ 64 ≤ w.w ∧ w.w ≤ 65535 ∧ 64 ≤ w.h ∧ w.h ≤ 65535 ∧ w.x + w.w ≤ 65536 ∧ w.y + w.h ≤ 65536
        ∧ w.switchLine ≤ 4095 ∧ w.switchMode ≤ 1 ∧ w.fade ≤ 1))
    ∧ ∀ e : ScreenEntry, checkScreen w = some e →
      (e.placed = true ↔ w.placed = 1) ∧ e.x = w.x ∧ e.y = w.y ∧ e.w = w.w ∧ e.h = w.h ∧ e.switchLine = w.switchLine
      ∧ (e.switchMode = .frame ↔ w.switchMode = 0) ∧ (e.fade = true ↔ w.fade = 1))
  ∧ (∀ (t : Tables) (sc : Screen) (e : ScreenEntry), screenConflict t sc e = true ↔
      (e.placed = true ∧ ∃ d : Screen, d ≠ sc ∧ (t.screens.get d).placed = true
        ∧ e.x < (t.screens.get d).x + (t.screens.get d).w ∧ (t.screens.get d).x < e.x + e.w
        ∧ e.y < (t.screens.get d).y + (t.screens.get d).h ∧ (t.screens.get d).y < e.y + e.h)
      ∨ (e.placed = false ∧ ∀ d : Screen, d ≠ sc → (t.screens.get d).placed = false))
  ∧ (∀ w : RawLayout,
    (checkLayout w = none ↔ ¬((∀ sc : Screen, w.routes.get sc ≤ 17) ∧ w.focus ≤ 7))
    ∧ ∀ e : LayoutEntry, checkLayout w = some e →
      (∀ sc : Screen, (e.routes.get sc = .keep ↔ w.routes.get sc = 0) ∧ (e.routes.get sc = .to none ↔ w.routes.get sc = 1)
        ∧ ∀ v : Source, e.routes.get sc = .to (some v) ↔ w.routes.get sc = v.val + 2)
      ∧ (e.focus = .keep ↔ w.focus = 0) ∧ (e.focus = .follow ↔ w.focus = 1)
      ∧ ∀ c : Computer, e.focus = .computer c ↔ w.focus = c.val + 2)
  ∧ (∀ (r : RawAction) (a : Action), checkAction r = some a ↔
      match a with
      | .focus c => r = ⟨0, c.val + 1, 0⟩
      | .focusNext => r = ⟨1, 0, 0⟩
      | .focusPrevious => r = ⟨2, 0, 0⟩
      | .layout l => r = ⟨3, l.val + 1, 0⟩
      | .route sc v => r = ⟨4, (sc.map (·.val + 1)).getD 0, (v.map (·.val + 1)).getD 0⟩
      | .share o sc => r = ⟨5, o.val + 1, (sc.map (·.val + 1)).getD 0⟩
      | .shareOff o => r = ⟨6, o.val + 1, 0⟩
      | .peek v sc => r = ⟨7, v.val + 1, (sc.map (·.val + 1)).getD 0⟩
      | .wake c => r = ⟨8, (c.map (·.val + 1)).getD 0, 0⟩
      | .wakeAll => r = ⟨9, 0, 0⟩
      | .lock => r = ⟨10, 0, 0⟩
      | .broadcast => r = ⟨11, 0, 0⟩
      | .dimOverride => r = ⟨12, 0, 0⟩
      | .deskSleep => r = ⟨13, 0, 0⟩)
  ∧ (∀ a : Action, holdAllowed a = true ↔
      (∃ c : Computer, a = .focus c) ∨ (∃ (v : Source) (sc : Option Screen), a = .peek v sc) ∨ a = .dimOverride)
  ∧ (∀ w : RawHotkey,
    (checkHotkey w = none ↔
      ¬(w.valid ≤ 1 ∧ w.path ≤ 1 ∧ 4 ≤ w.key ∧ w.key ≤ 221 ∧ (∀ i : Fin 4, w.conditions.get i ≤ 2)
        ∧ checkAction w.tap ≠ none
        ∧ (w.holdPresent = 0 ∨ (w.holdPresent = 1 ∧ ∃ a : Action, checkAction w.hold = some a ∧ holdAllowed a = true))))
    ∧ ∀ e : HotkeyEntry, checkHotkey w = some e →
      (e.valid = true ↔ w.valid = 1) ∧ (e.path = .prefixed ↔ w.path = 0) ∧ e.key = w.key
      ∧ (∀ i : Fin 4, (e.conditions.get i = .any ↔ w.conditions.get i = 0) ∧ (e.conditions.get i = .held ↔ w.conditions.get i = 1))
      ∧ checkAction w.tap = some e.tap ∧ (w.holdPresent = 0 → e.hold = none)
      ∧ (w.holdPresent = 1 → e.hold = checkAction w.hold))
  ∧ (∀ a b : HotkeyEntry, entriesConflict a b = true ↔
      a.valid = true ∧ b.valid = true ∧ a.path = b.path ∧ a.key = b.key
      ∧ ∀ i : Fin 4, ¬(a.conditions.get i = .held ∧ b.conditions.get i = .notHeld)
        ∧ ¬(a.conditions.get i = .notHeld ∧ b.conditions.get i = .held))
  ∧ (∀ (t : Tables) (n : EntryNo) (e : HotkeyEntry), hotkeyConflict t n e = true ↔
      e.valid = true ∧ (e.key = t.desk.prefixKey ∨ ∃ m : EntryNo, m ≠ n ∧ entriesConflict e (t.hotkeys.get m) = true))
  ∧ (∀ (kind : Nat) (q : Request) (r : Reply),
    let f := replyFrame kind q r
    f.length = 64 ∧ byteAt f 0 = 2 ∧ byteAt f 1 = kind % 256 ∧ byteAt f 2 = q.tag % 256 ∧ byteAt f 3 = statusNum r.status
    ∧ byteAt f 4 = (if r.clamped = true then 1 else 0) + (if r.saveFailed = true then 2 else 0)
    ∧ byteAt f 5 = q.arg1 % 256 ∧ byteAt f 6 = q.arg2 % 256 ∧ byteAt f 7 = q.arg3 % 256
    ∧ ∀ i : Fin 56, byteAt f (8 + i.val) = byteAt r.payload i.val)
  ∧ [Status.ok, .busy, .range, .conflict, .denied, .badreq].map statusNum = [0, 1, 2, 3, 4, 5]
  ∧ (∀ n : NoticeSet,
    let f := noticeFrame n
    f.length = 64 ∧ byteAt f 0 = 3 ∧ (∀ i : Nat, 1 ≤ i → i ≤ 7 → byteAt f i = 0) ∧ (∀ i : Nat, 10 ≤ i → byteAt f i = 0)
    ∧ (∀ k : Fin 16, (byteAt f 8 + 256 * byteAt f 9).testBit k.val = n.get k)
    ∧ natFlags 16 (wordAt (num2 (flagsNat n)) 0) = n)
  ∧ [NoticeKind.focusChanged, .routeDone, .routeForced, .layoutDone, .layoutSuperseded, .holdExpired, .sourceLocked, .sourceLost,
      .portChanged, .portStalled, .wakeFailed, .wakeRefused, .shareBlanked, .inputCoalesced, .deskSleepChanged,
      .saveEnded].map (fun k => (noticeBit k).val) = List.range 16
  ∧ ∀ (p : Port) (b : List Byte),
    let q : Request := { port := p, tag := byteAt b 2, arg1 := byteAt b 5, arg2 := byteAt b 6, arg3 := byteAt b 7 }
    let bad : Instr := .badReq q (byteAt b 1)
    let word (i : Nat) : Nat := byteAt b i + 256 * byteAt b (i + 1)
    let named (k : Nat) : Prop := byteAt b 0 = 1 ∧ byteAt b 1 = k
    (byteAt b 0 ≠ 1 ∨ byteAt b 1 = 0 ∨ 16 < byteAt b 1 → frameCommand p b = bad)
    ∧ (named 1 → frameCommand p b = if 1 ≤ q.arg1 ∧ q.arg1 ≤ 6 then .readEntry q else bad)
    ∧ (named 2 →
      (q.arg1 = 0 ∨ 6 < q.arg1 → frameCommand p b = bad)
      ∧ (q.arg1 = 1 → frameCommand p b = .writeDeskRecord q
        { prefixKey := byteAt b 8, tapCount := byteAt b 9, tapWindow := word 10, sequenceTimeout := word 12
          holdThreshold := word 14, glideGain := word 16, crossingResistance := word 18, pressureHold := word 20
          broadcastMask := byteAt b 22, routeHoldLimit := word 23, startLayout := byteAt b 25, dimFloor := byteAt b 26
          unfocusedLevel := byteAt b 27, rampRate := byteAt b 28, screenSleepDelay := byteAt b 29, wakeTimeout := word 30
          wakeRetries := byteAt b 32, recoveryTime := byteAt b 33, deskWakeWakes := byteAt b 34, noticePacing := word 35 })
      ∧ (q.arg1 = 2 → frameCommand p b = .writePortEntry q
        { enabled := byteAt b 8, managementAllowed := byteAt b 9, wakeOnGlide := byteAt b 10, wakeOnKey := byteAt b 11
          settlePolls := byteAt b 12, stallTimeout := word 13 })
      ∧ (q.arg1 = 3 → frameCommand p b = .writeSourceEntry q
        { owner := byteAt b 8, x0 := word 9, y0 := word 11, w := word 13, h := word 15, priv := byteAt b 17 })
      ∧ (q.arg1 = 4 → frameCommand p b = .writeScreenEntry q
        { placed := byteAt b 8, x := word 9, y := word 11, w := word 13, h := word 15, switchLine := word 17
          switchMode := byteAt b 19, fade := byteAt b 20 })
      ∧ (q.arg1 = 5 → frameCommand p b = .writeLayoutEntry q
        { routes := Tab.make (fun sc : Screen => byteAt b (8 + sc.val)), focus := byteAt b 16 })
      ∧ (q.arg1 = 6 → frameCommand p b = .writeHotkeyEntry q
        { valid := byteAt b 8, path := byteAt b 9, key := byteAt b 10
          conditions := Tab.make (fun i : Fin 4 => byteAt b (11 + i.val))
          tap := ⟨byteAt b 15, byteAt b 16, byteAt b 17⟩, holdPresent := byteAt b 18
          hold := ⟨byteAt b 19, byteAt b 20, byteAt b 21⟩ }))
    ∧ (named 3 → frameCommand p b = .routeScreen q) ∧ (named 4 → frameCommand p b = .recallLayout q)
    ∧ (named 5 → frameCommand p b = .setFocus q)
    ∧ (named 6 → frameCommand p b =
      if q.arg2 = 0 then .setShareOff q else if q.arg2 = 1 then .setShareFollow q else .setShareFixed q)
    ∧ (named 7 → frameCommand p b = .wake q) ∧ (named 8 → frameCommand p b = .deskSleep q)
    ∧ (named 9 → frameCommand p b = .holdRoutes q) ∧ (named 10 → frameCommand p b = .releaseRoutes q)
    ∧ (named 11 → frameCommand p b = if 1 ≤ q.arg1 ∧ q.arg1 ≤ 7 then .readState q else bad)
    ∧ (named 12 → frameCommand p b = .readNotices q)
    ∧ (named 13 → frameCommand p b = .setNoticeMask q (Tab.make (fun k : Fin 16 => (word 8).testBit k.val)))
    ∧ (named 14 → frameCommand p b =
      if q.arg1 = 0 then .readCountersLatch q
      else if q.arg1 = 1 then .readCountersLatchAndClear q else .readCountersRepeat q)
    ∧ (named 15 → frameCommand p b = .saveSettings q) ∧ (named 16 → frameCommand p b = .deskRestart q)

/-! ## What every step keeps -/

/-- Neither queue of a port ever holds more than 8 entries (R95). -/
def Obligations.QueuesStayBounded : Prop :=
  ∀ s t : State, QueuesBounded s → step s = .next t → QueuesBounded t

/-- The matcher's timers, buffer, tap counter and holding entry fit its state after every step (section 2.3, R20), and no step makes
two hotkey entries conflict or gives a valid entry the prefix key (R15, R16, R17). -/
def Obligations.MatcherStaysSound : Prop :=
  (∀ s t : State, MatcherSound s → step s = .next t → MatcherSound t)
  ∧ ∀ s t : State, HotkeysSound s → step s = .next t → HotkeysSound t

/-- Placed screens never overlap, one screen is always placed, and the cursor lies on the cursor screen, which is placed (R39,
R42). -/
def Obligations.DeskStaysSound : Prop :=
  ∀ s t : State, DeskSound s → step s = .next t → DeskSound t

/-- A pending's target is never the active source (R116); the end recorded for route hold is within the limit (R125); and an output is
blanked exactly when its wanted source is private (R150), after every step; and a source that an output carries is not private (R154).
The model's own: the part lets no microsecond pass by itself once the end of route hold is reached (log 2); an expiry or a frame start
taken may carry the timebase past it (log 5, log 6). -/
def Obligations.RoutingStaysSound : Prop :=
  (∀ s t : State, PendingsMove s → step s = .next t → PendingsMove t)
  ∧ (∀ s t : State, HoldBounded s → step s = .next t → HoldBounded t)
  ∧ (∀ (s : State) (h : RouteHold), s.xpc.hold = some h → moves s = [] → s.timebase < h.expiry)
  ∧ (∀ s t : State, BlankedExact s → step s = .next t → BlankedExact t)
  ∧ ∀ (s : State) (o : ShareOut) (v : Source), s.carried o = some v → (s.tables.sources.get v).priv = false

/-- Each monitor holds what its source state asks for (section 6.2), the wake signal is driven only in phase Signalling (R163), a
no-signal timer runs only on a screen that is On (R167), and no dim target outside a fade is below the floor (R137), after every
step. -/
def Obligations.ClocksStaySound : Prop :=
  (∀ s t : State, MonitorsSound s → step s = .next t → MonitorsSound t)
  ∧ (∀ s t : State, WakesSound s → step s = .next t → WakesSound t)
  ∧ (∀ s t : State, PowerSound s → step s = .next t → PowerSound t)
  ∧ ∀ s t : State, TargetsLit s → step s = .next t → TargetsLit t

/-- Every invariant above holds in the state right after reset. The cursor and the dim targets before the load ends are the model's
(log 12). -/
def Obligations.ResetIsSound : Prop :=
  QueuesBounded State.reset ∧ MatcherSound State.reset ∧ HotkeysSound State.reset ∧ DeskSound State.reset
  ∧ PendingsMove State.reset ∧ HoldBounded State.reset ∧ BlankedExact State.reset ∧ MonitorsSound State.reset
  ∧ WakesSound State.reset ∧ PowerSound State.reset ∧ TargetsLit State.reset

end Statements
end

