-- ==== Sys2Proof/Laws/Basic.lean ====
section
/-!
SUPPORT. The small laws of the fixed-length table, of sets carried as flags, of sets of keys, of a fold over a list, and of the
hand-offs.
-/

namespace Sys2Proof

/-! ## Tables -/

theorem Tab.ext_get {n : Nat} {α : Type} {t u : Tab n α} (h : ∀ i, t.get i = u.get i) : t = u := by
  obtain ⟨a, ha⟩ := t
  obtain ⟨b, hb⟩ := u
  have hab : a = b := by
    apply List.ext_getElem (by rw [ha, hb])
    intro i h1 _
    exact h ⟨i, by rw [← ha]; exact h1⟩
  subst hab
  rfl

@[simp] theorem Tab.get_set_self {n : Nat} {α : Type} (t : Tab n α) (i : Fin n) (a : α) : (t.set i a).get i = a := by
  simp [Tab.get, Tab.set]

@[simp] theorem Tab.get_set_other {n : Nat} {α : Type} (t : Tab n α) {i j : Fin n} (h : j ≠ i) (a : α) :
    (t.set i a).get j = t.get j := by
  have hv : ¬ i.val = j.val := fun e => h (Fin.ext e.symm)
  simp [Tab.get, Tab.set, hv]

theorem Tab.get_set {n : Nat} {α : Type} (t : Tab n α) (i j : Fin n) (a : α) :
    (t.set i a).get j = if j = i then a else t.get j := by
  by_cases h : j = i
  · subst h
    simp
  · simp [h]

@[simp] theorem Tab.get_upd_self {n : Nat} {α : Type} (t : Tab n α) (i : Fin n) (f : α → α) :
    (t.upd i f).get i = f (t.get i) := by simp [Tab.upd]

@[simp] theorem Tab.get_upd_other {n : Nat} {α : Type} (t : Tab n α) {i j : Fin n} (h : j ≠ i) (f : α → α) :
    (t.upd i f).get j = t.get j := by simp [Tab.upd, h]

theorem Tab.get_upd {n : Nat} {α : Type} (t : Tab n α) (i j : Fin n) (f : α → α) :
    (t.upd i f).get j = if j = i then f (t.get i) else t.get j := by simp [Tab.upd, Tab.get_set]

@[simp] theorem Tab.get_fill {n : Nat} {α : Type} (a : α) (i : Fin n) : (Tab.fill a : Tab n α).get i = a := by
  simp [Tab.get, Tab.fill]

@[simp] theorem Tab.get_map {n : Nat} {α β : Type} (f : α → β) (t : Tab n α) (i : Fin n) :
    (t.map f).get i = f (t.get i) := by
  simp [Tab.get, Tab.map]

@[simp] theorem Tab.get_zip {n : Nat} {α β γ : Type} (f : α → β → γ) (t : Tab n α) (u : Tab n β) (i : Fin n) :
    (Tab.zip f t u).get i = f (t.get i) (u.get i) := by
  simp [Tab.get, Tab.zip]

@[simp] theorem Tab.get_make {n : Nat} {α : Type} (f : Fin n → α) (i : Fin n) : (Tab.make f).get i = f i := by
  simp [Tab.get, Tab.make]

@[simp] theorem Tab.set_set {n : Nat} {α : Type} (t : Tab n α) (i : Fin n) (a b : α) : (t.set i a).set i b = t.set i b := by
  apply Tab.ext_get; intro j; simp only [Tab.get_set]; split <;> rfl

@[simp] theorem Tab.set_get_self {n : Nat} {α : Type} (t : Tab n α) (i : Fin n) : t.set i (t.get i) = t := by
  apply Tab.ext_get; intro j; rw [Tab.get_set]; split
  · next h => rw [h]
  · rfl

/-- Two updates of one cell are one update. -/
theorem Tab.upd_upd {n : Nat} {α : Type} (t : Tab n α) (i : Fin n) (f g : α → α) :
    (t.upd i f).upd i g = t.upd i (fun a => g (f a)) := by
  apply Tab.ext_get
  intro j
  by_cases h : j = i
  · subst h
    simp
  · simp [h]

/-! ## Sets carried as flags -/

@[simp] theorem Flags.get_none {n : Nat} (i : Fin n) : (Flags.none : Flags n).get i = false := Tab.get_fill _ i

@[simp] theorem Flags.get_all {n : Nat} (i : Fin n) : (Flags.all : Flags n).get i = true := Tab.get_fill _ i

@[simp] theorem Flags.get_union {n : Nat} (f g : Flags n) (i : Fin n) :
    (Flags.union f g).get i = (f.get i || g.get i) := Tab.get_zip _ f g i

@[simp] theorem Flags.get_minus {n : Nat} (f g : Flags n) (i : Fin n) :
    (Flags.minus f g).get i = (f.get i && !g.get i) := Tab.get_zip _ f g i

@[simp] theorem Flags.get_inter {n : Nat} (f g : Flags n) (i : Fin n) :
    (Flags.inter f g).get i = (f.get i && g.get i) := Tab.get_zip _ f g i

/-- A set has a member exactly when some flag is on. -/
theorem Flags.any_iff {n : Nat} (f : Flags n) : f.any = true ↔ ∃ i, f.get i = true := by
  obtain ⟨cells, size⟩ := f
  subst size
  constructor
  · intro h
    obtain ⟨b, hb, hid⟩ := List.any_eq_true.mp h
    obtain ⟨i, hi, rfl⟩ := List.getElem_of_mem hb
    exact ⟨⟨i, hi⟩, hid⟩
  · rintro ⟨i, hi⟩
    exact List.any_eq_true.mpr ⟨_, List.getElem_mem _, hi⟩

end Sys2Proof

namespace Sys2Proof.Machine

@[simp] theorem get_flagOn {n : Nat} (i j : Fin n) (f : Flags n) : (flagOn i f).get j = (decide (j = i) || f.get j) := by
  by_cases h : j = i
  · subst h
    simp [flagOn]
  · simp [flagOn, h]

@[simp] theorem get_flagOff {n : Nat} (i j : Fin n) (f : Flags n) :
    (flagOff i f).get j = (!decide (j = i) && f.get j) := by
  by_cases h : j = i
  · subst h
    simp [flagOff]
  · simp [flagOff, h]

/-! ## Sets of keys -/

@[simp] theorem mem_keyInsert (k x : Key) (s : KeySet) : x ∈ keyInsert k s ↔ x = k ∨ x ∈ s := by
  induction s with
  | nil => simp [keyInsert]
  | cons a as ih =>
    unfold keyInsert
    split
    · simp
    · split
      · simp_all
      · rw [List.mem_cons, ih, List.mem_cons]
        tauto

@[simp] theorem mem_keyErase (k x : Key) (s : KeySet) : x ∈ keyErase k s ↔ x ∈ s ∧ x ≠ k := by simp [keyErase]

@[simp] theorem mem_keyMinus (a b : KeySet) (x : Key) : x ∈ keyMinus a b ↔ x ∈ a ∧ x ∉ b := by simp [keyMinus]

@[simp] theorem mem_keyUnion (a b : KeySet) (x : Key) : x ∈ keyUnion a b ↔ x ∈ a ∨ x ∈ b := by
  unfold keyUnion
  induction a generalizing b with
  | nil => simp
  | cons k ks ih =>
    rw [List.foldl_cons, ih, mem_keyInsert, List.mem_cons]
    tauto

/-! ## Folds -/

/-- What every step of a fold keeps, the fold keeps. -/
theorem foldl_invariant {α β : Type} (P : β → Prop) (f : β → α → β) (step : ∀ b a, P b → P (f b a)) (l : List α) (b : β)
    (h : P b) : P (l.foldl f b) := by
  induction l generalizing b with
  | nil => exact h
  | cons a as ih => exact ih (f b a) (step b a h)

/-! ## Hand-offs and time -/

/-- Taking a command that is not a waiting hand-off changes nothing. -/
theorem withoutFirst_of_notMem (c : Instr) (l : List Handoff) (h : ∀ x ∈ l, x.cmd ≠ c) : withoutFirst c l = l := by
  induction l with
  | nil => rfl
  | cons a as ih =>
    unfold withoutFirst
    rw [if_neg (h a List.mem_cons_self), ih (fun x hx => h x (List.mem_cons_of_mem a hx))]

/-- Taking the command of the hand-off in front removes that hand-off. -/
theorem withoutFirst_cons (h : Handoff) (l : List Handoff) : withoutFirst h.cmd (h :: l) = l := by
  unfold withoutFirst
  rw [if_pos rfl]

/-- An expiry whose timer is stopped changes nothing. -/
theorem onExpiry_stopped (f : State → State) (s : State) : s.onExpiry none f = s := rfl

/-- An expiry whose timer runs is taken at or after it. -/
theorem onExpiry_running (e : Nat) (f : State → State) (s : State) : s.onExpiry (some e) f = f (s.reach e) := rfl

end Sys2Proof.Machine
end

