-- ==== Sys2Proof/Laws/State.lean ====
section
/-! SUPPORT. One lemma for each field of State under each named update: what the update leaves, and what it makes. -/

namespace Sys2Proof.Machine

/-! ## modCip -/

@[simp] theorem modCip_pending (f : Cip → Cip) (s : State) : (s.modCip f).pending = s.pending := rfl
@[simp] theorem modCip_handoffs (f : Cip → Cip) (s : State) : (s.modCip f).handoffs = s.handoffs := rfl
@[simp] theorem modCip_choices (f : Cip → Cip) (s : State) : (s.modCip f).choices = s.choices := rfl
@[simp] theorem modCip_timebase (f : Cip → Cip) (s : State) : (s.modCip f).timebase = s.timebase := rfl
@[simp] theorem modCip_sent (f : Cip → Cip) (s : State) : (s.modCip f).sent = s.sent := rfl
@[simp] theorem modCip_loading (f : Cip → Cip) (s : State) : (s.modCip f).loading = s.loading := rfl
@[simp] theorem modCip_memory (f : Cip → Cip) (s : State) : (s.modCip f).memory = s.memory := rfl
@[simp] theorem modCip_tables (f : Cip → Cip) (s : State) : (s.modCip f).tables = s.tables := rfl
@[simp] theorem modCip_cip (f : Cip → Cip) (s : State) : (s.modCip f).cip = f s.cip := rfl
@[simp] theorem modCip_hkm (f : Cip → Cip) (s : State) : (s.modCip f).hkm = s.hkm := rfl
@[simp] theorem modCip_glu (f : Cip → Cip) (s : State) : (s.modCip f).glu = s.glu := rfl
@[simp] theorem modCip_fcu (f : Cip → Cip) (s : State) : (s.modCip f).fcu = s.fcu := rfl
@[simp] theorem modCip_cpe (f : Cip → Cip) (s : State) : (s.modCip f).cpe = s.cpe := rfl
@[simp] theorem modCip_fmn (f : Cip → Cip) (s : State) : (s.modCip f).fmn = s.fmn := rfl
@[simp] theorem modCip_xpc (f : Cip → Cip) (s : State) : (s.modCip f).xpc = s.xpc := rfl
@[simp] theorem modCip_dms (f : Cip → Cip) (s : State) : (s.modCip f).dms = s.dms := rfl
@[simp] theorem modCip_sou (f : Cip → Cip) (s : State) : (s.modCip f).sou = s.sou := rfl
@[simp] theorem modCip_wkc (f : Cip → Cip) (s : State) : (s.modCip f).wkc = s.wkc := rfl
@[simp] theorem modCip_mfe (f : Cip → Cip) (s : State) : (s.modCip f).mfe = s.mfe := rfl

/-! ## modHkm -/

@[simp] theorem modHkm_pending (f : Hkm → Hkm) (s : State) : (s.modHkm f).pending = s.pending := rfl
@[simp] theorem modHkm_handoffs (f : Hkm → Hkm) (s : State) : (s.modHkm f).handoffs = s.handoffs := rfl
@[simp] theorem modHkm_choices (f : Hkm → Hkm) (s : State) : (s.modHkm f).choices = s.choices := rfl
@[simp] theorem modHkm_timebase (f : Hkm → Hkm) (s : State) : (s.modHkm f).timebase = s.timebase := rfl
@[simp] theorem modHkm_sent (f : Hkm → Hkm) (s : State) : (s.modHkm f).sent = s.sent := rfl
@[simp] theorem modHkm_loading (f : Hkm → Hkm) (s : State) : (s.modHkm f).loading = s.loading := rfl
@[simp] theorem modHkm_memory (f : Hkm → Hkm) (s : State) : (s.modHkm f).memory = s.memory := rfl
@[simp] theorem modHkm_tables (f : Hkm → Hkm) (s : State) : (s.modHkm f).tables = s.tables := rfl
@[simp] theorem modHkm_cip (f : Hkm → Hkm) (s : State) : (s.modHkm f).cip = s.cip := rfl
@[simp] theorem modHkm_hkm (f : Hkm → Hkm) (s : State) : (s.modHkm f).hkm = f s.hkm := rfl
@[simp] theorem modHkm_glu (f : Hkm → Hkm) (s : State) : (s.modHkm f).glu = s.glu := rfl
@[simp] theorem modHkm_fcu (f : Hkm → Hkm) (s : State) : (s.modHkm f).fcu = s.fcu := rfl
@[simp] theorem modHkm_cpe (f : Hkm → Hkm) (s : State) : (s.modHkm f).cpe = s.cpe := rfl
@[simp] theorem modHkm_fmn (f : Hkm → Hkm) (s : State) : (s.modHkm f).fmn = s.fmn := rfl
@[simp] theorem modHkm_xpc (f : Hkm → Hkm) (s : State) : (s.modHkm f).xpc = s.xpc := rfl
@[simp] theorem modHkm_dms (f : Hkm → Hkm) (s : State) : (s.modHkm f).dms = s.dms := rfl
@[simp] theorem modHkm_sou (f : Hkm → Hkm) (s : State) : (s.modHkm f).sou = s.sou := rfl
@[simp] theorem modHkm_wkc (f : Hkm → Hkm) (s : State) : (s.modHkm f).wkc = s.wkc := rfl
@[simp] theorem modHkm_mfe (f : Hkm → Hkm) (s : State) : (s.modHkm f).mfe = s.mfe := rfl

/-! ## modGlu -/

@[simp] theorem modGlu_pending (f : Glu → Glu) (s : State) : (s.modGlu f).pending = s.pending := rfl
@[simp] theorem modGlu_handoffs (f : Glu → Glu) (s : State) : (s.modGlu f).handoffs = s.handoffs := rfl
@[simp] theorem modGlu_choices (f : Glu → Glu) (s : State) : (s.modGlu f).choices = s.choices := rfl
@[simp] theorem modGlu_timebase (f : Glu → Glu) (s : State) : (s.modGlu f).timebase = s.timebase := rfl
@[simp] theorem modGlu_sent (f : Glu → Glu) (s : State) : (s.modGlu f).sent = s.sent := rfl
@[simp] theorem modGlu_loading (f : Glu → Glu) (s : State) : (s.modGlu f).loading = s.loading := rfl
@[simp] theorem modGlu_memory (f : Glu → Glu) (s : State) : (s.modGlu f).memory = s.memory := rfl
@[simp] theorem modGlu_tables (f : Glu → Glu) (s : State) : (s.modGlu f).tables = s.tables := rfl
@[simp] theorem modGlu_cip (f : Glu → Glu) (s : State) : (s.modGlu f).cip = s.cip := rfl
@[simp] theorem modGlu_hkm (f : Glu → Glu) (s : State) : (s.modGlu f).hkm = s.hkm := rfl
@[simp] theorem modGlu_glu (f : Glu → Glu) (s : State) : (s.modGlu f).glu = f s.glu := rfl
@[simp] theorem modGlu_fcu (f : Glu → Glu) (s : State) : (s.modGlu f).fcu = s.fcu := rfl
@[simp] theorem modGlu_cpe (f : Glu → Glu) (s : State) : (s.modGlu f).cpe = s.cpe := rfl
@[simp] theorem modGlu_fmn (f : Glu → Glu) (s : State) : (s.modGlu f).fmn = s.fmn := rfl
@[simp] theorem modGlu_xpc (f : Glu → Glu) (s : State) : (s.modGlu f).xpc = s.xpc := rfl
@[simp] theorem modGlu_dms (f : Glu → Glu) (s : State) : (s.modGlu f).dms = s.dms := rfl
@[simp] theorem modGlu_sou (f : Glu → Glu) (s : State) : (s.modGlu f).sou = s.sou := rfl
@[simp] theorem modGlu_wkc (f : Glu → Glu) (s : State) : (s.modGlu f).wkc = s.wkc := rfl
@[simp] theorem modGlu_mfe (f : Glu → Glu) (s : State) : (s.modGlu f).mfe = s.mfe := rfl

/-! ## modFcu -/

@[simp] theorem modFcu_pending (f : Fcu → Fcu) (s : State) : (s.modFcu f).pending = s.pending := rfl
@[simp] theorem modFcu_handoffs (f : Fcu → Fcu) (s : State) : (s.modFcu f).handoffs = s.handoffs := rfl
@[simp] theorem modFcu_choices (f : Fcu → Fcu) (s : State) : (s.modFcu f).choices = s.choices := rfl
@[simp] theorem modFcu_timebase (f : Fcu → Fcu) (s : State) : (s.modFcu f).timebase = s.timebase := rfl
@[simp] theorem modFcu_sent (f : Fcu → Fcu) (s : State) : (s.modFcu f).sent = s.sent := rfl
@[simp] theorem modFcu_loading (f : Fcu → Fcu) (s : State) : (s.modFcu f).loading = s.loading := rfl
@[simp] theorem modFcu_memory (f : Fcu → Fcu) (s : State) : (s.modFcu f).memory = s.memory := rfl
@[simp] theorem modFcu_tables (f : Fcu → Fcu) (s : State) : (s.modFcu f).tables = s.tables := rfl
@[simp] theorem modFcu_cip (f : Fcu → Fcu) (s : State) : (s.modFcu f).cip = s.cip := rfl
@[simp] theorem modFcu_hkm (f : Fcu → Fcu) (s : State) : (s.modFcu f).hkm = s.hkm := rfl
@[simp] theorem modFcu_glu (f : Fcu → Fcu) (s : State) : (s.modFcu f).glu = s.glu := rfl
@[simp] theorem modFcu_fcu (f : Fcu → Fcu) (s : State) : (s.modFcu f).fcu = f s.fcu := rfl
@[simp] theorem modFcu_cpe (f : Fcu → Fcu) (s : State) : (s.modFcu f).cpe = s.cpe := rfl
@[simp] theorem modFcu_fmn (f : Fcu → Fcu) (s : State) : (s.modFcu f).fmn = s.fmn := rfl
@[simp] theorem modFcu_xpc (f : Fcu → Fcu) (s : State) : (s.modFcu f).xpc = s.xpc := rfl
@[simp] theorem modFcu_dms (f : Fcu → Fcu) (s : State) : (s.modFcu f).dms = s.dms := rfl
@[simp] theorem modFcu_sou (f : Fcu → Fcu) (s : State) : (s.modFcu f).sou = s.sou := rfl
@[simp] theorem modFcu_wkc (f : Fcu → Fcu) (s : State) : (s.modFcu f).wkc = s.wkc := rfl
@[simp] theorem modFcu_mfe (f : Fcu → Fcu) (s : State) : (s.modFcu f).mfe = s.mfe := rfl

/-! ## modCpe -/

@[simp] theorem modCpe_pending (p : Port) (f : Cpe → Cpe) (s : State) : (s.modCpe p f).pending = s.pending := rfl
@[simp] theorem modCpe_handoffs (p : Port) (f : Cpe → Cpe) (s : State) : (s.modCpe p f).handoffs = s.handoffs := rfl
@[simp] theorem modCpe_choices (p : Port) (f : Cpe → Cpe) (s : State) : (s.modCpe p f).choices = s.choices := rfl
@[simp] theorem modCpe_timebase (p : Port) (f : Cpe → Cpe) (s : State) : (s.modCpe p f).timebase = s.timebase := rfl
@[simp] theorem modCpe_sent (p : Port) (f : Cpe → Cpe) (s : State) : (s.modCpe p f).sent = s.sent := rfl
@[simp] theorem modCpe_loading (p : Port) (f : Cpe → Cpe) (s : State) : (s.modCpe p f).loading = s.loading := rfl
@[simp] theorem modCpe_memory (p : Port) (f : Cpe → Cpe) (s : State) : (s.modCpe p f).memory = s.memory := rfl
@[simp] theorem modCpe_tables (p : Port) (f : Cpe → Cpe) (s : State) : (s.modCpe p f).tables = s.tables := rfl
@[simp] theorem modCpe_cip (p : Port) (f : Cpe → Cpe) (s : State) : (s.modCpe p f).cip = s.cip := rfl
@[simp] theorem modCpe_hkm (p : Port) (f : Cpe → Cpe) (s : State) : (s.modCpe p f).hkm = s.hkm := rfl
@[simp] theorem modCpe_glu (p : Port) (f : Cpe → Cpe) (s : State) : (s.modCpe p f).glu = s.glu := rfl
@[simp] theorem modCpe_fcu (p : Port) (f : Cpe → Cpe) (s : State) : (s.modCpe p f).fcu = s.fcu := rfl
@[simp] theorem modCpe_cpe (p : Port) (f : Cpe → Cpe) (s : State) : (s.modCpe p f).cpe = s.cpe.upd p f := rfl
@[simp] theorem modCpe_fmn (p : Port) (f : Cpe → Cpe) (s : State) : (s.modCpe p f).fmn = s.fmn := rfl
@[simp] theorem modCpe_xpc (p : Port) (f : Cpe → Cpe) (s : State) : (s.modCpe p f).xpc = s.xpc := rfl
@[simp] theorem modCpe_dms (p : Port) (f : Cpe → Cpe) (s : State) : (s.modCpe p f).dms = s.dms := rfl
@[simp] theorem modCpe_sou (p : Port) (f : Cpe → Cpe) (s : State) : (s.modCpe p f).sou = s.sou := rfl
@[simp] theorem modCpe_wkc (p : Port) (f : Cpe → Cpe) (s : State) : (s.modCpe p f).wkc = s.wkc := rfl
@[simp] theorem modCpe_mfe (p : Port) (f : Cpe → Cpe) (s : State) : (s.modCpe p f).mfe = s.mfe := rfl

/-! ## modFmn -/

@[simp] theorem modFmn_pending (v : Source) (f : Fmn → Fmn) (s : State) : (s.modFmn v f).pending = s.pending := rfl
@[simp] theorem modFmn_handoffs (v : Source) (f : Fmn → Fmn) (s : State) : (s.modFmn v f).handoffs = s.handoffs := rfl
@[simp] theorem modFmn_choices (v : Source) (f : Fmn → Fmn) (s : State) : (s.modFmn v f).choices = s.choices := rfl
@[simp] theorem modFmn_timebase (v : Source) (f : Fmn → Fmn) (s : State) : (s.modFmn v f).timebase = s.timebase := rfl
@[simp] theorem modFmn_sent (v : Source) (f : Fmn → Fmn) (s : State) : (s.modFmn v f).sent = s.sent := rfl
@[simp] theorem modFmn_loading (v : Source) (f : Fmn → Fmn) (s : State) : (s.modFmn v f).loading = s.loading := rfl
@[simp] theorem modFmn_memory (v : Source) (f : Fmn → Fmn) (s : State) : (s.modFmn v f).memory = s.memory := rfl
@[simp] theorem modFmn_tables (v : Source) (f : Fmn → Fmn) (s : State) : (s.modFmn v f).tables = s.tables := rfl
@[simp] theorem modFmn_cip (v : Source) (f : Fmn → Fmn) (s : State) : (s.modFmn v f).cip = s.cip := rfl
@[simp] theorem modFmn_hkm (v : Source) (f : Fmn → Fmn) (s : State) : (s.modFmn v f).hkm = s.hkm := rfl
@[simp] theorem modFmn_glu (v : Source) (f : Fmn → Fmn) (s : State) : (s.modFmn v f).glu = s.glu := rfl
@[simp] theorem modFmn_fcu (v : Source) (f : Fmn → Fmn) (s : State) : (s.modFmn v f).fcu = s.fcu := rfl
@[simp] theorem modFmn_cpe (v : Source) (f : Fmn → Fmn) (s : State) : (s.modFmn v f).cpe = s.cpe := rfl
@[simp] theorem modFmn_fmn (v : Source) (f : Fmn → Fmn) (s : State) : (s.modFmn v f).fmn = s.fmn.upd v f := rfl
@[simp] theorem modFmn_xpc (v : Source) (f : Fmn → Fmn) (s : State) : (s.modFmn v f).xpc = s.xpc := rfl
@[simp] theorem modFmn_dms (v : Source) (f : Fmn → Fmn) (s : State) : (s.modFmn v f).dms = s.dms := rfl
@[simp] theorem modFmn_sou (v : Source) (f : Fmn → Fmn) (s : State) : (s.modFmn v f).sou = s.sou := rfl
@[simp] theorem modFmn_wkc (v : Source) (f : Fmn → Fmn) (s : State) : (s.modFmn v f).wkc = s.wkc := rfl
@[simp] theorem modFmn_mfe (v : Source) (f : Fmn → Fmn) (s : State) : (s.modFmn v f).mfe = s.mfe := rfl

/-! ## modXpc -/

@[simp] theorem modXpc_pending (f : Xpc → Xpc) (s : State) : (s.modXpc f).pending = s.pending := rfl
@[simp] theorem modXpc_handoffs (f : Xpc → Xpc) (s : State) : (s.modXpc f).handoffs = s.handoffs := rfl
@[simp] theorem modXpc_choices (f : Xpc → Xpc) (s : State) : (s.modXpc f).choices = s.choices := rfl
@[simp] theorem modXpc_timebase (f : Xpc → Xpc) (s : State) : (s.modXpc f).timebase = s.timebase := rfl
@[simp] theorem modXpc_sent (f : Xpc → Xpc) (s : State) : (s.modXpc f).sent = s.sent := rfl
@[simp] theorem modXpc_loading (f : Xpc → Xpc) (s : State) : (s.modXpc f).loading = s.loading := rfl
@[simp] theorem modXpc_memory (f : Xpc → Xpc) (s : State) : (s.modXpc f).memory = s.memory := rfl
@[simp] theorem modXpc_tables (f : Xpc → Xpc) (s : State) : (s.modXpc f).tables = s.tables := rfl
@[simp] theorem modXpc_cip (f : Xpc → Xpc) (s : State) : (s.modXpc f).cip = s.cip := rfl
@[simp] theorem modXpc_hkm (f : Xpc → Xpc) (s : State) : (s.modXpc f).hkm = s.hkm := rfl
@[simp] theorem modXpc_glu (f : Xpc → Xpc) (s : State) : (s.modXpc f).glu = s.glu := rfl
@[simp] theorem modXpc_fcu (f : Xpc → Xpc) (s : State) : (s.modXpc f).fcu = s.fcu := rfl
@[simp] theorem modXpc_cpe (f : Xpc → Xpc) (s : State) : (s.modXpc f).cpe = s.cpe := rfl
@[simp] theorem modXpc_fmn (f : Xpc → Xpc) (s : State) : (s.modXpc f).fmn = s.fmn := rfl
@[simp] theorem modXpc_xpc (f : Xpc → Xpc) (s : State) : (s.modXpc f).xpc = f s.xpc := rfl
@[simp] theorem modXpc_dms (f : Xpc → Xpc) (s : State) : (s.modXpc f).dms = s.dms := rfl
@[simp] theorem modXpc_sou (f : Xpc → Xpc) (s : State) : (s.modXpc f).sou = s.sou := rfl
@[simp] theorem modXpc_wkc (f : Xpc → Xpc) (s : State) : (s.modXpc f).wkc = s.wkc := rfl
@[simp] theorem modXpc_mfe (f : Xpc → Xpc) (s : State) : (s.modXpc f).mfe = s.mfe := rfl

/-! ## modRoute -/

@[simp] theorem modRoute_pending (sc : Screen) (f : RouteRecord → RouteRecord) (s : State) : (s.modRoute sc f).pending = s.pending := rfl
@[simp] theorem modRoute_handoffs (sc : Screen) (f : RouteRecord → RouteRecord) (s : State) : (s.modRoute sc f).handoffs = s.handoffs := rfl
@[simp] theorem modRoute_choices (sc : Screen) (f : RouteRecord → RouteRecord) (s : State) : (s.modRoute sc f).choices = s.choices := rfl
@[simp] theorem modRoute_timebase (sc : Screen) (f : RouteRecord → RouteRecord) (s : State) : (s.modRoute sc f).timebase = s.timebase := rfl
@[simp] theorem modRoute_sent (sc : Screen) (f : RouteRecord → RouteRecord) (s : State) : (s.modRoute sc f).sent = s.sent := rfl
@[simp] theorem modRoute_loading (sc : Screen) (f : RouteRecord → RouteRecord) (s : State) : (s.modRoute sc f).loading = s.loading := rfl
@[simp] theorem modRoute_memory (sc : Screen) (f : RouteRecord → RouteRecord) (s : State) : (s.modRoute sc f).memory = s.memory := rfl
@[simp] theorem modRoute_tables (sc : Screen) (f : RouteRecord → RouteRecord) (s : State) : (s.modRoute sc f).tables = s.tables := rfl
@[simp] theorem modRoute_cip (sc : Screen) (f : RouteRecord → RouteRecord) (s : State) : (s.modRoute sc f).cip = s.cip := rfl
@[simp] theorem modRoute_hkm (sc : Screen) (f : RouteRecord → RouteRecord) (s : State) : (s.modRoute sc f).hkm = s.hkm := rfl
@[simp] theorem modRoute_glu (sc : Screen) (f : RouteRecord → RouteRecord) (s : State) : (s.modRoute sc f).glu = s.glu := rfl
@[simp] theorem modRoute_fcu (sc : Screen) (f : RouteRecord → RouteRecord) (s : State) : (s.modRoute sc f).fcu = s.fcu := rfl
@[simp] theorem modRoute_cpe (sc : Screen) (f : RouteRecord → RouteRecord) (s : State) : (s.modRoute sc f).cpe = s.cpe := rfl
@[simp] theorem modRoute_fmn (sc : Screen) (f : RouteRecord → RouteRecord) (s : State) : (s.modRoute sc f).fmn = s.fmn := rfl
@[simp] theorem modRoute_xpc (sc : Screen) (f : RouteRecord → RouteRecord) (s : State) : (s.modRoute sc f).xpc = { s.xpc with routes := s.xpc.routes.upd sc f } := rfl
@[simp] theorem modRoute_dms (sc : Screen) (f : RouteRecord → RouteRecord) (s : State) : (s.modRoute sc f).dms = s.dms := rfl
@[simp] theorem modRoute_sou (sc : Screen) (f : RouteRecord → RouteRecord) (s : State) : (s.modRoute sc f).sou = s.sou := rfl
@[simp] theorem modRoute_wkc (sc : Screen) (f : RouteRecord → RouteRecord) (s : State) : (s.modRoute sc f).wkc = s.wkc := rfl
@[simp] theorem modRoute_mfe (sc : Screen) (f : RouteRecord → RouteRecord) (s : State) : (s.modRoute sc f).mfe = s.mfe := rfl

/-! ## modDms -/

@[simp] theorem modDms_pending (sc : Screen) (f : Dms → Dms) (s : State) : (s.modDms sc f).pending = s.pending := rfl
@[simp] theorem modDms_handoffs (sc : Screen) (f : Dms → Dms) (s : State) : (s.modDms sc f).handoffs = s.handoffs := rfl
@[simp] theorem modDms_choices (sc : Screen) (f : Dms → Dms) (s : State) : (s.modDms sc f).choices = s.choices := rfl
@[simp] theorem modDms_timebase (sc : Screen) (f : Dms → Dms) (s : State) : (s.modDms sc f).timebase = s.timebase := rfl
@[simp] theorem modDms_sent (sc : Screen) (f : Dms → Dms) (s : State) : (s.modDms sc f).sent = s.sent := rfl
@[simp] theorem modDms_loading (sc : Screen) (f : Dms → Dms) (s : State) : (s.modDms sc f).loading = s.loading := rfl
@[simp] theorem modDms_memory (sc : Screen) (f : Dms → Dms) (s : State) : (s.modDms sc f).memory = s.memory := rfl
@[simp] theorem modDms_tables (sc : Screen) (f : Dms → Dms) (s : State) : (s.modDms sc f).tables = s.tables := rfl
@[simp] theorem modDms_cip (sc : Screen) (f : Dms → Dms) (s : State) : (s.modDms sc f).cip = s.cip := rfl
@[simp] theorem modDms_hkm (sc : Screen) (f : Dms → Dms) (s : State) : (s.modDms sc f).hkm = s.hkm := rfl
@[simp] theorem modDms_glu (sc : Screen) (f : Dms → Dms) (s : State) : (s.modDms sc f).glu = s.glu := rfl
@[simp] theorem modDms_fcu (sc : Screen) (f : Dms → Dms) (s : State) : (s.modDms sc f).fcu = s.fcu := rfl
@[simp] theorem modDms_cpe (sc : Screen) (f : Dms → Dms) (s : State) : (s.modDms sc f).cpe = s.cpe := rfl
@[simp] theorem modDms_fmn (sc : Screen) (f : Dms → Dms) (s : State) : (s.modDms sc f).fmn = s.fmn := rfl
@[simp] theorem modDms_xpc (sc : Screen) (f : Dms → Dms) (s : State) : (s.modDms sc f).xpc = s.xpc := rfl
@[simp] theorem modDms_dms (sc : Screen) (f : Dms → Dms) (s : State) : (s.modDms sc f).dms = s.dms.upd sc f := rfl
@[simp] theorem modDms_sou (sc : Screen) (f : Dms → Dms) (s : State) : (s.modDms sc f).sou = s.sou := rfl
@[simp] theorem modDms_wkc (sc : Screen) (f : Dms → Dms) (s : State) : (s.modDms sc f).wkc = s.wkc := rfl
@[simp] theorem modDms_mfe (sc : Screen) (f : Dms → Dms) (s : State) : (s.modDms sc f).mfe = s.mfe := rfl

/-! ## modSou -/

@[simp] theorem modSou_pending (o : ShareOut) (f : ShareRecord → ShareRecord) (s : State) : (s.modSou o f).pending = s.pending := rfl
@[simp] theorem modSou_handoffs (o : ShareOut) (f : ShareRecord → ShareRecord) (s : State) : (s.modSou o f).handoffs = s.handoffs := rfl
@[simp] theorem modSou_choices (o : ShareOut) (f : ShareRecord → ShareRecord) (s : State) : (s.modSou o f).choices = s.choices := rfl
@[simp] theorem modSou_timebase (o : ShareOut) (f : ShareRecord → ShareRecord) (s : State) : (s.modSou o f).timebase = s.timebase := rfl
@[simp] theorem modSou_sent (o : ShareOut) (f : ShareRecord → ShareRecord) (s : State) : (s.modSou o f).sent = s.sent := rfl
@[simp] theorem modSou_loading (o : ShareOut) (f : ShareRecord → ShareRecord) (s : State) : (s.modSou o f).loading = s.loading := rfl
@[simp] theorem modSou_memory (o : ShareOut) (f : ShareRecord → ShareRecord) (s : State) : (s.modSou o f).memory = s.memory := rfl
@[simp] theorem modSou_tables (o : ShareOut) (f : ShareRecord → ShareRecord) (s : State) : (s.modSou o f).tables = s.tables := rfl
@[simp] theorem modSou_cip (o : ShareOut) (f : ShareRecord → ShareRecord) (s : State) : (s.modSou o f).cip = s.cip := rfl
@[simp] theorem modSou_hkm (o : ShareOut) (f : ShareRecord → ShareRecord) (s : State) : (s.modSou o f).hkm = s.hkm := rfl
@[simp] theorem modSou_glu (o : ShareOut) (f : ShareRecord → ShareRecord) (s : State) : (s.modSou o f).glu = s.glu := rfl
@[simp] theorem modSou_fcu (o : ShareOut) (f : ShareRecord → ShareRecord) (s : State) : (s.modSou o f).fcu = s.fcu := rfl
@[simp] theorem modSou_cpe (o : ShareOut) (f : ShareRecord → ShareRecord) (s : State) : (s.modSou o f).cpe = s.cpe := rfl
@[simp] theorem modSou_fmn (o : ShareOut) (f : ShareRecord → ShareRecord) (s : State) : (s.modSou o f).fmn = s.fmn := rfl
@[simp] theorem modSou_xpc (o : ShareOut) (f : ShareRecord → ShareRecord) (s : State) : (s.modSou o f).xpc = s.xpc := rfl
@[simp] theorem modSou_dms (o : ShareOut) (f : ShareRecord → ShareRecord) (s : State) : (s.modSou o f).dms = s.dms := rfl
@[simp] theorem modSou_sou (o : ShareOut) (f : ShareRecord → ShareRecord) (s : State) : (s.modSou o f).sou = s.sou.upd o f := rfl
@[simp] theorem modSou_wkc (o : ShareOut) (f : ShareRecord → ShareRecord) (s : State) : (s.modSou o f).wkc = s.wkc := rfl
@[simp] theorem modSou_mfe (o : ShareOut) (f : ShareRecord → ShareRecord) (s : State) : (s.modSou o f).mfe = s.mfe := rfl

/-! ## modWkc -/

@[simp] theorem modWkc_pending (f : Wkc → Wkc) (s : State) : (s.modWkc f).pending = s.pending := rfl
@[simp] theorem modWkc_handoffs (f : Wkc → Wkc) (s : State) : (s.modWkc f).handoffs = s.handoffs := rfl
@[simp] theorem modWkc_choices (f : Wkc → Wkc) (s : State) : (s.modWkc f).choices = s.choices := rfl
@[simp] theorem modWkc_timebase (f : Wkc → Wkc) (s : State) : (s.modWkc f).timebase = s.timebase := rfl
@[simp] theorem modWkc_sent (f : Wkc → Wkc) (s : State) : (s.modWkc f).sent = s.sent := rfl
@[simp] theorem modWkc_loading (f : Wkc → Wkc) (s : State) : (s.modWkc f).loading = s.loading := rfl
@[simp] theorem modWkc_memory (f : Wkc → Wkc) (s : State) : (s.modWkc f).memory = s.memory := rfl
@[simp] theorem modWkc_tables (f : Wkc → Wkc) (s : State) : (s.modWkc f).tables = s.tables := rfl
@[simp] theorem modWkc_cip (f : Wkc → Wkc) (s : State) : (s.modWkc f).cip = s.cip := rfl
@[simp] theorem modWkc_hkm (f : Wkc → Wkc) (s : State) : (s.modWkc f).hkm = s.hkm := rfl
@[simp] theorem modWkc_glu (f : Wkc → Wkc) (s : State) : (s.modWkc f).glu = s.glu := rfl
@[simp] theorem modWkc_fcu (f : Wkc → Wkc) (s : State) : (s.modWkc f).fcu = s.fcu := rfl
@[simp] theorem modWkc_cpe (f : Wkc → Wkc) (s : State) : (s.modWkc f).cpe = s.cpe := rfl
@[simp] theorem modWkc_fmn (f : Wkc → Wkc) (s : State) : (s.modWkc f).fmn = s.fmn := rfl
@[simp] theorem modWkc_xpc (f : Wkc → Wkc) (s : State) : (s.modWkc f).xpc = s.xpc := rfl
@[simp] theorem modWkc_dms (f : Wkc → Wkc) (s : State) : (s.modWkc f).dms = s.dms := rfl
@[simp] theorem modWkc_sou (f : Wkc → Wkc) (s : State) : (s.modWkc f).sou = s.sou := rfl
@[simp] theorem modWkc_wkc (f : Wkc → Wkc) (s : State) : (s.modWkc f).wkc = f s.wkc := rfl
@[simp] theorem modWkc_mfe (f : Wkc → Wkc) (s : State) : (s.modWkc f).mfe = s.mfe := rfl

/-! ## modWake -/

@[simp] theorem modWake_pending (p : Port) (f : WakeRecord → WakeRecord) (s : State) : (s.modWake p f).pending = s.pending := rfl
@[simp] theorem modWake_handoffs (p : Port) (f : WakeRecord → WakeRecord) (s : State) : (s.modWake p f).handoffs = s.handoffs := rfl
@[simp] theorem modWake_choices (p : Port) (f : WakeRecord → WakeRecord) (s : State) : (s.modWake p f).choices = s.choices := rfl
@[simp] theorem modWake_timebase (p : Port) (f : WakeRecord → WakeRecord) (s : State) : (s.modWake p f).timebase = s.timebase := rfl
@[simp] theorem modWake_sent (p : Port) (f : WakeRecord → WakeRecord) (s : State) : (s.modWake p f).sent = s.sent := rfl
@[simp] theorem modWake_loading (p : Port) (f : WakeRecord → WakeRecord) (s : State) : (s.modWake p f).loading = s.loading := rfl
@[simp] theorem modWake_memory (p : Port) (f : WakeRecord → WakeRecord) (s : State) : (s.modWake p f).memory = s.memory := rfl
@[simp] theorem modWake_tables (p : Port) (f : WakeRecord → WakeRecord) (s : State) : (s.modWake p f).tables = s.tables := rfl
@[simp] theorem modWake_cip (p : Port) (f : WakeRecord → WakeRecord) (s : State) : (s.modWake p f).cip = s.cip := rfl
@[simp] theorem modWake_hkm (p : Port) (f : WakeRecord → WakeRecord) (s : State) : (s.modWake p f).hkm = s.hkm := rfl
@[simp] theorem modWake_glu (p : Port) (f : WakeRecord → WakeRecord) (s : State) : (s.modWake p f).glu = s.glu := rfl
@[simp] theorem modWake_fcu (p : Port) (f : WakeRecord → WakeRecord) (s : State) : (s.modWake p f).fcu = s.fcu := rfl
@[simp] theorem modWake_cpe (p : Port) (f : WakeRecord → WakeRecord) (s : State) : (s.modWake p f).cpe = s.cpe := rfl
@[simp] theorem modWake_fmn (p : Port) (f : WakeRecord → WakeRecord) (s : State) : (s.modWake p f).fmn = s.fmn := rfl
@[simp] theorem modWake_xpc (p : Port) (f : WakeRecord → WakeRecord) (s : State) : (s.modWake p f).xpc = s.xpc := rfl
@[simp] theorem modWake_dms (p : Port) (f : WakeRecord → WakeRecord) (s : State) : (s.modWake p f).dms = s.dms := rfl
@[simp] theorem modWake_sou (p : Port) (f : WakeRecord → WakeRecord) (s : State) : (s.modWake p f).sou = s.sou := rfl
@[simp] theorem modWake_wkc (p : Port) (f : WakeRecord → WakeRecord) (s : State) : (s.modWake p f).wkc = { s.wkc with wakes := s.wkc.wakes.upd p f } := rfl
@[simp] theorem modWake_mfe (p : Port) (f : WakeRecord → WakeRecord) (s : State) : (s.modWake p f).mfe = s.mfe := rfl

/-! ## modPower -/

@[simp] theorem modPower_pending (sc : Screen) (f : PowerRecord → PowerRecord) (s : State) : (s.modPower sc f).pending = s.pending := rfl
@[simp] theorem modPower_handoffs (sc : Screen) (f : PowerRecord → PowerRecord) (s : State) : (s.modPower sc f).handoffs = s.handoffs := rfl
@[simp] theorem modPower_choices (sc : Screen) (f : PowerRecord → PowerRecord) (s : State) : (s.modPower sc f).choices = s.choices := rfl
@[simp] theorem modPower_timebase (sc : Screen) (f : PowerRecord → PowerRecord) (s : State) : (s.modPower sc f).timebase = s.timebase := rfl
@[simp] theorem modPower_sent (sc : Screen) (f : PowerRecord → PowerRecord) (s : State) : (s.modPower sc f).sent = s.sent := rfl
@[simp] theorem modPower_loading (sc : Screen) (f : PowerRecord → PowerRecord) (s : State) : (s.modPower sc f).loading = s.loading := rfl
@[simp] theorem modPower_memory (sc : Screen) (f : PowerRecord → PowerRecord) (s : State) : (s.modPower sc f).memory = s.memory := rfl
@[simp] theorem modPower_tables (sc : Screen) (f : PowerRecord → PowerRecord) (s : State) : (s.modPower sc f).tables = s.tables := rfl
@[simp] theorem modPower_cip (sc : Screen) (f : PowerRecord → PowerRecord) (s : State) : (s.modPower sc f).cip = s.cip := rfl
@[simp] theorem modPower_hkm (sc : Screen) (f : PowerRecord → PowerRecord) (s : State) : (s.modPower sc f).hkm = s.hkm := rfl
@[simp] theorem modPower_glu (sc : Screen) (f : PowerRecord → PowerRecord) (s : State) : (s.modPower sc f).glu = s.glu := rfl
@[simp] theorem modPower_fcu (sc : Screen) (f : PowerRecord → PowerRecord) (s : State) : (s.modPower sc f).fcu = s.fcu := rfl
@[simp] theorem modPower_cpe (sc : Screen) (f : PowerRecord → PowerRecord) (s : State) : (s.modPower sc f).cpe = s.cpe := rfl
@[simp] theorem modPower_fmn (sc : Screen) (f : PowerRecord → PowerRecord) (s : State) : (s.modPower sc f).fmn = s.fmn := rfl
@[simp] theorem modPower_xpc (sc : Screen) (f : PowerRecord → PowerRecord) (s : State) : (s.modPower sc f).xpc = s.xpc := rfl
@[simp] theorem modPower_dms (sc : Screen) (f : PowerRecord → PowerRecord) (s : State) : (s.modPower sc f).dms = s.dms := rfl
@[simp] theorem modPower_sou (sc : Screen) (f : PowerRecord → PowerRecord) (s : State) : (s.modPower sc f).sou = s.sou := rfl
@[simp] theorem modPower_wkc (sc : Screen) (f : PowerRecord → PowerRecord) (s : State) : (s.modPower sc f).wkc = { s.wkc with power := s.wkc.power.upd sc f } := rfl
@[simp] theorem modPower_mfe (sc : Screen) (f : PowerRecord → PowerRecord) (s : State) : (s.modPower sc f).mfe = s.mfe := rfl

/-! ## modMfe -/

@[simp] theorem modMfe_pending (f : Mfe → Mfe) (s : State) : (s.modMfe f).pending = s.pending := rfl
@[simp] theorem modMfe_handoffs (f : Mfe → Mfe) (s : State) : (s.modMfe f).handoffs = s.handoffs := rfl
@[simp] theorem modMfe_choices (f : Mfe → Mfe) (s : State) : (s.modMfe f).choices = s.choices := rfl
@[simp] theorem modMfe_timebase (f : Mfe → Mfe) (s : State) : (s.modMfe f).timebase = s.timebase := rfl
@[simp] theorem modMfe_sent (f : Mfe → Mfe) (s : State) : (s.modMfe f).sent = s.sent := rfl
@[simp] theorem modMfe_loading (f : Mfe → Mfe) (s : State) : (s.modMfe f).loading = s.loading := rfl
@[simp] theorem modMfe_memory (f : Mfe → Mfe) (s : State) : (s.modMfe f).memory = s.memory := rfl
@[simp] theorem modMfe_tables (f : Mfe → Mfe) (s : State) : (s.modMfe f).tables = s.tables := rfl
@[simp] theorem modMfe_cip (f : Mfe → Mfe) (s : State) : (s.modMfe f).cip = s.cip := rfl
@[simp] theorem modMfe_hkm (f : Mfe → Mfe) (s : State) : (s.modMfe f).hkm = s.hkm := rfl
@[simp] theorem modMfe_glu (f : Mfe → Mfe) (s : State) : (s.modMfe f).glu = s.glu := rfl
@[simp] theorem modMfe_fcu (f : Mfe → Mfe) (s : State) : (s.modMfe f).fcu = s.fcu := rfl
@[simp] theorem modMfe_cpe (f : Mfe → Mfe) (s : State) : (s.modMfe f).cpe = s.cpe := rfl
@[simp] theorem modMfe_fmn (f : Mfe → Mfe) (s : State) : (s.modMfe f).fmn = s.fmn := rfl
@[simp] theorem modMfe_xpc (f : Mfe → Mfe) (s : State) : (s.modMfe f).xpc = s.xpc := rfl
@[simp] theorem modMfe_dms (f : Mfe → Mfe) (s : State) : (s.modMfe f).dms = s.dms := rfl
@[simp] theorem modMfe_sou (f : Mfe → Mfe) (s : State) : (s.modMfe f).sou = s.sou := rfl
@[simp] theorem modMfe_wkc (f : Mfe → Mfe) (s : State) : (s.modMfe f).wkc = s.wkc := rfl
@[simp] theorem modMfe_mfe (f : Mfe → Mfe) (s : State) : (s.modMfe f).mfe = f s.mfe := rfl

/-! ## modTables -/

@[simp] theorem modTables_pending (f : Tables → Tables) (s : State) : (s.modTables f).pending = s.pending := rfl
@[simp] theorem modTables_handoffs (f : Tables → Tables) (s : State) : (s.modTables f).handoffs = s.handoffs := rfl
@[simp] theorem modTables_choices (f : Tables → Tables) (s : State) : (s.modTables f).choices = s.choices := rfl
@[simp] theorem modTables_timebase (f : Tables → Tables) (s : State) : (s.modTables f).timebase = s.timebase := rfl
@[simp] theorem modTables_sent (f : Tables → Tables) (s : State) : (s.modTables f).sent = s.sent := rfl
@[simp] theorem modTables_loading (f : Tables → Tables) (s : State) : (s.modTables f).loading = s.loading := rfl
@[simp] theorem modTables_memory (f : Tables → Tables) (s : State) : (s.modTables f).memory = s.memory := rfl
@[simp] theorem modTables_tables (f : Tables → Tables) (s : State) : (s.modTables f).tables = f s.tables := rfl
@[simp] theorem modTables_cip (f : Tables → Tables) (s : State) : (s.modTables f).cip = s.cip := rfl
@[simp] theorem modTables_hkm (f : Tables → Tables) (s : State) : (s.modTables f).hkm = s.hkm := rfl
@[simp] theorem modTables_glu (f : Tables → Tables) (s : State) : (s.modTables f).glu = s.glu := rfl
@[simp] theorem modTables_fcu (f : Tables → Tables) (s : State) : (s.modTables f).fcu = s.fcu := rfl
@[simp] theorem modTables_cpe (f : Tables → Tables) (s : State) : (s.modTables f).cpe = s.cpe := rfl
@[simp] theorem modTables_fmn (f : Tables → Tables) (s : State) : (s.modTables f).fmn = s.fmn := rfl
@[simp] theorem modTables_xpc (f : Tables → Tables) (s : State) : (s.modTables f).xpc = s.xpc := rfl
@[simp] theorem modTables_dms (f : Tables → Tables) (s : State) : (s.modTables f).dms = s.dms := rfl
@[simp] theorem modTables_sou (f : Tables → Tables) (s : State) : (s.modTables f).sou = s.sou := rfl
@[simp] theorem modTables_wkc (f : Tables → Tables) (s : State) : (s.modTables f).wkc = s.wkc := rfl
@[simp] theorem modTables_mfe (f : Tables → Tables) (s : State) : (s.modTables f).mfe = s.mfe := rfl

/-! ## hand -/

@[simp] theorem hand_pending (b : Block) (c : Instr) (s : State) : (s.hand b c).pending = s.pending := rfl
@[simp] theorem hand_handoffs (b : Block) (c : Instr) (s : State) : (s.hand b c).handoffs = s.handoffs ++ [{ src := b, cmd := c }] := rfl
@[simp] theorem hand_choices (b : Block) (c : Instr) (s : State) : (s.hand b c).choices = s.choices := rfl
@[simp] theorem hand_timebase (b : Block) (c : Instr) (s : State) : (s.hand b c).timebase = s.timebase := rfl
@[simp] theorem hand_sent (b : Block) (c : Instr) (s : State) : (s.hand b c).sent = s.sent := rfl
@[simp] theorem hand_loading (b : Block) (c : Instr) (s : State) : (s.hand b c).loading = s.loading := rfl
@[simp] theorem hand_memory (b : Block) (c : Instr) (s : State) : (s.hand b c).memory = s.memory := rfl
@[simp] theorem hand_tables (b : Block) (c : Instr) (s : State) : (s.hand b c).tables = s.tables := rfl
@[simp] theorem hand_cip (b : Block) (c : Instr) (s : State) : (s.hand b c).cip = s.cip := rfl
@[simp] theorem hand_hkm (b : Block) (c : Instr) (s : State) : (s.hand b c).hkm = s.hkm := rfl
@[simp] theorem hand_glu (b : Block) (c : Instr) (s : State) : (s.hand b c).glu = s.glu := rfl
@[simp] theorem hand_fcu (b : Block) (c : Instr) (s : State) : (s.hand b c).fcu = s.fcu := rfl
@[simp] theorem hand_cpe (b : Block) (c : Instr) (s : State) : (s.hand b c).cpe = s.cpe := rfl
@[simp] theorem hand_fmn (b : Block) (c : Instr) (s : State) : (s.hand b c).fmn = s.fmn := rfl
@[simp] theorem hand_xpc (b : Block) (c : Instr) (s : State) : (s.hand b c).xpc = s.xpc := rfl
@[simp] theorem hand_dms (b : Block) (c : Instr) (s : State) : (s.hand b c).dms = s.dms := rfl
@[simp] theorem hand_sou (b : Block) (c : Instr) (s : State) : (s.hand b c).sou = s.sou := rfl
@[simp] theorem hand_wkc (b : Block) (c : Instr) (s : State) : (s.hand b c).wkc = s.wkc := rfl
@[simp] theorem hand_mfe (b : Block) (c : Instr) (s : State) : (s.hand b c).mfe = s.mfe := rfl

/-! ## raise -/

@[simp] theorem raise_pending (b : Block) (k : NoticeKind) (s : State) : (s.raise b k).pending = s.pending := rfl
@[simp] theorem raise_handoffs (b : Block) (k : NoticeKind) (s : State) : (s.raise b k).handoffs = s.handoffs ++ [{ src := b, cmd := .noticeRaise k }] := rfl
@[simp] theorem raise_choices (b : Block) (k : NoticeKind) (s : State) : (s.raise b k).choices = s.choices := rfl
@[simp] theorem raise_timebase (b : Block) (k : NoticeKind) (s : State) : (s.raise b k).timebase = s.timebase := rfl
@[simp] theorem raise_sent (b : Block) (k : NoticeKind) (s : State) : (s.raise b k).sent = s.sent := rfl
@[simp] theorem raise_loading (b : Block) (k : NoticeKind) (s : State) : (s.raise b k).loading = s.loading := rfl
@[simp] theorem raise_memory (b : Block) (k : NoticeKind) (s : State) : (s.raise b k).memory = s.memory := rfl
@[simp] theorem raise_tables (b : Block) (k : NoticeKind) (s : State) : (s.raise b k).tables = s.tables := rfl
@[simp] theorem raise_cip (b : Block) (k : NoticeKind) (s : State) : (s.raise b k).cip = s.cip := rfl
@[simp] theorem raise_hkm (b : Block) (k : NoticeKind) (s : State) : (s.raise b k).hkm = s.hkm := rfl
@[simp] theorem raise_glu (b : Block) (k : NoticeKind) (s : State) : (s.raise b k).glu = s.glu := rfl
@[simp] theorem raise_fcu (b : Block) (k : NoticeKind) (s : State) : (s.raise b k).fcu = s.fcu := rfl
@[simp] theorem raise_cpe (b : Block) (k : NoticeKind) (s : State) : (s.raise b k).cpe = s.cpe := rfl
@[simp] theorem raise_fmn (b : Block) (k : NoticeKind) (s : State) : (s.raise b k).fmn = s.fmn := rfl
@[simp] theorem raise_xpc (b : Block) (k : NoticeKind) (s : State) : (s.raise b k).xpc = s.xpc := rfl
@[simp] theorem raise_dms (b : Block) (k : NoticeKind) (s : State) : (s.raise b k).dms = s.dms := rfl
@[simp] theorem raise_sou (b : Block) (k : NoticeKind) (s : State) : (s.raise b k).sou = s.sou := rfl
@[simp] theorem raise_wkc (b : Block) (k : NoticeKind) (s : State) : (s.raise b k).wkc = s.wkc := rfl
@[simp] theorem raise_mfe (b : Block) (k : NoticeKind) (s : State) : (s.raise b k).mfe = s.mfe := rfl

/-! ## taking -/

@[simp] theorem taking_pending (c : Instr) (s : State) : (s.taking c).pending = s.pending := rfl
@[simp] theorem taking_handoffs (c : Instr) (s : State) : (s.taking c).handoffs = withoutFirst c s.handoffs := rfl
@[simp] theorem taking_choices (c : Instr) (s : State) : (s.taking c).choices = s.choices := rfl
@[simp] theorem taking_timebase (c : Instr) (s : State) : (s.taking c).timebase = s.timebase := rfl
@[simp] theorem taking_sent (c : Instr) (s : State) : (s.taking c).sent = s.sent := rfl
@[simp] theorem taking_loading (c : Instr) (s : State) : (s.taking c).loading = s.loading := rfl
@[simp] theorem taking_memory (c : Instr) (s : State) : (s.taking c).memory = s.memory := rfl
@[simp] theorem taking_tables (c : Instr) (s : State) : (s.taking c).tables = s.tables := rfl
@[simp] theorem taking_cip (c : Instr) (s : State) : (s.taking c).cip = s.cip := rfl
@[simp] theorem taking_hkm (c : Instr) (s : State) : (s.taking c).hkm = s.hkm := rfl
@[simp] theorem taking_glu (c : Instr) (s : State) : (s.taking c).glu = s.glu := rfl
@[simp] theorem taking_fcu (c : Instr) (s : State) : (s.taking c).fcu = s.fcu := rfl
@[simp] theorem taking_cpe (c : Instr) (s : State) : (s.taking c).cpe = s.cpe := rfl
@[simp] theorem taking_fmn (c : Instr) (s : State) : (s.taking c).fmn = s.fmn := rfl
@[simp] theorem taking_xpc (c : Instr) (s : State) : (s.taking c).xpc = s.xpc := rfl
@[simp] theorem taking_dms (c : Instr) (s : State) : (s.taking c).dms = s.dms := rfl
@[simp] theorem taking_sou (c : Instr) (s : State) : (s.taking c).sou = s.sou := rfl
@[simp] theorem taking_wkc (c : Instr) (s : State) : (s.taking c).wkc = s.wkc := rfl
@[simp] theorem taking_mfe (c : Instr) (s : State) : (s.taking c).mfe = s.mfe := rfl

/-! ## send -/

@[simp] theorem send_pending (o : Sent) (s : State) : (s.send o).pending = s.pending := rfl
@[simp] theorem send_handoffs (o : Sent) (s : State) : (s.send o).handoffs = s.handoffs := rfl
@[simp] theorem send_choices (o : Sent) (s : State) : (s.send o).choices = s.choices := rfl
@[simp] theorem send_timebase (o : Sent) (s : State) : (s.send o).timebase = s.timebase := rfl
@[simp] theorem send_sent (o : Sent) (s : State) : (s.send o).sent = s.sent ++ [o] := rfl
@[simp] theorem send_loading (o : Sent) (s : State) : (s.send o).loading = s.loading := rfl
@[simp] theorem send_memory (o : Sent) (s : State) : (s.send o).memory = s.memory := rfl
@[simp] theorem send_tables (o : Sent) (s : State) : (s.send o).tables = s.tables := rfl
@[simp] theorem send_cip (o : Sent) (s : State) : (s.send o).cip = s.cip := rfl
@[simp] theorem send_hkm (o : Sent) (s : State) : (s.send o).hkm = s.hkm := rfl
@[simp] theorem send_glu (o : Sent) (s : State) : (s.send o).glu = s.glu := rfl
@[simp] theorem send_fcu (o : Sent) (s : State) : (s.send o).fcu = s.fcu := rfl
@[simp] theorem send_cpe (o : Sent) (s : State) : (s.send o).cpe = s.cpe := rfl
@[simp] theorem send_fmn (o : Sent) (s : State) : (s.send o).fmn = s.fmn := rfl
@[simp] theorem send_xpc (o : Sent) (s : State) : (s.send o).xpc = s.xpc := rfl
@[simp] theorem send_dms (o : Sent) (s : State) : (s.send o).dms = s.dms := rfl
@[simp] theorem send_sou (o : Sent) (s : State) : (s.send o).sou = s.sou := rfl
@[simp] theorem send_wkc (o : Sent) (s : State) : (s.send o).wkc = s.wkc := rfl
@[simp] theorem send_mfe (o : Sent) (s : State) : (s.send o).mfe = s.mfe := rfl

/-! ## reach -/

@[simp] theorem reach_pending (n : Nat) (s : State) : (s.reach n).pending = s.pending := rfl
@[simp] theorem reach_handoffs (n : Nat) (s : State) : (s.reach n).handoffs = s.handoffs := rfl
@[simp] theorem reach_choices (n : Nat) (s : State) : (s.reach n).choices = s.choices := rfl
@[simp] theorem reach_timebase (n : Nat) (s : State) : (s.reach n).timebase = max s.timebase n := rfl
@[simp] theorem reach_sent (n : Nat) (s : State) : (s.reach n).sent = s.sent := rfl
@[simp] theorem reach_loading (n : Nat) (s : State) : (s.reach n).loading = s.loading := rfl
@[simp] theorem reach_memory (n : Nat) (s : State) : (s.reach n).memory = s.memory := rfl
@[simp] theorem reach_tables (n : Nat) (s : State) : (s.reach n).tables = s.tables := rfl
@[simp] theorem reach_cip (n : Nat) (s : State) : (s.reach n).cip = s.cip := rfl
@[simp] theorem reach_hkm (n : Nat) (s : State) : (s.reach n).hkm = s.hkm := rfl
@[simp] theorem reach_glu (n : Nat) (s : State) : (s.reach n).glu = s.glu := rfl
@[simp] theorem reach_fcu (n : Nat) (s : State) : (s.reach n).fcu = s.fcu := rfl
@[simp] theorem reach_cpe (n : Nat) (s : State) : (s.reach n).cpe = s.cpe := rfl
@[simp] theorem reach_fmn (n : Nat) (s : State) : (s.reach n).fmn = s.fmn := rfl
@[simp] theorem reach_xpc (n : Nat) (s : State) : (s.reach n).xpc = s.xpc := rfl
@[simp] theorem reach_dms (n : Nat) (s : State) : (s.reach n).dms = s.dms := rfl
@[simp] theorem reach_sou (n : Nat) (s : State) : (s.reach n).sou = s.sou := rfl
@[simp] theorem reach_wkc (n : Nat) (s : State) : (s.reach n).wkc = s.wkc := rfl
@[simp] theorem reach_mfe (n : Nat) (s : State) : (s.reach n).mfe = s.mfe := rfl

/-! ## modCounters -/

@[simp] theorem modCounters_pending (p : Port) (f : PortCounters → PortCounters) (s : State) : (s.modCounters p f).pending = s.pending := rfl
@[simp] theorem modCounters_handoffs (p : Port) (f : PortCounters → PortCounters) (s : State) : (s.modCounters p f).handoffs = s.handoffs := rfl
@[simp] theorem modCounters_choices (p : Port) (f : PortCounters → PortCounters) (s : State) : (s.modCounters p f).choices = s.choices := rfl
@[simp] theorem modCounters_timebase (p : Port) (f : PortCounters → PortCounters) (s : State) : (s.modCounters p f).timebase = s.timebase := rfl
@[simp] theorem modCounters_sent (p : Port) (f : PortCounters → PortCounters) (s : State) : (s.modCounters p f).sent = s.sent := rfl
@[simp] theorem modCounters_loading (p : Port) (f : PortCounters → PortCounters) (s : State) : (s.modCounters p f).loading = s.loading := rfl
@[simp] theorem modCounters_memory (p : Port) (f : PortCounters → PortCounters) (s : State) : (s.modCounters p f).memory = s.memory := rfl
@[simp] theorem modCounters_tables (p : Port) (f : PortCounters → PortCounters) (s : State) : (s.modCounters p f).tables = s.tables := rfl
@[simp] theorem modCounters_cip (p : Port) (f : PortCounters → PortCounters) (s : State) : (s.modCounters p f).cip = s.cip := rfl
@[simp] theorem modCounters_hkm (p : Port) (f : PortCounters → PortCounters) (s : State) : (s.modCounters p f).hkm = s.hkm := rfl
@[simp] theorem modCounters_glu (p : Port) (f : PortCounters → PortCounters) (s : State) : (s.modCounters p f).glu = s.glu := rfl
@[simp] theorem modCounters_fcu (p : Port) (f : PortCounters → PortCounters) (s : State) : (s.modCounters p f).fcu = s.fcu := rfl
@[simp] theorem modCounters_cpe (p : Port) (f : PortCounters → PortCounters) (s : State) : (s.modCounters p f).cpe = s.cpe.upd p (fun e => { e with counters := f e.counters }) := rfl
@[simp] theorem modCounters_fmn (p : Port) (f : PortCounters → PortCounters) (s : State) : (s.modCounters p f).fmn = s.fmn := rfl
@[simp] theorem modCounters_xpc (p : Port) (f : PortCounters → PortCounters) (s : State) : (s.modCounters p f).xpc = s.xpc := rfl
@[simp] theorem modCounters_dms (p : Port) (f : PortCounters → PortCounters) (s : State) : (s.modCounters p f).dms = s.dms := rfl
@[simp] theorem modCounters_sou (p : Port) (f : PortCounters → PortCounters) (s : State) : (s.modCounters p f).sou = s.sou := rfl
@[simp] theorem modCounters_wkc (p : Port) (f : PortCounters → PortCounters) (s : State) : (s.modCounters p f).wkc = s.wkc := rfl
@[simp] theorem modCounters_mfe (p : Port) (f : PortCounters → PortCounters) (s : State) : (s.modCounters p f).mfe = s.mfe := rfl

end Sys2Proof.Machine
end

