-- ==== Sys2Proof/Laws/Frames.lean ====
section
/-!
SUPPORT. What each operation leaves alone: an operation that touches only the listed fields of State does not disturb a frame
that lists them. Each lemma is a simp rule, so that `simp` walks back through the operations of a meaning.
-/

namespace Sys2Proof.Machine

/-! ## Frames -/

@[simp] theorem Keeps.refl (l : List StateField) (s : State) : Keeps l s s := by
  intro f _
  cases f <;> rfl

theorem Keeps.trans {l : List StateField} {s t u : State} (h : Keeps l s t) (k : Keeps l t u) : Keeps l s u := by
  intro f hf
  have h1 := h f hf
  have h2 := k f hf
  cases f <;> exact Eq.trans h2 h1

/-- An operation that touches only fields that a frame lists does not disturb the frame. -/
theorem keeps_iff_of {l m : List StateField} {s x y : State} (k : Keeps l x y) (h : l ⊆ m) :
    Keeps m s y ↔ Keeps m s x := by
  constructor
  · intro hy f hf
    have h1 := hy f hf
    have h2 := k f (fun hl => hf (h hl))
    cases f <;> exact Eq.trans (Eq.symm h2) h1
  · intro hx f hf
    have h1 := hx f hf
    have h2 := k f (fun hl => hf (h hl))
    cases f <;> exact Eq.trans h2 h1

theorem Keeps.mono {l m : List StateField} {s t : State} (k : Keeps l s t) (h : l ⊆ m) : Keeps m s t :=
  (keeps_iff_of k h).mpr (Keeps.refl m s)

@[simp] theorem keeps_ite {m : List StateField} {s x y : State} {c : Prop} [Decidable c] :
    Keeps m s (if c then x else y) ↔ if c then Keeps m s x else Keeps m s y := by
  split <;> rfl

/-- A fold whose every step leaves a frame undisturbed leaves it undisturbed. -/
@[simp] theorem keeps_foldl {α : Type} {m : List StateField} {s : State} {f : State → α → State}
    (h : ∀ b a, Keeps m s (f b a) ↔ Keeps m s b) (l : List α) (x : State) :
    Keeps m s (l.foldl f x) ↔ Keeps m s x := by
  induction l generalizing x with
  | nil => rfl
  | cons a as ih => rw [List.foldl_cons, ih, h]

/-! ## The named updates -/

@[simp] theorem keeps_modCip {m : List StateField} (h : [.cip] ⊆ m) (g : Cip → Cip) (s x : State) :
    Keeps m s (x.modCip g) ↔ Keeps m s x :=
  keeps_iff_of (l := [.cip]) (by intro f hf; cases f <;> first | rfl | exact absurd (by decide) hf) h

@[simp] theorem keeps_modHkm {m : List StateField} (h : [.hkm] ⊆ m) (g : Hkm → Hkm) (s x : State) :
    Keeps m s (x.modHkm g) ↔ Keeps m s x :=
  keeps_iff_of (l := [.hkm]) (by intro f hf; cases f <;> first | rfl | exact absurd (by decide) hf) h

@[simp] theorem keeps_modGlu {m : List StateField} (h : [.glu] ⊆ m) (g : Glu → Glu) (s x : State) :
    Keeps m s (x.modGlu g) ↔ Keeps m s x :=
  keeps_iff_of (l := [.glu]) (by intro f hf; cases f <;> first | rfl | exact absurd (by decide) hf) h

@[simp] theorem keeps_modFcu {m : List StateField} (h : [.fcu] ⊆ m) (g : Fcu → Fcu) (s x : State) :
    Keeps m s (x.modFcu g) ↔ Keeps m s x :=
  keeps_iff_of (l := [.fcu]) (by intro f hf; cases f <;> first | rfl | exact absurd (by decide) hf) h

@[simp] theorem keeps_modCpe {m : List StateField} (h : [.cpe] ⊆ m) (p : Port) (g : Cpe → Cpe) (s x : State) :
    Keeps m s (x.modCpe p g) ↔ Keeps m s x :=
  keeps_iff_of (l := [.cpe]) (by intro f hf; cases f <;> first | rfl | exact absurd (by decide) hf) h

@[simp] theorem keeps_modFmn {m : List StateField} (h : [.fmn] ⊆ m) (v : Source) (g : Fmn → Fmn) (s x : State) :
    Keeps m s (x.modFmn v g) ↔ Keeps m s x :=
  keeps_iff_of (l := [.fmn]) (by intro f hf; cases f <;> first | rfl | exact absurd (by decide) hf) h

@[simp] theorem keeps_modXpc {m : List StateField} (h : [.xpc] ⊆ m) (g : Xpc → Xpc) (s x : State) :
    Keeps m s (x.modXpc g) ↔ Keeps m s x :=
  keeps_iff_of (l := [.xpc]) (by intro f hf; cases f <;> first | rfl | exact absurd (by decide) hf) h

@[simp] theorem keeps_modRoute {m : List StateField} (h : [.xpc] ⊆ m) (sc : Screen) (g : RouteRecord → RouteRecord) (s x : State) :
    Keeps m s (x.modRoute sc g) ↔ Keeps m s x :=
  keeps_iff_of (l := [.xpc]) (by intro f hf; cases f <;> first | rfl | exact absurd (by decide) hf) h

@[simp] theorem keeps_modDms {m : List StateField} (h : [.dms] ⊆ m) (sc : Screen) (g : Dms → Dms) (s x : State) :
    Keeps m s (x.modDms sc g) ↔ Keeps m s x :=
  keeps_iff_of (l := [.dms]) (by intro f hf; cases f <;> first | rfl | exact absurd (by decide) hf) h

@[simp] theorem keeps_modSou {m : List StateField} (h : [.sou] ⊆ m) (o : ShareOut) (g : ShareRecord → ShareRecord) (s x : State) :
    Keeps m s (x.modSou o g) ↔ Keeps m s x :=
  keeps_iff_of (l := [.sou]) (by intro f hf; cases f <;> first | rfl | exact absurd (by decide) hf) h

@[simp] theorem keeps_modWkc {m : List StateField} (h : [.wkc] ⊆ m) (g : Wkc → Wkc) (s x : State) :
    Keeps m s (x.modWkc g) ↔ Keeps m s x :=
  keeps_iff_of (l := [.wkc]) (by intro f hf; cases f <;> first | rfl | exact absurd (by decide) hf) h

@[simp] theorem keeps_modWake {m : List StateField} (h : [.wkc] ⊆ m) (p : Port) (g : WakeRecord → WakeRecord) (s x : State) :
    Keeps m s (x.modWake p g) ↔ Keeps m s x :=
  keeps_iff_of (l := [.wkc]) (by intro f hf; cases f <;> first | rfl | exact absurd (by decide) hf) h

@[simp] theorem keeps_modPower {m : List StateField} (h : [.wkc] ⊆ m) (sc : Screen) (g : PowerRecord → PowerRecord) (s x : State) :
    Keeps m s (x.modPower sc g) ↔ Keeps m s x :=
  keeps_iff_of (l := [.wkc]) (by intro f hf; cases f <;> first | rfl | exact absurd (by decide) hf) h

@[simp] theorem keeps_modMfe {m : List StateField} (h : [.mfe] ⊆ m) (g : Mfe → Mfe) (s x : State) :
    Keeps m s (x.modMfe g) ↔ Keeps m s x :=
  keeps_iff_of (l := [.mfe]) (by intro f hf; cases f <;> first | rfl | exact absurd (by decide) hf) h

@[simp] theorem keeps_modTables {m : List StateField} (h : [.tables] ⊆ m) (g : Tables → Tables) (s x : State) :
    Keeps m s (x.modTables g) ↔ Keeps m s x :=
  keeps_iff_of (l := [.tables]) (by intro f hf; cases f <;> first | rfl | exact absurd (by decide) hf) h

@[simp] theorem keeps_hand {m : List StateField} (h : [.handoffs] ⊆ m) (b : Block) (c : Instr) (s x : State) :
    Keeps m s (x.hand b c) ↔ Keeps m s x :=
  keeps_iff_of (l := [.handoffs]) (by intro f hf; cases f <;> first | rfl | exact absurd (by decide) hf) h

@[simp] theorem keeps_raise {m : List StateField} (h : [.handoffs] ⊆ m) (b : Block) (k : NoticeKind) (s x : State) :
    Keeps m s (x.raise b k) ↔ Keeps m s x :=
  keeps_iff_of (l := [.handoffs]) (by intro f hf; cases f <;> first | rfl | exact absurd (by decide) hf) h

@[simp] theorem keeps_taking {m : List StateField} (h : [.handoffs] ⊆ m) (c : Instr) (s x : State) :
    Keeps m s (x.taking c) ↔ Keeps m s x :=
  keeps_iff_of (l := [.handoffs]) (by intro f hf; cases f <;> first | rfl | exact absurd (by decide) hf) h

@[simp] theorem keeps_send {m : List StateField} (h : [.sent] ⊆ m) (o : Sent) (s x : State) :
    Keeps m s (x.send o) ↔ Keeps m s x :=
  keeps_iff_of (l := [.sent]) (by intro f hf; cases f <;> first | rfl | exact absurd (by decide) hf) h

@[simp] theorem keeps_reach {m : List StateField} (h : [.timebase] ⊆ m) (n : Nat) (s x : State) :
    Keeps m s (x.reach n) ↔ Keeps m s x :=
  keeps_iff_of (l := [.timebase]) (by intro f hf; cases f <;> first | rfl | exact absurd (by decide) hf) h

@[simp] theorem keeps_modCounters {m : List StateField} (h : [.cpe] ⊆ m) (p : Port) (g : PortCounters → PortCounters) (s x : State) :
    Keeps m s (x.modCounters p g) ↔ Keeps m s x :=
  keeps_iff_of (l := [.cpe]) (by intro f hf; cases f <;> first | rfl | exact absurd (by decide) hf) h

/-! ## Shared operations -/

@[simp] theorem keeps_handEachScreen {m : List StateField} (h : [.handoffs] ⊆ m) (b : Block) (c : Screen → Instr) (s x : State) :
    Keeps m s (x.handEachScreen b c) ↔ Keeps m s x := by
  simp only [List.cons_subset, List.nil_subset, and_true] at h
  unfold State.handEachScreen
  simp [h]

@[simp] theorem keeps_clearCounters {m : List StateField} (h : [.cpe, .hkm, .xpc] ⊆ m) (s x : State) :
    Keeps m s (x.clearCounters) ↔ Keeps m s x := by
  simp only [List.cons_subset, List.nil_subset, and_true] at h
  unfold State.clearCounters
  simp [h]

@[simp] theorem keeps_sendFrame {m : List StateField} (h : [.sent] ⊆ m) (p : Port) (b : List Byte) (s x : State) :
    Keeps m s (x.sendFrame p b) ↔ Keeps m s x := by
  simp only [List.cons_subset, List.nil_subset, and_true] at h
  unfold State.sendFrame
  try dsimp only
  (repeat' split) <;> simp [h]

@[simp] theorem keeps_noticeReports {m : List StateField} (h : [.sent] ⊆ m) (s x : State) :
    Keeps m s (x.noticeReports) ↔ Keeps m s x := by
  simp only [List.cons_subset, List.nil_subset, and_true] at h
  unfold State.noticeReports
  refine keeps_foldl (fun b a => ?_) _ _
  split <;> simp [h]

@[simp] theorem keeps_noticeCatchUp {m : List StateField} (h : [.sent] ⊆ m) (p : Port) (s x : State) :
    Keeps m s (x.noticeCatchUp p) ↔ Keeps m s x := by
  simp only [List.cons_subset, List.nil_subset, and_true] at h
  unfold State.noticeCatchUp
  try dsimp only
  (repeat' split) <;> simp [h]

/-! ## Console Input Port -/

@[simp] theorem keeps_sendLed {m : List StateField} (h : [.sent, .cip] ⊆ m) (s x : State) :
    Keeps m s (x.sendLed) ↔ Keeps m s x := by
  simp only [List.cons_subset, List.nil_subset, and_true] at h
  unfold State.sendLed
  simp [h]

@[simp] theorem keeps_ledUpdate {m : List StateField} (h : [.sent, .cip] ⊆ m) (s x : State) :
    Keeps m s (ledUpdate x) ↔ Keeps m s x := by
  simp only [List.cons_subset, List.nil_subset, and_true] at h
  unfold ledUpdate
  try dsimp only
  (repeat' split) <;> simp [h]

@[simp] theorem keeps_takeLedTrigger {m : List StateField} (h : [.sent, .cip] ⊆ m) (c : LedCause) (s x : State) :
    Keeps m s (takeLedTrigger c x) ↔ Keeps m s x := by
  simp only [List.cons_subset, List.nil_subset, and_true] at h
  unfold takeLedTrigger
  try dsimp only
  (repeat' split) <;> simp [h]

@[simp] theorem keeps_emitKeyEvent {m : List StateField} (h : [.handoffs, .cip] ⊆ m) (k : Key) (b : Bool) (s x : State) :
    Keeps m s (emitKeyEvent k b x) ↔ Keeps m s x := by
  simp only [List.cons_subset, List.nil_subset, and_true] at h
  unfold emitKeyEvent
  try dsimp only
  (repeat' split) <;> simp [h]

@[simp] theorem keeps_matcherIdle {m : List StateField} (h : [.handoffs, .hkm] ⊆ m) (s x : State) :
    Keeps m s (matcherIdle x) ↔ Keeps m s x := by
  simp only [List.cons_subset, List.nil_subset, and_true] at h
  unfold matcherIdle
  simp [h]

@[simp] theorem keeps_matcherDetached {m : List StateField} (h : [.handoffs, .hkm] ⊆ m) (s x : State) :
    Keeps m s (matcherDetached x) ↔ Keeps m s x := by
  simp only [List.cons_subset, List.nil_subset, and_true] at h
  unfold matcherDetached
  simp [h]

@[simp] theorem keeps_takeIndications {m : List StateField} (h : [.handoffs, .hkm] ⊆ m) (s x : State) :
    Keeps m s (takeIndications x) ↔ Keeps m s x := by
  simp only [List.cons_subset, List.nil_subset, and_true] at h
  have hh : ∀ (y : State) (l : List Handoff), Keeps m s { y with handoffs := l } ↔ Keeps m s y := fun y l =>
    keeps_iff_of (l := [.handoffs]) (by intro f hf; cases f <;> first | rfl | exact absurd (by decide) hf) (by simp [h])
  unfold takeIndications
  split <;> simp [h, hh]

@[simp] theorem keeps_takeBaseline {m : List StateField} (h : [.handoffs, .cip, .hkm] ⊆ m) (l : KeySet) (s x : State) :
    Keeps m s (takeBaseline l x) ↔ Keeps m s x := by
  simp only [List.cons_subset, List.nil_subset, and_true] at h
  unfold takeBaseline
  simp [h]

@[simp] theorem keeps_compareReport {m : List StateField} (h : [.handoffs, .cip, .hkm] ⊆ m) (r : KeyboardReport) (s x : State) :
    Keeps m s (compareReport r x) ↔ Keeps m s x := by
  simp only [List.cons_subset, List.nil_subset, and_true] at h
  unfold compareReport
  try dsimp only
  (repeat' split) <;> simp [h]

@[simp] theorem keeps_takeDetach {m : List StateField} (h : [.cip] ⊆ m) (s x : State) :
    Keeps m s (takeDetach x) ↔ Keeps m s x := by
  simp only [List.cons_subset, List.nil_subset, and_true] at h
  unfold takeDetach
  try dsimp only
  (repeat' split) <;> simp [h]

@[simp] theorem keeps_endDetach {m : List StateField} (h : [.handoffs, .cip] ⊆ m) (s x : State) :
    Keeps m s (endDetach x) ↔ Keeps m s x := by
  simp only [List.cons_subset, List.nil_subset, and_true] at h
  unfold endDetach
  simp [h]

@[simp] theorem keeps_takeAttach {m : List StateField} (h : [.sent, .cip] ⊆ m) (s x : State) :
    Keeps m s (takeAttach x) ↔ Keeps m s x := by
  simp only [List.cons_subset, List.nil_subset, and_true] at h
  unfold takeAttach
  try dsimp only
  (repeat' split) <;> simp [h]

@[simp] theorem keeps_consoleRun {m : List StateField} (h : [.handoffs, .sent, .cip, .hkm] ⊆ m) (n : Nat) (s x : State) :
    Keeps m s (consoleRun n x) ↔ Keeps m s x := by
  simp only [List.cons_subset, List.nil_subset, and_true] at h
  induction n generalizing x with
  | zero => rfl
  | succ n ih =>
    unfold consoleRun
    (repeat' split) <;> simp [ih, h]

@[simp] theorem keeps_consoleSettles {m : List StateField} (h : [.handoffs, .sent, .cip, .hkm] ⊆ m) (s x : State) :
    Keeps m s (consoleSettles x) ↔ Keeps m s x := by
  simp only [List.cons_subset, List.nil_subset, and_true] at h
  unfold consoleSettles
  simp [h]

@[simp] theorem keeps_emitNext {m : List StateField} (h : [.handoffs, .cip] ⊆ m) (s x : State) :
    Keeps m s (emitNext x) ↔ Keeps m s x := by
  simp only [List.cons_subset, List.nil_subset, and_true] at h
  unfold emitNext
  (repeat' split) <;> simp [h]

@[simp] theorem keeps_consoleGoesOn {m : List StateField} (h : [.handoffs, .sent, .cip, .hkm] ⊆ m) (s x : State) :
    Keeps m s (consoleGoesOn x) ↔ Keeps m s x := by
  simp only [List.cons_subset, List.nil_subset, and_true] at h
  unfold consoleGoesOn
  simp [h]

@[simp] theorem keeps_consoleAdd {m : List StateField} (h : [.handoffs, .sent, .cip, .hkm] ⊆ m) (w : ConsoleWork) (s x : State) :
    Keeps m s (consoleAdd w x) ↔ Keeps m s x := by
  simp only [List.cons_subset, List.nil_subset, and_true] at h
  unfold consoleAdd
  simp [h]

@[simp] theorem keeps_takePointerReport {m : List StateField} (h : [.handoffs, .cip] ⊆ m) (r : ConsolePointerReport) (s x : State) :
    Keeps m s (takePointerReport r x) ↔ Keeps m s x := by
  simp only [List.cons_subset, List.nil_subset, and_true] at h
  unfold takePointerReport
  try dsimp only
  (repeat' split) <;> simp [h]

@[simp] theorem keeps_detachPointer {m : List StateField} (h : [.handoffs, .cip] ⊆ m) (s x : State) :
    Keeps m s (detachPointer x) ↔ Keeps m s x := by
  simp only [List.cons_subset, List.nil_subset, and_true] at h
  unfold detachPointer
  try dsimp only
  (repeat' split) <;> simp [h]

@[simp] theorem keeps_attachPointer {m : List StateField} (h : [.cip] ⊆ m) (s x : State) :
    Keeps m s (attachPointer x) ↔ Keeps m s x := by
  simp only [List.cons_subset, List.nil_subset, and_true] at h
  unfold attachPointer
  try dsimp only
  (repeat' split) <;> simp [h]

/-! ## Hotkey Matcher -/

@[simp] theorem keeps_fireAction {m : List StateField} (h : [.handoffs] ⊆ m) (n : EntryNo) (b : Bool) (a : Action) (s x : State) :
    Keeps m s (fireAction n b a x) ↔ Keeps m s x := by
  simp only [List.cons_subset, List.nil_subset, and_true] at h
  unfold fireAction
  try dsimp only
  (repeat' split) <;> simp [h]

@[simp] theorem keeps_revertAction {m : List StateField} (h : [.handoffs] ⊆ m) (n : EntryNo) (a : Action) (s x : State) :
    Keeps m s (revertAction n a x) ↔ Keeps m s x := by
  simp only [List.cons_subset, List.nil_subset, and_true] at h
  unfold revertAction
  try dsimp only
  (repeat' split) <;> simp [h]

@[simp] theorem keeps_passEvent {m : List StateField} (h : [.handoffs] ⊆ m) (k : Key) (b : Bool) (s x : State) :
    Keeps m s (passEvent k b x) ↔ Keeps m s x := by
  simp only [List.cons_subset, List.nil_subset, and_true] at h
  unfold passEvent
  simp [h]

@[simp] theorem keeps_deliverBuffer {m : List StateField} (h : [.handoffs, .hkm] ⊆ m) (s x : State) :
    Keeps m s (deliverBuffer x) ↔ Keeps m s x := by
  simp only [List.cons_subset, List.nil_subset, and_true] at h
  unfold deliverBuffer
  simp [h]

@[simp] theorem keeps_consumeKey {m : List StateField} (h : [.handoffs, .hkm] ⊆ m) (k : Key) (s x : State) :
    Keeps m s (consumeKey k x) ↔ Keeps m s x := by
  simp only [List.cons_subset, List.nil_subset, and_true] at h
  unfold consumeKey
  simp [h]

@[simp] theorem keeps_enterSequence {m : List StateField} (h : [.handoffs, .hkm] ⊆ m) (s x : State) :
    Keeps m s (enterSequence x) ↔ Keeps m s x := by
  simp only [List.cons_subset, List.nil_subset, and_true] at h
  unfold enterSequence
  simp [h]

@[simp] theorem keeps_enterCounting {m : List StateField} (h : [.handoffs, .hkm] ⊆ m) (k : Key) (s x : State) :
    Keeps m s (enterCounting k x) ↔ Keeps m s x := by
  simp only [List.cons_subset, List.nil_subset, and_true] at h
  unfold enterCounting
  simp [h]

@[simp] theorem keeps_enterHolding {m : List StateField} (h : [.handoffs, .hkm] ⊆ m) (n : EntryNo) (e : HotkeyEntry) (s x : State) :
    Keeps m s (enterHolding n e x) ↔ Keeps m s x := by
  simp only [List.cons_subset, List.nil_subset, and_true] at h
  unfold enterHolding
  simp [h]

@[simp] theorem keeps_matchedPress {m : List StateField} (h : [.handoffs, .hkm] ⊆ m) (n : EntryNo) (k : Key) (s x : State) :
    Keeps m s (matchedPress n k x) ↔ Keeps m s x := by
  simp only [List.cons_subset, List.nil_subset, and_true] at h
  unfold matchedPress
  try dsimp only
  (repeat' split) <;> simp [h]

@[simp] theorem keeps_pressIdle {m : List StateField} (h : [.handoffs, .hkm] ⊆ m) (k : Key) (l : KeySet) (s x : State) :
    Keeps m s (pressIdle k l x) ↔ Keeps m s x := by
  simp only [List.cons_subset, List.nil_subset, and_true] at h
  unfold pressIdle
  try dsimp only
  (repeat' split) <;> simp [h]

@[simp] theorem keeps_pressCounting {m : List StateField} (h : [.handoffs, .hkm] ⊆ m) (k : Key) (l : KeySet) (s x : State) :
    Keeps m s (pressCounting k l x) ↔ Keeps m s x := by
  simp only [List.cons_subset, List.nil_subset, and_true] at h
  unfold pressCounting
  try dsimp only
  (repeat' split) <;> simp [h]

@[simp] theorem keeps_pressSequence {m : List StateField} (h : [.handoffs, .hkm] ⊆ m) (k : Key) (l : KeySet) (s x : State) :
    Keeps m s (pressSequence k l x) ↔ Keeps m s x := by
  simp only [List.cons_subset, List.nil_subset, and_true] at h
  unfold pressSequence
  try dsimp only
  (repeat' split) <;> simp [h]

@[simp] theorem keeps_fireHoldingTap {m : List StateField} (h : [.handoffs, .hkm] ⊆ m) (s x : State) :
    Keeps m s (fireHoldingTap x) ↔ Keeps m s x := by
  simp only [List.cons_subset, List.nil_subset, and_true] at h
  unfold fireHoldingTap
  try dsimp only
  (repeat' split) <;> simp [h]

@[simp] theorem keeps_pressHolding {m : List StateField} (h : [.handoffs, .hkm] ⊆ m) (k : Key) (l : KeySet) (s x : State) :
    Keeps m s (pressHolding k l x) ↔ Keeps m s x := by
  simp only [List.cons_subset, List.nil_subset, and_true] at h
  unfold pressHolding
  try dsimp only
  (repeat' split) <;> simp [h]

@[simp] theorem keeps_takePress {m : List StateField} (h : [.handoffs, .hkm] ⊆ m) (k : Key) (l : KeySet) (s x : State) :
    Keeps m s (takePress k l x) ↔ Keeps m s x := by
  simp only [List.cons_subset, List.nil_subset, and_true] at h
  unfold takePress
  try dsimp only
  (repeat' split) <;> simp [h]

@[simp] theorem keeps_endHold {m : List StateField} (h : [.handoffs, .hkm] ⊆ m) (k : Key) (s x : State) :
    Keeps m s (endHold k x) ↔ Keeps m s x := by
  simp only [List.cons_subset, List.nil_subset, and_true] at h
  unfold endHold
  try dsimp only
  (repeat' split) <;> simp [h]

@[simp] theorem keeps_takeRelease {m : List StateField} (h : [.handoffs, .hkm] ⊆ m) (k : Key) (s x : State) :
    Keeps m s (takeRelease k x) ↔ Keeps m s x := by
  simp only [List.cons_subset, List.nil_subset, and_true] at h
  unfold takeRelease
  try dsimp only
  (repeat' split) <;> simp [h]

@[simp] theorem keeps_takeKeyEvent {m : List StateField} (h : [.handoffs, .hkm] ⊆ m) (e : KeyEvent) (s x : State) :
    Keeps m s (takeKeyEvent e x) ↔ Keeps m s x := by
  simp only [List.cons_subset, List.nil_subset, and_true] at h
  unfold takeKeyEvent
  try dsimp only
  (repeat' split) <;> simp [h]

@[simp] theorem keeps_tapWindowExpires {m : List StateField} (h : [.handoffs, .hkm] ⊆ m) (s x : State) :
    Keeps m s (tapWindowExpires x) ↔ Keeps m s x := by
  simp only [List.cons_subset, List.nil_subset, and_true] at h
  unfold tapWindowExpires
  try dsimp only
  (repeat' split) <;> simp [h]

@[simp] theorem keeps_sequenceExpires {m : List StateField} (h : [.handoffs, .hkm] ⊆ m) (s x : State) :
    Keeps m s (sequenceExpires x) ↔ Keeps m s x := by
  simp only [List.cons_subset, List.nil_subset, and_true] at h
  unfold sequenceExpires
  try dsimp only
  (repeat' split) <;> simp [h]

@[simp] theorem keeps_holdExpires {m : List StateField} (h : [.handoffs, .hkm] ⊆ m) (s x : State) :
    Keeps m s (holdExpires x) ↔ Keeps m s x := by
  simp only [List.cons_subset, List.nil_subset, and_true] at h
  unfold holdExpires
  try dsimp only
  (repeat' split) <;> simp [h]

@[simp] theorem keeps_matcherTablesChanged {m : List StateField} (h : [.handoffs, .hkm] ⊆ m) (s x : State) :
    Keeps m s (matcherTablesChanged x) ↔ Keeps m s x := by
  simp only [List.cons_subset, List.nil_subset, and_true] at h
  unfold matcherTablesChanged
  try dsimp only
  (repeat' split) <;> simp [h]

@[simp] theorem keeps_matcherRestart {m : List StateField} (h : [.handoffs, .hkm] ⊆ m) (l : KeySet) (s x : State) :
    Keeps m s (matcherRestart l x) ↔ Keeps m s x := by
  simp only [List.cons_subset, List.nil_subset, and_true] at h
  unfold matcherRestart
  simp [h]

@[simp] theorem keeps_takeConsume {m : List StateField} (h : [.handoffs, .hkm] ⊆ m) (k : Key) (s x : State) :
    Keeps m s (takeConsume k x) ↔ Keeps m s x := by
  simp only [List.cons_subset, List.nil_subset, and_true] at h
  unfold takeConsume
  try dsimp only
  (repeat' split) <;> simp [h]

/-! ## Computer Port Engines -/

@[simp] theorem keeps_startStall {m : List StateField} (h : [.cpe] ⊆ m) (p : Port) (s x : State) :
    Keeps m s (startStall p x) ↔ Keeps m s x := by
  simp only [List.cons_subset, List.nil_subset, and_true] at h
  unfold startStall
  simp [h]

@[simp] theorem keeps_startStallIf {m : List StateField} (h : [.cpe] ⊆ m) (e : Cpe) (p : Port) (s x : State) :
    Keeps m s (startStallIf e p x) ↔ Keeps m s x := by
  simp only [List.cons_subset, List.nil_subset, and_true] at h
  unfold startStallIf
  try dsimp only
  (repeat' split) <;> simp [h]

@[simp] theorem keeps_queueSnapshot {m : List StateField} (h : [.handoffs, .cpe] ⊆ m) (p : Port) (q : Snapshot) (s x : State) :
    Keeps m s (queueSnapshot p q x) ↔ Keeps m s x := by
  simp only [List.cons_subset, List.nil_subset, and_true] at h
  unfold queueSnapshot
  try dsimp only
  (repeat' split) <;> simp [h]

@[simp] theorem keeps_queueReport {m : List StateField} (h : [.handoffs, .cpe] ⊆ m) (p : Port) (r : PointerReport) (s x : State) :
    Keeps m s (queueReport p r x) ↔ Keeps m s x := by
  simp only [List.cons_subset, List.nil_subset, and_true] at h
  unfold queueReport
  try dsimp only
  (repeat' split) <;> simp [h]

@[simp] theorem keeps_moveLink {m : List StateField} (h : [.handoffs, .cpe] ⊆ m) (p : Port) (st : LinkState) (s x : State) :
    Keeps m s (moveLink p st x) ↔ Keeps m s x := by
  simp only [List.cons_subset, List.nil_subset, and_true] at h
  unfold moveLink
  try dsimp only
  (repeat' split) <;> simp [h]

@[simp] theorem keeps_frontSnapshot {m : List StateField} (h : [.cpe] ⊆ m) (p : Port) (s x : State) :
    Keeps m s (frontSnapshot p x) ↔ Keeps m s x := by
  simp only [List.cons_subset, List.nil_subset, and_true] at h
  unfold frontSnapshot
  simp [h]

@[simp] theorem keeps_frontReport {m : List StateField} (h : [.cpe] ⊆ m) (p : Port) (s x : State) :
    Keeps m s (frontReport p x) ↔ Keeps m s x := by
  simp only [List.cons_subset, List.nil_subset, and_true] at h
  unfold frontReport
  try dsimp only
  (repeat' split) <;> simp [h]

@[simp] theorem keeps_frontStall {m : List StateField} (h : [.cpe] ⊆ m) (p : Port) (s x : State) :
    Keeps m s (frontStall p x) ↔ Keeps m s x := by
  simp only [List.cons_subset, List.nil_subset, and_true] at h
  unfold frontStall
  try dsimp only
  (repeat' split) <;> simp [h]

@[simp] theorem keeps_enterActive {m : List StateField} (h : [.handoffs, .sent, .cpe] ⊆ m) (p : Port) (s x : State) :
    Keeps m s (enterActive p x) ↔ Keeps m s x := by
  simp only [List.cons_subset, List.nil_subset, and_true] at h
  unfold enterActive
  simp [h]

@[simp] theorem keeps_enterSettling {m : List StateField} (h : [.handoffs, .sent, .cpe] ⊆ m) (p : Port) (s x : State) :
    Keeps m s (enterSettling p x) ↔ Keeps m s x := by
  simp only [List.cons_subset, List.nil_subset, and_true] at h
  unfold enterSettling
  try dsimp only
  (repeat' split) <;> simp [h]

@[simp] theorem keeps_setUpSets {m : List StateField} (h : [.cpe] ⊆ m) (p : Port) (s x : State) :
    Keeps m s (setUpSets p x) ↔ Keeps m s x := by
  simp only [List.cons_subset, List.nil_subset, and_true] at h
  unfold setUpSets
  simp [h]

@[simp] theorem keeps_retake {m : List StateField} (h : [.handoffs, .sent, .cpe] ⊆ m) (p : Port) (s x : State) :
    Keeps m s (retake p x) ↔ Keeps m s x := by
  simp only [List.cons_subset, List.nil_subset, and_true] at h
  unfold retake
  try dsimp only
  (repeat' split) <;> simp [h]

@[simp] theorem keeps_detachPort {m : List StateField} (h : [.handoffs, .cpe] ⊆ m) (p : Port) (s x : State) :
    Keeps m s (detachPort p x) ↔ Keeps m s x := by
  simp only [List.cons_subset, List.nil_subset, and_true] at h
  unfold detachPort
  simp [h]

@[simp] theorem keeps_setLamps {m : List StateField} (h : [.handoffs, .cpe] ⊆ m) (p : Port) (l : Lamps) (s x : State) :
    Keeps m s (setLamps p l x) ↔ Keeps m s x := by
  simp only [List.cons_subset, List.nil_subset, and_true] at h
  unfold setLamps
  try dsimp only
  (repeat' split) <;> simp [h]

@[simp] theorem keeps_linkDown {m : List StateField} (h : [.handoffs, .cpe] ⊆ m) (p : Port) (s x : State) :
    Keeps m s (linkDown p x) ↔ Keeps m s x := by
  simp only [List.cons_subset, List.nil_subset, and_true] at h
  unfold linkDown
  simp [h]

@[simp] theorem keeps_linkUp {m : List StateField} (h : [.handoffs, .sent, .cpe] ⊆ m) (p : Port) (s x : State) :
    Keeps m s (linkUp p x) ↔ Keeps m s x := by
  simp only [List.cons_subset, List.nil_subset, and_true] at h
  unfold linkUp
  try dsimp only
  (repeat' split) <;> simp [h]

@[simp] theorem keeps_linkSuspend {m : List StateField} (h : [.handoffs, .cpe] ⊆ m) (p : Port) (s x : State) :
    Keeps m s (linkSuspend p x) ↔ Keeps m s x := by
  simp only [List.cons_subset, List.nil_subset, and_true] at h
  unfold linkSuspend
  try dsimp only
  (repeat' split) <;> simp [h]

@[simp] theorem keeps_linkResume {m : List StateField} (h : [.handoffs, .cpe] ⊆ m) (p : Port) (s x : State) :
    Keeps m s (linkResume p x) ↔ Keeps m s x := by
  simp only [List.cons_subset, List.nil_subset, and_true] at h
  unfold linkResume
  try dsimp only
  (repeat' split) <;> simp [h]

@[simp] theorem keeps_pollStall {m : List StateField} (h : [.cpe] ⊆ m) (p : Port) (s x : State) :
    Keeps m s (pollStall p x) ↔ Keeps m s x := by
  simp only [List.cons_subset, List.nil_subset, and_true] at h
  unfold pollStall
  try dsimp only
  (repeat' split) <;> simp [h]

@[simp] theorem keeps_answerKeyboard {m : List StateField} (h : [.sent, .cpe] ⊆ m) (p : Port) (s x : State) :
    Keeps m s (answerKeyboard p x) ↔ Keeps m s x := by
  simp only [List.cons_subset, List.nil_subset, and_true] at h
  unfold answerKeyboard
  simp [h]

@[simp] theorem keeps_answerPointer {m : List StateField} (h : [.sent, .cpe] ⊆ m) (p : Port) (s x : State) :
    Keeps m s (answerPointer p x) ↔ Keeps m s x := by
  simp only [List.cons_subset, List.nil_subset, and_true] at h
  unfold answerPointer
  simp [h]

@[simp] theorem keeps_settleCount {m : List StateField} (h : [.handoffs, .sent, .cpe] ⊆ m) (p : Port) (s x : State) :
    Keeps m s (settleCount p x) ↔ Keeps m s x := by
  simp only [List.cons_subset, List.nil_subset, and_true] at h
  unfold settleCount
  try dsimp only
  (repeat' split) <;> simp [h]

@[simp] theorem keeps_keyboardPolled {m : List StateField} (h : [.handoffs, .sent, .cpe] ⊆ m) (p : Port) (s x : State) :
    Keeps m s (keyboardPolled p x) ↔ Keeps m s x := by
  simp only [List.cons_subset, List.nil_subset, and_true] at h
  unfold keyboardPolled
  try dsimp only
  (repeat' split) <;> simp [h]

@[simp] theorem keeps_pointerPolled {m : List StateField} (h : [.handoffs, .sent, .cpe] ⊆ m) (p : Port) (s x : State) :
    Keeps m s (pointerPolled p x) ↔ Keeps m s x := by
  simp only [List.cons_subset, List.nil_subset, and_true] at h
  unfold pointerPolled
  try dsimp only
  (repeat' split) <;> simp [h]

@[simp] theorem keeps_reportKey {m : List StateField} (h : [.handoffs, .cpe] ⊆ m) (p : Port) (k : Key) (s x : State) :
    Keeps m s (reportKey p k x) ↔ Keeps m s x := by
  simp only [List.cons_subset, List.nil_subset, and_true] at h
  unfold reportKey
  simp [h]

@[simp] theorem keeps_ignoreKey {m : List StateField} (h : [.cpe] ⊆ m) (p : Port) (k : Key) (s x : State) :
    Keeps m s (ignoreKey p k x) ↔ Keeps m s x := by
  simp only [List.cons_subset, List.nil_subset, and_true] at h
  unfold ignoreKey
  simp [h]

@[simp] theorem keeps_keyPressed {m : List StateField} (h : [.handoffs, .cpe] ⊆ m) (p : Port) (k : Key) (s x : State) :
    Keeps m s (keyPressed p k x) ↔ Keeps m s x := by
  simp only [List.cons_subset, List.nil_subset, and_true] at h
  unfold keyPressed
  try dsimp only
  (repeat' split) <;> simp [h]

@[simp] theorem keeps_keyReleased {m : List StateField} (h : [.handoffs, .cpe] ⊆ m) (p : Port) (k : Key) (s x : State) :
    Keeps m s (keyReleased p k x) ↔ Keeps m s x := by
  simp only [List.cons_subset, List.nil_subset, and_true] at h
  unfold keyReleased
  try dsimp only
  (repeat' split) <;> simp [h]

@[simp] theorem keeps_ignoreReleased {m : List StateField} (h : [.cpe] ⊆ m) (p : Port) (k : Key) (s x : State) :
    Keeps m s (ignoreReleased p k x) ↔ Keeps m s x := by
  simp only [List.cons_subset, List.nil_subset, and_true] at h
  unfold ignoreReleased
  try dsimp only
  (repeat' split) <;> simp [h]

@[simp] theorem keeps_releaseAll {m : List StateField} (h : [.handoffs, .cpe] ⊆ m) (p : Port) (s x : State) :
    Keeps m s (releaseAll p x) ↔ Keeps m s x := by
  simp only [List.cons_subset, List.nil_subset, and_true] at h
  unfold releaseAll
  simp [h]

@[simp] theorem keeps_leaveTaken {m : List StateField} (h : [.handoffs, .cpe] ⊆ m) (p : Port) (s x : State) :
    Keeps m s (leaveTaken p x) ↔ Keeps m s x := by
  simp only [List.cons_subset, List.nil_subset, and_true] at h
  unfold leaveTaken
  try dsimp only
  (repeat' split) <;> simp [h]

@[simp] theorem keeps_joinTaken {m : List StateField} (h : [.cpe] ⊆ m) (p : Port) (l : KeySet) (s x : State) :
    Keeps m s (joinTaken p l x) ↔ Keeps m s x := by
  simp only [List.cons_subset, List.nil_subset, and_true] at h
  unfold joinTaken
  try dsimp only
  (repeat' split) <;> simp [h]

@[simp] theorem keeps_pointerReported {m : List StateField} (h : [.handoffs, .cpe] ⊆ m) (p : Port) (r : PointerReport) (s x : State) :
    Keeps m s (pointerReported p r x) ↔ Keeps m s x := by
  simp only [List.cons_subset, List.nil_subset, and_true] at h
  unfold pointerReported
  try dsimp only
  (repeat' split) <;> simp [h]

@[simp] theorem keeps_wakeBegun {m : List StateField} (h : [.handoffs, .cpe] ⊆ m) (p : Port) (s x : State) :
    Keeps m s (wakeBegun p x) ↔ Keeps m s x := by
  simp only [List.cons_subset, List.nil_subset, and_true] at h
  unfold wakeBegun
  try dsimp only
  (repeat' split) <;> simp [h]

@[simp] theorem keeps_wakeFell {m : List StateField} (h : [.handoffs, .cpe] ⊆ m) (p : Port) (s x : State) :
    Keeps m s (wakeFell p x) ↔ Keeps m s x := by
  simp only [List.cons_subset, List.nil_subset, and_true] at h
  unfold wakeFell
  try dsimp only
  (repeat' split) <;> simp [h]

@[simp] theorem keeps_recovered {m : List StateField} (h : [.handoffs, .sent, .cpe] ⊆ m) (p : Port) (s x : State) :
    Keeps m s (recovered p x) ↔ Keeps m s x := by
  simp only [List.cons_subset, List.nil_subset, and_true] at h
  unfold recovered
  try dsimp only
  (repeat' split) <;> simp [h]

@[simp] theorem keeps_stalled {m : List StateField} (h : [.handoffs, .cpe] ⊆ m) (p : Port) (s x : State) :
    Keeps m s (stalled p x) ↔ Keeps m s x := by
  simp only [List.cons_subset, List.nil_subset, and_true] at h
  unfold stalled
  simp [h]

@[simp] theorem keeps_portWritten {m : List StateField} (h : [.handoffs, .sent, .cpe] ⊆ m) (p : Port) (e : PortEntry) (s x : State) :
    Keeps m s (portWritten p e x) ↔ Keeps m s x := by
  simp only [List.cons_subset, List.nil_subset, and_true] at h
  unfold portWritten
  try dsimp only
  (repeat' split) <;> simp [h]

/-! ## Wake Controller -/

@[simp] theorem keeps_wakeRefused {m : List StateField} (h : [.handoffs] ⊆ m) (s x : State) :
    Keeps m s (wakeRefused x) ↔ Keeps m s x := by
  simp only [List.cons_subset, List.nil_subset, and_true] at h
  unfold wakeRefused
  simp [h]

@[simp] theorem keeps_takeWakeRequest {m : List StateField} (h : [.handoffs, .wkc] ⊆ m) (p : Port) (s x : State) :
    Keeps m s (takeWakeRequest p x) ↔ Keeps m s x := by
  simp only [List.cons_subset, List.nil_subset, and_true] at h
  unfold takeWakeRequest
  try dsimp only
  (repeat' split) <;> simp [h]

@[simp] theorem keeps_wakeBeginsRefused {m : List StateField} (h : [.handoffs, .wkc] ⊆ m) (p : Port) (s x : State) :
    Keeps m s (wakeBeginsRefused p x) ↔ Keeps m s x := by
  simp only [List.cons_subset, List.nil_subset, and_true] at h
  unfold wakeBeginsRefused
  try dsimp only
  (repeat' split) <;> simp [h]

@[simp] theorem keeps_startAttempt {m : List StateField} (h : [.wkc] ⊆ m) (p : Port) (s x : State) :
    Keeps m s (startAttempt p x) ↔ Keeps m s x := by
  simp only [List.cons_subset, List.nil_subset, and_true] at h
  unfold startAttempt
  simp [h]

@[simp] theorem keeps_linkStateChanged {m : List StateField} (h : [.wkc] ⊆ m) (p : Port) (st : LinkState) (s x : State) :
    Keeps m s (linkStateChanged p st x) ↔ Keeps m s x := by
  simp only [List.cons_subset, List.nil_subset, and_true] at h
  unfold linkStateChanged
  try dsimp only
  (repeat' split) <;> simp [h]

@[simp] theorem keeps_wakeSignalEnds {m : List StateField} (h : [.wkc] ⊆ m) (p : Port) (s x : State) :
    Keeps m s (wakeSignalEnds p x) ↔ Keeps m s x := by
  simp only [List.cons_subset, List.nil_subset, and_true] at h
  unfold wakeSignalEnds
  simp [h]

@[simp] theorem keeps_wakeTimerExpires {m : List StateField} (h : [.handoffs, .wkc] ⊆ m) (p : Port) (s x : State) :
    Keeps m s (wakeTimerExpires p x) ↔ Keeps m s x := by
  simp only [List.cons_subset, List.nil_subset, and_true] at h
  unfold wakeTimerExpires
  try dsimp only
  (repeat' split) <;> simp [h]

@[simp] theorem keeps_recoveryExpires {m : List StateField} (h : [.handoffs, .wkc] ⊆ m) (p : Port) (s x : State) :
    Keeps m s (recoveryExpires p x) ↔ Keeps m s x := by
  simp only [List.cons_subset, List.nil_subset, and_true] at h
  unfold recoveryExpires
  try dsimp only
  (repeat' split) <;> simp [h]

@[simp] theorem keeps_noSignalUpdate {m : List StateField} (h : [.wkc] ⊆ m) (sc : Screen) (b : Bool) (s x : State) :
    Keeps m s (noSignalUpdate sc b x) ↔ Keeps m s x := by
  simp only [List.cons_subset, List.nil_subset, and_true] at h
  unfold noSignalUpdate
  simp [h]

@[simp] theorem keeps_wakeScreen {m : List StateField} (h : [.handoffs, .wkc] ⊆ m) (sc : Screen) (s x : State) :
    Keeps m s (wakeScreen sc x) ↔ Keeps m s x := by
  simp only [List.cons_subset, List.nil_subset, and_true] at h
  unfold wakeScreen
  try dsimp only
  (repeat' split) <;> simp [h]

@[simp] theorem keeps_wakeScreenAwake {m : List StateField} (h : [.handoffs, .wkc] ⊆ m) (sc : Screen) (s x : State) :
    Keeps m s (wakeScreenAwake sc x) ↔ Keeps m s x := by
  simp only [List.cons_subset, List.nil_subset, and_true] at h
  unfold wakeScreenAwake
  try dsimp only
  (repeat' split) <;> simp [h]

@[simp] theorem keeps_powerSwitch {m : List StateField} (h : [.handoffs, .wkc] ⊆ m) (sc : Screen) (v : Option Source) (s x : State) :
    Keeps m s (powerSwitch sc v x) ↔ Keeps m s x := by
  simp only [List.cons_subset, List.nil_subset, and_true] at h
  unfold powerSwitch
  try dsimp only
  (repeat' split) <;> simp [h]

@[simp] theorem keeps_powerSourceChange {m : List StateField} (h : [.handoffs, .wkc] ⊆ m) (st : SourceState) (sc : Screen) (s x : State) :
    Keeps m s (powerSourceChange st sc x) ↔ Keeps m s x := by
  simp only [List.cons_subset, List.nil_subset, and_true] at h
  unfold powerSourceChange
  try dsimp only
  (repeat' split) <;> simp [h]

@[simp] theorem keeps_powerStateChange {m : List StateField} (h : [.handoffs, .wkc] ⊆ m) (v : Source) (st : SourceState) (s x : State) :
    Keeps m s (powerStateChange v st x) ↔ Keeps m s x := by
  simp only [List.cons_subset, List.nil_subset, and_true] at h
  unfold powerStateChange
  simp [h]

@[simp] theorem keeps_noSignalExpires {m : List StateField} (h : [.wkc] ⊆ m) (sc : Screen) (s x : State) :
    Keeps m s (noSignalExpires sc x) ↔ Keeps m s x := by
  simp only [List.cons_subset, List.nil_subset, and_true] at h
  unfold noSignalExpires
  simp [h]

@[simp] theorem keeps_startNoSignal {m : List StateField} (h : [.wkc] ⊆ m) (s x : State) :
    Keeps m s (startNoSignal x) ↔ Keeps m s x := by
  simp only [List.cons_subset, List.nil_subset, and_true] at h
  unfold startNoSignal
  simp [h]

@[simp] theorem keeps_deskSleeps {m : List StateField} (h : [.handoffs, .wkc] ⊆ m) (s x : State) :
    Keeps m s (deskSleeps x) ↔ Keeps m s x := by
  simp only [List.cons_subset, List.nil_subset, and_true] at h
  unfold deskSleeps
  try dsimp only
  (repeat' split) <;> simp [h]

@[simp] theorem keeps_deskWakes {m : List StateField} (h : [.handoffs, .wkc] ⊆ m) (s x : State) :
    Keeps m s (deskWakes x) ↔ Keeps m s x := by
  simp only [List.cons_subset, List.nil_subset, and_true] at h
  unfold deskWakes
  simp [h]

@[simp] theorem keeps_deskWakeTaken {m : List StateField} (h : [.handoffs, .wkc] ⊆ m) (k : Option Key) (s x : State) :
    Keeps m s (deskWakeTaken k x) ↔ Keeps m s x := by
  simp only [List.cons_subset, List.nil_subset, and_true] at h
  unfold deskWakeTaken
  try dsimp only
  (repeat' split) <;> simp [h]

/-! ## Focus Control -/

@[simp] theorem keeps_takePassed {m : List StateField} (h : [.handoffs, .fcu] ⊆ m) (k : Key) (b : Bool) (s x : State) :
    Keeps m s (takePassed k b x) ↔ Keeps m s x := by
  simp only [List.cons_subset, List.nil_subset, and_true] at h
  unfold takePassed
  try dsimp only
  (repeat' split) <;> simp [h]

@[simp] theorem keeps_refreshDims {m : List StateField} (h : [.handoffs] ⊆ m) (s x : State) :
    Keeps m s (refreshDims x) ↔ Keeps m s x := by
  simp only [List.cons_subset, List.nil_subset, and_true] at h
  unfold refreshDims
  simp [h]

/-- The indications go behind the hand-offs of the later state, and touch nothing else. -/
@[simp] theorem keeps_leaveJoin {m : List StateField} (h : [.handoffs] ⊆ m) (b s x : State) :
    Keeps m s (leaveJoin b x) ↔ Keeps m s x := by
  unfold leaveJoin
  refine keeps_foldl (fun t p => ?_) _ _
  (repeat' split) <;> simp [h]

@[simp] theorem keeps_wakeFocus {m : List StateField} (h : [.handoffs] ⊆ m) (c : Option Computer) (s x : State) :
    Keeps m s (wakeFocus c x) ↔ Keeps m s x := by
  simp only [List.cons_subset, List.nil_subset, and_true] at h
  unfold wakeFocus
  try dsimp only
  (repeat' split) <;> simp [h]

@[simp] theorem keeps_askHome {m : List StateField} (h : [.handoffs] ⊆ m) (c : Option Computer) (j : Bool) (s x : State) :
    Keeps m s (askHome c j x) ↔ Keeps m s x := by
  simp only [List.cons_subset, List.nil_subset, and_true] at h
  unfold askHome
  try dsimp only
  (repeat' split) <;> simp [h]

@[simp] theorem keeps_askJump {m : List StateField} (h : [.handoffs] ⊆ m) (c : Option Computer) (k : FocusCause) (j : Bool) (s x : State) :
    Keeps m s (askJump c k j x) ↔ Keeps m s x := by
  simp only [List.cons_subset, List.nil_subset, and_true] at h
  unfold askJump
  try dsimp only
  (repeat' split) <;> simp [h]

@[simp] theorem keeps_changeFocus {m : List StateField} (h : [.handoffs, .fcu] ⊆ m) (c : Option Computer) (k : FocusCause) (j l : Bool) (s x : State) :
    Keeps m s (changeFocus c k j l x) ↔ Keeps m s x := by
  simp only [List.cons_subset, List.nil_subset, and_true] at h
  unfold changeFocus
  try dsimp only
  (repeat' split) <;> simp [h]

@[simp] theorem keeps_focusTo {m : List StateField} (h : [.handoffs, .fcu] ⊆ m) (c : Computer) (k : FocusCause) (l : Bool) (s x : State) :
    Keeps m s (focusTo c k l x) ↔ Keeps m s x := by
  simp only [List.cons_subset, List.nil_subset, and_true] at h
  unfold focusTo
  try dsimp only
  (repeat' split) <;> simp [h]

@[simp] theorem keeps_releaseOwner {m : List StateField} (h : [.handoffs, .cpe] ⊆ m) (c : Option Computer) (s x : State) :
    Keeps m s (releaseOwner c x) ↔ Keeps m s x := by
  simp only [List.cons_subset, List.nil_subset, and_true] at h
  unfold releaseOwner
  try dsimp only
  (repeat' split) <;> simp [h]

@[simp] theorem keeps_claimOwner {m : List StateField} (h : [.cpe] ⊆ m) (c : Option Computer) (s x : State) :
    Keeps m s (claimOwner c x) ↔ Keeps m s x := by
  simp only [List.cons_subset, List.nil_subset, and_true] at h
  unfold claimOwner
  try dsimp only
  (repeat' split) <;> simp [h]

@[simp] theorem keeps_changeOwner {m : List StateField} (h : [.handoffs, .fcu, .cpe] ⊆ m) (c : Option Computer) (k : FocusCause) (n : Bool) (s x : State) :
    Keeps m s (changeOwner c k n x) ↔ Keeps m s x := by
  simp only [List.cons_subset, List.nil_subset, and_true] at h
  unfold changeOwner
  try dsimp only
  (repeat' split) <;> simp [h]

@[simp] theorem keeps_recomputeOwner {m : List StateField} (h : [.handoffs, .fcu, .cpe] ⊆ m) (k : FocusCause) (n : Bool) (s x : State) :
    Keeps m s (recomputeOwner k n x) ↔ Keeps m s x := by
  simp only [List.cons_subset, List.nil_subset, and_true] at h
  unfold recomputeOwner
  simp [h]

@[simp] theorem keeps_followOwner {m : List StateField} (h : [.handoffs, .fcu] ⊆ m) (k : FocusCause) (b : State) (s x : State) :
    Keeps m s (followOwner k b x) ↔ Keeps m s x := by
  simp only [List.cons_subset, List.nil_subset, and_true] at h
  unfold followOwner
  try dsimp only
  (repeat' split) <;> simp [h]

@[simp] theorem keeps_cursorScreenChanged {m : List StateField} (h : [.handoffs, .fcu, .cpe] ⊆ m) (c : CursorCause) (s x : State) :
    Keeps m s (cursorScreenChanged c x) ↔ Keeps m s x := by
  simp only [List.cons_subset, List.nil_subset, and_true] at h
  unfold cursorScreenChanged
  try dsimp only
  (repeat' split) <;> simp [h]

@[simp] theorem keeps_jumpAnswered {m : List StateField} (h : [.handoffs, .fcu, .cpe] ⊆ m) (c : Computer) (k : FocusCause) (l : Option Screen) (s x : State) :
    Keeps m s (jumpAnswered c k l x) ↔ Keeps m s x := by
  simp only [List.cons_subset, List.nil_subset, and_true] at h
  unfold jumpAnswered
  try dsimp only
  (repeat' split) <;> simp [h]

@[simp] theorem keeps_cursorScreenRouted {m : List StateField} (h : [.handoffs, .fcu, .cpe] ⊆ m) (k : FocusCause) (s x : State) :
    Keeps m s (cursorScreenRouted k x) ↔ Keeps m s x := by
  simp only [List.cons_subset, List.nil_subset, and_true] at h
  unfold cursorScreenRouted
  try dsimp only
  (repeat' split) <;> simp [h]

@[simp] theorem keeps_switchNoticed {m : List StateField} (h : [.handoffs, .fcu, .cpe] ⊆ m) (sc : Screen) (s x : State) :
    Keeps m s (switchNoticed sc x) ↔ Keeps m s x := by
  simp only [List.cons_subset, List.nil_subset, and_true] at h
  unfold switchNoticed
  try dsimp only
  (repeat' split) <;> simp [h]

@[simp] theorem keeps_sourceOwnerWritten {m : List StateField} (h : [.handoffs, .fcu, .cpe] ⊆ m) (v : Source) (b : Bool) (s x : State) :
    Keeps m s (sourceOwnerWritten v b x) ↔ Keeps m s x := by
  simp only [List.cons_subset, List.nil_subset, and_true] at h
  unfold sourceOwnerWritten
  try dsimp only
  (repeat' split) <;> simp [h]

@[simp] theorem keeps_sourceRectangleWritten {m : List StateField} (h : [.handoffs] ⊆ m) (v : Source) (s x : State) :
    Keeps m s (sourceRectangleWritten v x) ↔ Keeps m s x := by
  simp only [List.cons_subset, List.nil_subset, and_true] at h
  unfold sourceRectangleWritten
  try dsimp only
  (repeat' split) <;> simp [h]

@[simp] theorem keeps_layoutCompleted {m : List StateField} (h : [.handoffs, .fcu] ⊆ m) (f : FocusField) (b : Bool) (s x : State) :
    Keeps m s (layoutCompleted f b x) ↔ Keeps m s x := by
  simp only [List.cons_subset, List.nil_subset, and_true] at h
  unfold layoutCompleted
  try dsimp only
  (repeat' split) <;> simp [h]

@[simp] theorem keeps_stepFocus {m : List StateField} (h : [.handoffs, .fcu] ⊆ m) (l : List Port) (s x : State) :
    Keeps m s (stepFocus l x) ↔ Keeps m s x := by
  simp only [List.cons_subset, List.nil_subset, and_true] at h
  unfold stepFocus
  try dsimp only
  (repeat' split) <;> simp [h]

@[simp] theorem keeps_momentary {m : List StateField} (h : [.handoffs, .fcu] ⊆ m) (c : Computer) (s x : State) :
    Keeps m s (momentary c x) ↔ Keeps m s x := by
  simp only [List.cons_subset, List.nil_subset, and_true] at h
  unfold momentary
  simp [h]

@[simp] theorem keeps_momentaryReturned {m : List StateField} (h : [.handoffs, .fcu] ⊆ m) (s x : State) :
    Keeps m s (momentaryReturned x) ↔ Keeps m s x := by
  simp only [List.cons_subset, List.nil_subset, and_true] at h
  unfold momentaryReturned
  try dsimp only
  (repeat' split) <;> simp [h]

@[simp] theorem keeps_setFocusTo {m : List StateField} (h : [.handoffs, .fcu] ⊆ m) (c : Option Computer) (s x : State) :
    Keeps m s (setFocusTo c x) ↔ Keeps m s x := by
  simp only [List.cons_subset, List.nil_subset, and_true] at h
  unfold setFocusTo
  try dsimp only
  (repeat' split) <;> simp [h]

@[simp] theorem keeps_toggleLock {m : List StateField} (h : [.handoffs, .fcu] ⊆ m) (s x : State) :
    Keeps m s (toggleLock x) ↔ Keeps m s x := by
  simp only [List.cons_subset, List.nil_subset, and_true] at h
  unfold toggleLock
  simp [h]

@[simp] theorem keeps_toggleBroadcast {m : List StateField} (h : [.handoffs, .fcu] ⊆ m) (s x : State) :
    Keeps m s (toggleBroadcast x) ↔ Keeps m s x := by
  simp only [List.cons_subset, List.nil_subset, and_true] at h
  unfold toggleBroadcast
  simp [h]

@[simp] theorem keeps_setOverride {m : List StateField} (h : [.handoffs, .fcu] ⊆ m) (b : Bool) (s x : State) :
    Keeps m s (setOverride b x) ↔ Keeps m s x := by
  simp only [List.cons_subset, List.nil_subset, and_true] at h
  unfold setOverride
  try dsimp only
  (repeat' split) <;> simp [h]

/-! ## Glide Unit -/

@[simp] theorem keeps_buildReport {m : List StateField} (h : [.handoffs] ⊆ m) (l : Buttons) (w : Int) (s x : State) :
    Keeps m s (buildReport l w x) ↔ Keeps m s x := by
  simp only [List.cons_subset, List.nil_subset, and_true] at h
  unfold buildReport
  try dsimp only
  (repeat' split) <;> simp [h]

@[simp] theorem keeps_dropIgnored {m : List StateField} (h : [.cpe] ⊆ m) (l : Buttons) (s x : State) :
    Keeps m s (dropIgnored l x) ↔ Keeps m s x := by
  simp only [List.cons_subset, List.nil_subset, and_true] at h
  unfold dropIgnored
  simp [h]

@[simp] theorem keeps_takeFromGlide {m : List StateField} (h : [.handoffs, .fcu, .cpe] ⊆ m) (c : Instr) (s x : State) :
    Keeps m s (takeFromGlide c x) ↔ Keeps m s x := by
  simp only [List.cons_subset, List.nil_subset, and_true] at h
  unfold takeFromGlide
  try dsimp only
  (repeat' split) <;> simp [h]

@[simp] theorem keeps_takeGlideInputs {m : List StateField} (h : [.handoffs, .fcu, .cpe] ⊆ m) (s x : State) :
    Keeps m s (takeGlideInputs x) ↔ Keeps m s x := by
  simp only [List.cons_subset, List.nil_subset, and_true] at h
  unfold takeGlideInputs
  simp [h]

@[simp] theorem keeps_clearPressure {m : List StateField} (h : [.glu] ⊆ m) (s x : State) :
    Keeps m s (clearPressure x) ↔ Keeps m s x := by
  simp only [List.cons_subset, List.nil_subset, and_true] at h
  unfold clearPressure
  simp [h]

@[simp] theorem keeps_clampCursor {m : List StateField} (h : [.glu] ⊆ m) (a b : Int) (s x : State) :
    Keeps m s (clampCursor a b x) ↔ Keeps m s x := by
  simp only [List.cons_subset, List.nil_subset, and_true] at h
  unfold clampCursor
  simp [h]

@[simp] theorem keeps_setHome {m : List StateField} (h : [.glu] ⊆ m) (c : Computer) (s x : State) :
    Keeps m s (setHome c x) ↔ Keeps m s x := by
  simp only [List.cons_subset, List.nil_subset, and_true] at h
  unfold setHome
  simp [h]

@[simp] theorem keeps_leaveHome {m : List StateField} (h : [.glu] ⊆ m) (c : Option Computer) (s x : State) :
    Keeps m s (leaveHome c x) ↔ Keeps m s x := by
  simp only [List.cons_subset, List.nil_subset, and_true] at h
  unfold leaveHome
  try dsimp only
  (repeat' split) <;> simp [h]

@[simp] theorem keeps_putCursor {m : List StateField} (h : [.glu] ⊆ m) (sc : Screen) (q : Pos) (s x : State) :
    Keeps m s (putCursor sc q x) ↔ Keeps m s x := by
  simp only [List.cons_subset, List.nil_subset, and_true] at h
  unfold putCursor
  simp [h]

@[simp] theorem keeps_wakeCrossed {m : List StateField} (h : [.handoffs] ⊆ m) (sc : Screen) (s x : State) :
    Keeps m s (wakeCrossed sc x) ↔ Keeps m s x := by
  simp only [List.cons_subset, List.nil_subset, and_true] at h
  unfold wakeCrossed
  try dsimp only
  (repeat' split) <;> simp [h]

@[simp] theorem keeps_crossOnto {m : List StateField} (h : [.handoffs, .glu, .fcu, .cpe] ⊆ m) (sc : Screen) (a b : Int) (s x : State) :
    Keeps m s (crossOnto sc a b x) ↔ Keeps m s x := by
  simp only [List.cons_subset, List.nil_subset, and_true] at h
  unfold crossOnto
  simp [h]

@[simp] theorem keeps_weighPush {m : List StateField} (h : [.handoffs, .glu, .fcu, .cpe] ⊆ m) (sc : Screen) (a b : Int) (s x : State) :
    Keeps m s (weighPush sc a b x) ↔ Keeps m s x := by
  simp only [List.cons_subset, List.nil_subset, and_true] at h
  unfold weighPush
  try dsimp only
  (repeat' split) <;> simp [h]

@[simp] theorem keeps_pushOnto {m : List StateField} (h : [.handoffs, .glu, .fcu, .cpe] ⊆ m) (sc : Screen) (l : Buttons) (a b : Int) (s x : State) :
    Keeps m s (pushOnto sc l a b x) ↔ Keeps m s x := by
  simp only [List.cons_subset, List.nil_subset, and_true] at h
  unfold pushOnto
  try dsimp only
  (repeat' split) <;> simp [h]

@[simp] theorem keeps_classify {m : List StateField} (h : [.handoffs, .glu, .fcu, .cpe] ⊆ m) (l : Buttons) (a b : Int) (s x : State) :
    Keeps m s (classify l a b x) ↔ Keeps m s x := by
  simp only [List.cons_subset, List.nil_subset, and_true] at h
  unfold classify
  try dsimp only
  (repeat' split) <;> simp [h]

@[simp] theorem keeps_glide {m : List StateField} (h : [.handoffs, .glu, .fcu, .cpe] ⊆ m) (e : PointerEvent) (s x : State) :
    Keeps m s (glide e x) ↔ Keeps m s x := by
  simp only [List.cons_subset, List.nil_subset, and_true] at h
  unfold glide
  simp [h]

@[simp] theorem keeps_takePointerEvent {m : List StateField} (h : [.handoffs, .glu, .fcu, .cpe] ⊆ m) (e : PointerEvent) (s x : State) :
    Keeps m s (takePointerEvent e x) ↔ Keeps m s x := by
  simp only [List.cons_subset, List.nil_subset, and_true] at h
  unfold takePointerEvent
  try dsimp only
  (repeat' split) <;> simp [h]

@[simp] theorem keeps_reportStanding {m : List StateField} (h : [.handoffs] ⊆ m) (s x : State) :
    Keeps m s (reportStanding x) ↔ Keeps m s x := by
  simp only [List.cons_subset, List.nil_subset, and_true] at h
  unfold reportStanding
  simp [h]

@[simp] theorem keeps_takeCursorNotice {m : List StateField} (h : [.handoffs, .glu] ⊆ m) (s x : State) :
    Keeps m s (takeCursorNotice x) ↔ Keeps m s x := by
  simp only [List.cons_subset, List.nil_subset, and_true] at h
  unfold takeCursorNotice
  simp [h]

@[simp] theorem keeps_takeJump {m : List StateField} (h : [.handoffs, .glu] ⊆ m) (c : Computer) (k : FocusCause) (s x : State) :
    Keeps m s (takeJump c k x) ↔ Keeps m s x := by
  simp only [List.cons_subset, List.nil_subset, and_true] at h
  unfold takeJump
  try dsimp only
  (repeat' split) <;> simp [h]

@[simp] theorem keeps_takeHomeRequest {m : List StateField} (h : [.glu] ⊆ m) (c : Computer) (s x : State) :
    Keeps m s (takeHomeRequest c x) ↔ Keeps m s x := by
  simp only [List.cons_subset, List.nil_subset, and_true] at h
  unfold takeHomeRequest
  try dsimp only
  (repeat' split) <;> simp [h]

@[simp] theorem keeps_cursorToLowest {m : List StateField} (h : [.glu] ⊆ m) (s x : State) :
    Keeps m s (cursorToLowest x) ↔ Keeps m s x := by
  simp only [List.cons_subset, List.nil_subset, and_true] at h
  unfold cursorToLowest
  simp [h]

@[simp] theorem keeps_cursorUnplaced {m : List StateField} (h : [.handoffs, .glu, .fcu, .cpe] ⊆ m) (s x : State) :
    Keeps m s (cursorUnplaced x) ↔ Keeps m s x := by
  simp only [List.cons_subset, List.nil_subset, and_true] at h
  unfold cursorUnplaced
  simp [h]

@[simp] theorem keeps_placementWritten {m : List StateField} (h : [.handoffs, .glu, .fcu, .cpe] ⊆ m) (sc : Screen) (s x : State) :
    Keeps m s (placementWritten sc x) ↔ Keeps m s x := by
  simp only [List.cons_subset, List.nil_subset, and_true] at h
  unfold placementWritten
  try dsimp only
  (repeat' split) <;> simp [h]

@[simp] theorem keeps_glideRestart {m : List StateField} (h : [.handoffs, .glu] ⊆ m) (s x : State) :
    Keeps m s (glideRestart x) ↔ Keeps m s x := by
  simp only [List.cons_subset, List.nil_subset, and_true] at h
  unfold glideRestart
  simp [h]

/-! ## Frame Monitors -/

@[simp] theorem keeps_handSourceState {m : List StateField} (h : [.handoffs] ⊆ m) (v : Source) (old st : SourceState) (s x : State) :
    Keeps m s (handSourceState v old st x) ↔ Keeps m s x := by
  simp only [List.cons_subset, List.nil_subset, and_true] at h
  unfold handSourceState
  simp [h]

@[simp] theorem keeps_handFrame {m : List StateField} (h : [.handoffs] ⊆ m) (v : Source) (s x : State) :
    Keeps m s (handFrame v x) ↔ Keeps m s x := by
  simp only [List.cons_subset, List.nil_subset, and_true] at h
  unfold handFrame
  simp [h]

@[simp] theorem keeps_signalLost {m : List StateField} (h : [.handoffs, .fmn] ⊆ m) (v : Source) (s x : State) :
    Keeps m s (signalLost v x) ↔ Keeps m s x := by
  simp only [List.cons_subset, List.nil_subset, and_true] at h
  unfold signalLost
  try dsimp only
  (repeat' split) <;> simp [h]

@[simp] theorem keeps_noteLock {m : List StateField} (h : [.handoffs] ⊆ m) (v : Source) (st : SourceState) (s x : State) :
    Keeps m s (noteLock v st x) ↔ Keeps m s x := by
  simp only [List.cons_subset, List.nil_subset, and_true] at h
  unfold noteLock
  try dsimp only
  (repeat' split) <;> simp [h]

@[simp] theorem keeps_frameResults {m : List StateField} (h : [.handoffs] ⊆ m) (v : Source) (st : SourceState) (s x : State) :
    Keeps m s (frameResults v st x) ↔ Keeps m s x := by
  simp only [List.cons_subset, List.nil_subset, and_true] at h
  unfold frameResults
  try dsimp only
  (repeat' split) <;> simp [h]

@[simp] theorem keeps_takeFrameStart {m : List StateField} (h : [.handoffs, .timebase, .fmn] ⊆ m) (v : Source) (n : Nat) (s x : State) :
    Keeps m s (takeFrameStart v n x) ↔ Keeps m s x := by
  simp only [List.cons_subset, List.nil_subset, and_true] at h
  unfold takeFrameStart
  try dsimp only
  (repeat' split) <;> simp [h]

@[simp] theorem keeps_takeLineStart {m : List StateField} (h : [.handoffs, .fmn] ⊆ m) (v : Source) (s x : State) :
    Keeps m s (takeLineStart v x) ↔ Keeps m s x := by
  simp only [List.cons_subset, List.nil_subset, and_true] at h
  unfold takeLineStart
  try dsimp only
  (repeat' split) <;> simp [h]

/-! ## Share Output Unit -/

@[simp] theorem keeps_recomputeBlanked {m : List StateField} (h : [.handoffs, .sou] ⊆ m) (o : ShareOut) (s x : State) :
    Keeps m s (recomputeBlanked o x) ↔ Keeps m s x := by
  simp only [List.cons_subset, List.nil_subset, and_true] at h
  unfold recomputeBlanked
  try dsimp only
  (repeat' split) <;> simp [h]

@[simp] theorem keeps_setShareMode {m : List StateField} (h : [.handoffs, .sou] ⊆ m) (o : ShareOut) (k : ShareMode) (s x : State) :
    Keeps m s (setShareMode o k x) ↔ Keeps m s x := by
  simp only [List.cons_subset, List.nil_subset, and_true] at h
  unfold setShareMode
  simp [h]

@[simp] theorem keeps_shareScreen {m : List StateField} (h : [.handoffs, .sou] ⊆ m) (o : ShareOut) (sc : Screen) (s x : State) :
    Keeps m s (shareScreen o sc x) ↔ Keeps m s x := by
  simp only [List.cons_subset, List.nil_subset, and_true] at h
  unfold shareScreen
  try dsimp only
  (repeat' split) <;> simp [h]

@[simp] theorem keeps_shareNothing {m : List StateField} (h : [.handoffs, .sou] ⊆ m) (o : ShareOut) (s x : State) :
    Keeps m s (shareNothing o x) ↔ Keeps m s x := by
  simp only [List.cons_subset, List.nil_subset, and_true] at h
  unfold shareNothing
  simp [h]

@[simp] theorem keeps_shareSource {m : List StateField} (h : [.handoffs, .sou] ⊆ m) (o : ShareOut) (v : Source) (s x : State) :
    Keeps m s (shareSource o v x) ↔ Keeps m s x := by
  simp only [List.cons_subset, List.nil_subset, and_true] at h
  unfold shareSource
  simp [h]

@[simp] theorem keeps_followSwitch {m : List StateField} (h : [.handoffs, .sou] ⊆ m) (sc : Screen) (v : Option Source) (s x : State) :
    Keeps m s (followSwitch sc v x) ↔ Keeps m s x := by
  simp only [List.cons_subset, List.nil_subset, and_true] at h
  unfold followSwitch
  simp [h]

@[simp] theorem keeps_privateWritten {m : List StateField} (h : [.handoffs, .sou] ⊆ m) (v : Source) (s x : State) :
    Keeps m s (privateWritten v x) ↔ Keeps m s x := by
  simp only [List.cons_subset, List.nil_subset, and_true] at h
  unfold privateWritten
  simp [h]

@[simp] theorem keeps_recomputeAllBlanked {m : List StateField} (h : [.handoffs, .sou] ⊆ m) (s x : State) :
    Keeps m s (recomputeAllBlanked x) ↔ Keeps m s x := by
  simp only [List.cons_subset, List.nil_subset, and_true] at h
  unfold recomputeAllBlanked
  simp [h]

@[simp] theorem keeps_sharesOff {m : List StateField} (h : [.sou] ⊆ m) (s x : State) :
    Keeps m s (sharesOff x) ↔ Keeps m s x :=
  keeps_iff_of (l := [.sou]) (by intro f hf; cases f <;> first | rfl | exact absurd (by decide) hf) h

/-! ## Crosspoint Controller -/

@[simp] theorem keeps_completeLayout {m : List StateField} (h : [.handoffs, .xpc] ⊆ m) (l : LayoutInFlight) (s x : State) :
    Keeps m s (completeLayout l x) ↔ Keeps m s x := by
  simp only [List.cons_subset, List.nil_subset, and_true] at h
  unfold completeLayout
  simp [h]

@[simp] theorem keeps_leaveLayout {m : List StateField} (h : [.handoffs, .xpc] ⊆ m) (sc : Screen) (s x : State) :
    Keeps m s (leaveLayout sc x) ↔ Keeps m s x := by
  simp only [List.cons_subset, List.nil_subset, and_true] at h
  unfold leaveLayout
  try dsimp only
  (repeat' split) <;> simp [h]

@[simp] theorem keeps_raiseUnless {m : List StateField} (h : [.handoffs] ⊆ m) (b : Bool) (k : NoticeKind) (s x : State) :
    Keeps m s (raiseUnless b k x) ↔ Keeps m s x := by
  simp only [List.cons_subset, List.nil_subset, and_true] at h
  unfold raiseUnless
  try dsimp only
  (repeat' split) <;> simp [h]

@[simp] theorem keeps_handSwitch {m : List StateField} (h : [.handoffs, .sou] ⊆ m) (sc : Screen) (v : Option Source) (s x : State) :
    Keeps m s (handSwitch sc v x) ↔ Keeps m s x := by
  simp only [List.cons_subset, List.nil_subset, and_true] at h
  unfold handSwitch
  simp [h]

@[simp] theorem keeps_leaveIfLayout {m : List StateField} (h : [.handoffs, .xpc] ⊆ m) (sc : Screen) (k : RouteCause) (s x : State) :
    Keeps m s (leaveIfLayout sc k x) ↔ Keeps m s x := by
  simp only [List.cons_subset, List.nil_subset, and_true] at h
  unfold leaveIfLayout
  try dsimp only
  (repeat' split) <;> simp [h]

@[simp] theorem keeps_takeEffect {m : List StateField} (h : [.handoffs, .xpc, .sou] ⊆ m) (sc : Screen) (p : Pending) (k : NoticeKind) (s x : State) :
    Keeps m s (takeEffect sc p k x) ↔ Keeps m s x := by
  simp only [List.cons_subset, List.nil_subset, and_true] at h
  unfold takeEffect
  simp [h]

@[simp] theorem keeps_testPending {m : List StateField} (h : [.handoffs, .xpc, .sou] ⊆ m) (sc : Screen) (s x : State) :
    Keeps m s (testPending sc x) ↔ Keeps m s x := by
  simp only [List.cons_subset, List.nil_subset, and_true] at h
  unfold testPending
  try dsimp only
  (repeat' split) <;> simp [h]

@[simp] theorem keeps_testAll {m : List StateField} (h : [.handoffs, .xpc, .sou] ⊆ m) (s x : State) :
    Keeps m s (testAll x) ↔ Keeps m s x := by
  simp only [List.cons_subset, List.nil_subset, and_true] at h
  unfold testAll
  simp [h]

@[simp] theorem keeps_handFade {m : List StateField} (h : [.handoffs, .xpc] ⊆ m) (sc : Screen) (s x : State) :
    Keeps m s (handFade sc x) ↔ Keeps m s x := by
  simp only [List.cons_subset, List.nil_subset, and_true] at h
  unfold handFade
  simp [h]

@[simp] theorem keeps_clearPeek {m : List StateField} (h : [.xpc] ⊆ m) (sc : Screen) (k : RouteCause) (s x : State) :
    Keeps m s (clearPeek sc k x) ↔ Keeps m s x := by
  simp only [List.cons_subset, List.nil_subset, and_true] at h
  unfold clearPeek
  try dsimp only
  (repeat' split) <;> simp [h]

@[simp] theorem keeps_removePending {m : List StateField} (h : [.handoffs, .xpc] ⊆ m) (sc : Screen) (s x : State) :
    Keeps m s (removePending sc x) ↔ Keeps m s x := by
  simp only [List.cons_subset, List.nil_subset, and_true] at h
  unfold removePending
  try dsimp only
  (repeat' split) <;> simp [h]

@[simp] theorem keeps_newPending {m : List StateField} (h : [.handoffs, .xpc, .sou] ⊆ m) (sc : Screen) (v : Option Source) (k : RouteCause) (s x : State) :
    Keeps m s (newPending sc v k x) ↔ Keeps m s x := by
  simp only [List.cons_subset, List.nil_subset, and_true] at h
  unfold newPending
  simp [h]

@[simp] theorem keeps_routeRequest {m : List StateField} (h : [.handoffs, .xpc, .sou] ⊆ m) (sc : Screen) (v : Option Source) (k : RouteCause) (s x : State) :
    Keeps m s (routeRequest sc v k x) ↔ Keeps m s x := by
  simp only [List.cons_subset, List.nil_subset, and_true] at h
  unfold routeRequest
  try dsimp only
  (repeat' split) <;> simp [h]

@[simp] theorem keeps_supersede {m : List StateField} (h : [.handoffs, .xpc] ⊆ m) (s x : State) :
    Keeps m s (supersede x) ↔ Keeps m s x := by
  simp only [List.cons_subset, List.nil_subset, and_true] at h
  unfold supersede
  try dsimp only
  (repeat' split) <;> simp [h]

@[simp] theorem keeps_requestField {m : List StateField} (h : [.handoffs, .xpc, .sou] ⊆ m) (f : RouteField) (sc : Screen) (s x : State) :
    Keeps m s (requestField f sc x) ↔ Keeps m s x := by
  simp only [List.cons_subset, List.nil_subset, and_true] at h
  unfold requestField
  try dsimp only
  (repeat' split) <;> simp [h]

@[simp] theorem keeps_takeRecall {m : List StateField} (h : [.handoffs, .xpc, .sou] ⊆ m) (l : LayoutNo) (s x : State) :
    Keeps m s (takeRecall l x) ↔ Keeps m s x := by
  simp only [List.cons_subset, List.nil_subset, and_true] at h
  unfold takeRecall
  try dsimp only
  (repeat' split) <;> simp [h]

@[simp] theorem keeps_revertPeek {m : List StateField} (h : [.handoffs, .xpc, .sou] ⊆ m) (n : EntryNo) (s x : State) :
    Keeps m s (revertPeek n x) ↔ Keeps m s x := by
  simp only [List.cons_subset, List.nil_subset, and_true] at h
  unfold revertPeek
  try dsimp only
  (repeat' split) <;> simp [h]

@[simp] theorem keeps_newPeek {m : List StateField} (h : [.handoffs, .xpc, .sou] ⊆ m) (v : Source) (sc : Screen) (n : EntryNo) (b : Bool) (s x : State) :
    Keeps m s (newPeek v sc n b x) ↔ Keeps m s x := by
  simp only [List.cons_subset, List.nil_subset, and_true] at h
  unfold newPeek
  try dsimp only
  (repeat' split) <;> simp [h]

@[simp] theorem keeps_takePeek {m : List StateField} (h : [.handoffs, .xpc, .sou] ⊆ m) (v : Source) (sc : Screen) (n : EntryNo) (b : Bool) (s x : State) :
    Keeps m s (takePeek v sc n b x) ↔ Keeps m s x := by
  simp only [List.cons_subset, List.nil_subset, and_true] at h
  unfold takePeek
  try dsimp only
  (repeat' split) <;> simp [h]

@[simp] theorem keeps_lineAt {m : List StateField} (h : [.handoffs, .xpc, .sou] ⊆ m) (v : Source) (n : Nat) (sc : Screen) (s x : State) :
    Keeps m s (lineAt v n sc x) ↔ Keeps m s x := by
  simp only [List.cons_subset, List.nil_subset, and_true] at h
  unfold lineAt
  try dsimp only
  (repeat' split) <;> simp [h]

@[simp] theorem keeps_takeLine {m : List StateField} (h : [.handoffs, .xpc, .sou] ⊆ m) (v : Source) (n : Nat) (s x : State) :
    Keeps m s (takeLine v n x) ↔ Keeps m s x := by
  simp only [List.cons_subset, List.nil_subset, and_true] at h
  unfold takeLine
  simp [h]

@[simp] theorem keeps_forceAt {m : List StateField} (h : [.handoffs, .xpc, .sou] ⊆ m) (v : Source) (sc : Screen) (s x : State) :
    Keeps m s (forceAt v sc x) ↔ Keeps m s x := by
  simp only [List.cons_subset, List.nil_subset, and_true] at h
  unfold forceAt
  try dsimp only
  (repeat' split) <;> simp [h]

@[simp] theorem keeps_takeSourceState {m : List StateField} (h : [.handoffs, .xpc, .sou] ⊆ m) (v : Source) (c : SourceChange) (s x : State) :
    Keeps m s (takeSourceState v c x) ↔ Keeps m s x := by
  simp only [List.cons_subset, List.nil_subset, and_true] at h
  unfold takeSourceState
  try dsimp only
  (repeat' split) <;> simp [h]

@[simp] theorem keeps_takeFadeReport {m : List StateField} (h : [.handoffs, .xpc, .sou] ⊆ m) (sc : Screen) (n : Nat) (s x : State) :
    Keeps m s (takeFadeReport sc n x) ↔ Keeps m s x := by
  simp only [List.cons_subset, List.nil_subset, and_true] at h
  unfold takeFadeReport
  try dsimp only
  (repeat' split) <;> simp [h]

@[simp] theorem keeps_holdRoutesOn {m : List StateField} (h : [.xpc] ⊆ m) (s x : State) :
    Keeps m s (holdRoutesOn x) ↔ Keeps m s x := by
  simp only [List.cons_subset, List.nil_subset, and_true] at h
  unfold holdRoutesOn
  try dsimp only
  (repeat' split) <;> simp [h]

@[simp] theorem keeps_releaseRoutesNow {m : List StateField} (h : [.handoffs, .xpc, .sou] ⊆ m) (s x : State) :
    Keeps m s (releaseRoutesNow x) ↔ Keeps m s x := by
  simp only [List.cons_subset, List.nil_subset, and_true] at h
  unfold releaseRoutesNow
  try dsimp only
  (repeat' split) <;> simp [h]

@[simp] theorem keeps_holdExpired {m : List StateField} (h : [.handoffs, .xpc, .sou] ⊆ m) (s x : State) :
    Keeps m s (holdExpired x) ↔ Keeps m s x := by
  simp only [List.cons_subset, List.nil_subset, and_true] at h
  unfold holdExpired
  simp [h]

@[simp] theorem keeps_holdLimitWritten {m : List StateField} (h : [.handoffs, .xpc, .sou] ⊆ m) (s x : State) :
    Keeps m s (holdLimitWritten x) ↔ Keeps m s x := by
  simp only [List.cons_subset, List.nil_subset, and_true] at h
  unfold holdLimitWritten
  try dsimp only
  (repeat' split) <;> simp [h]

@[simp] theorem keeps_switchFieldsWritten {m : List StateField} (h : [.handoffs, .xpc, .sou] ⊆ m) (sc : Screen) (e : ScreenEntry) (s x : State) :
    Keeps m s (switchFieldsWritten sc e x) ↔ Keeps m s x := by
  simp only [List.cons_subset, List.nil_subset, and_true] at h
  unfold switchFieldsWritten
  try dsimp only
  (repeat' split) <;> simp [h]

@[simp] theorem keeps_clearRouting {m : List StateField} (h : [.xpc] ⊆ m) (s x : State) :
    Keeps m s (clearRouting x) ↔ Keeps m s x := by
  simp only [List.cons_subset, List.nil_subset, and_true] at h
  unfold clearRouting
  simp [h]

@[simp] theorem keeps_restartScreen {m : List StateField} (h : [.handoffs, .xpc, .sou] ⊆ m) (f : RouteField) (sc : Screen) (s x : State) :
    Keeps m s (restartScreen f sc x) ↔ Keeps m s x := by
  simp only [List.cons_subset, List.nil_subset, and_true] at h
  unfold restartScreen
  try dsimp only
  (repeat' split) <;> simp [h]

@[simp] theorem keeps_restartRouting {m : List StateField} (h : [.handoffs, .xpc, .sou] ⊆ m) (s x : State) :
    Keeps m s (restartRouting x) ↔ Keeps m s x := by
  simp only [List.cons_subset, List.nil_subset, and_true] at h
  unfold restartRouting
  simp [h]

/-! ## Dim Stages -/

@[simp] theorem keeps_retarget {m : List StateField} (h : [.dms] ⊆ m) (sc : Screen) (s x : State) :
    Keeps m s (retarget sc x) ↔ Keeps m s x := by
  simp only [List.cons_subset, List.nil_subset, and_true] at h
  unfold retarget
  simp [h]

@[simp] theorem keeps_retargetAll {m : List StateField} (h : [.dms] ⊆ m) (s x : State) :
    Keeps m s (retargetAll x) ↔ Keeps m s x := by
  simp only [List.cons_subset, List.nil_subset, and_true] at h
  unfold retargetAll
  simp [h]

@[simp] theorem keeps_enterPhase {m : List StateField} (h : [.dms] ⊆ m) (sc : Screen) (k : FadePhase) (s x : State) :
    Keeps m s (enterPhase sc k x) ↔ Keeps m s x := by
  simp only [List.cons_subset, List.nil_subset, and_true] at h
  unfold enterPhase
  simp [h]

@[simp] theorem keeps_reportFadeWait {m : List StateField} (h : [.handoffs] ⊆ m) (sc : Screen) (s x : State) :
    Keeps m s (reportFadeWait sc x) ↔ Keeps m s x := by
  simp only [List.cons_subset, List.nil_subset, and_true] at h
  unfold reportFadeWait
  try dsimp only
  (repeat' split) <;> simp [h]

@[simp] theorem keeps_enterFadeWait {m : List StateField} (h : [.handoffs, .dms] ⊆ m) (sc : Screen) (s x : State) :
    Keeps m s (enterFadeWait sc x) ↔ Keeps m s x := by
  simp only [List.cons_subset, List.nil_subset, and_true] at h
  unfold enterFadeWait
  simp [h]

@[simp] theorem keeps_dimStep {m : List StateField} (h : [.handoffs, .dms] ⊆ m) (sc : Screen) (s x : State) :
    Keeps m s (dimStep sc x) ↔ Keeps m s x := by
  simp only [List.cons_subset, List.nil_subset, and_true] at h
  unfold dimStep
  try dsimp only
  (repeat' split) <;> simp [h]

@[simp] theorem keeps_frameStepped {m : List StateField} (h : [.handoffs, .dms] ⊆ m) (sc : Screen) (v : Source) (s x : State) :
    Keeps m s (frameStepped sc v x) ↔ Keeps m s x := by
  simp only [List.cons_subset, List.nil_subset, and_true] at h
  unfold frameStepped
  split <;> simp [h]

@[simp] theorem keeps_takeFade {m : List StateField} (h : [.handoffs, .dms] ⊆ m) (sc : Screen) (n : Nat) (s x : State) :
    Keeps m s (takeFade sc n x) ↔ Keeps m s x := by
  simp only [List.cons_subset, List.nil_subset, and_true] at h
  unfold takeFade
  try dsimp only
  (repeat' split) <;> simp [h]

@[simp] theorem keeps_takeDrop {m : List StateField} (h : [.handoffs, .dms] ⊆ m) (sc : Screen) (s x : State) :
    Keeps m s (takeDrop sc x) ↔ Keeps m s x := by
  simp only [List.cons_subset, List.nil_subset, and_true] at h
  unfold takeDrop
  try dsimp only
  (repeat' split) <;> simp [h]

@[simp] theorem keeps_fadeWrittenOff {m : List StateField} (h : [.dms] ⊆ m) (sc : Screen) (s x : State) :
    Keeps m s (fadeWrittenOff sc x) ↔ Keeps m s x := by
  simp only [List.cons_subset, List.nil_subset, and_true] at h
  unfold fadeWrittenOff
  try dsimp only
  (repeat' split) <;> simp [h]

@[simp] theorem keeps_tickUpdate {m : List StateField} (h : [.dms] ⊆ m) (sc : Screen) (b : Bool) (s x : State) :
    Keeps m s (tickUpdate sc b x) ↔ Keeps m s x := by
  simp only [List.cons_subset, List.nil_subset, and_true] at h
  unfold tickUpdate
  try dsimp only
  (repeat' split) <;> simp [h]

@[simp] theorem keeps_startTicks {m : List StateField} (h : [.dms] ⊆ m) (s x : State) :
    Keeps m s (startTicks x) ↔ Keeps m s x := by
  simp only [List.cons_subset, List.nil_subset, and_true] at h
  unfold startTicks
  simp [h]

@[simp] theorem keeps_tickExpires {m : List StateField} (h : [.handoffs, .dms] ⊆ m) (sc : Screen) (s x : State) :
    Keeps m s (tickExpires sc x) ↔ Keeps m s x := by
  simp only [List.cons_subset, List.nil_subset, and_true] at h
  unfold tickExpires
  simp [h]

@[simp] theorem keeps_dimSourceChange {m : List StateField} (h : [.dms] ⊆ m) (sc : Screen) (v : Source) (st : SourceState) (s x : State) :
    Keeps m s (dimSourceChange sc v st x) ↔ Keeps m s x := by
  simp only [List.cons_subset, List.nil_subset, and_true] at h
  unfold dimSourceChange
  try dsimp only
  (repeat' split) <;> simp [h]

@[simp] theorem keeps_dimSwitch {m : List StateField} (h : [.dms] ⊆ m) (sc : Screen) (v : Option Source) (s x : State) :
    Keeps m s (dimSwitch sc v x) ↔ Keeps m s x := by
  simp only [List.cons_subset, List.nil_subset, and_true] at h
  unfold dimSwitch
  try dsimp only
  (repeat' split) <;> simp [h]

@[simp] theorem keeps_dimWake {m : List StateField} (h : [.handoffs, .dms] ⊆ m) (sc : Screen) (s x : State) :
    Keeps m s (dimWake sc x) ↔ Keeps m s x := by
  simp only [List.cons_subset, List.nil_subset, and_true] at h
  unfold dimWake
  try dsimp only
  (repeat' split) <;> simp [h]

@[simp] theorem keeps_dimRestart {m : List StateField} (h : [.dms] ⊆ m) (s x : State) :
    Keeps m s (dimRestart x) ↔ Keeps m s x :=
  keeps_iff_of (l := [.dms]) (by intro f hf; cases f <;> first | rfl | exact absurd (by decide) hf) h

/-! ## Management Frame Engine -/

@[simp] theorem keeps_sendReply {m : List StateField} (h : [.sent] ⊆ m) (k : Nat) (q : Request) (r : Reply) (s x : State) :
    Keeps m s (sendReply k q r x) ↔ Keeps m s x := by
  simp only [List.cons_subset, List.nil_subset, and_true] at h
  unfold sendReply
  simp [h]

@[simp] theorem keeps_answerBad {m : List StateField} (h : [.sent] ⊆ m) (k : Nat) (q : Request) (s x : State) :
    Keeps m s (answerBad k q x) ↔ Keeps m s x := by
  simp only [List.cons_subset, List.nil_subset, and_true] at h
  unfold answerBad
  try dsimp only
  (repeat' split) <;> simp [h]

@[simp] theorem keeps_storeDesk {m : List StateField} (h : [.handoffs, .tables, .hkm, .xpc, .dms, .sou, .mfe] ⊆ m) (e : DeskRecord) (s x : State) :
    Keeps m s (storeDesk e x) ↔ Keeps m s x := by
  simp only [List.cons_subset, List.nil_subset, and_true] at h
  unfold storeDesk
  try dsimp only
  (repeat' split) <;> simp [h]

@[simp] theorem keeps_storePort {m : List StateField} (h : [.handoffs, .sent, .tables, .cpe] ⊆ m) (p : Port) (e : PortEntry) (s x : State) :
    Keeps m s (storePort p e x) ↔ Keeps m s x := by
  simp only [List.cons_subset, List.nil_subset, and_true] at h
  unfold storePort
  simp [h]

@[simp] theorem keeps_storeSource {m : List StateField} (h : [.handoffs, .tables, .fcu, .cpe, .sou] ⊆ m) (v : Source) (e : SourceEntry) (s x : State) :
    Keeps m s (storeSource v e x) ↔ Keeps m s x := by
  simp only [List.cons_subset, List.nil_subset, and_true] at h
  unfold storeSource
  try dsimp only
  (repeat' split) <;> simp [h]

@[simp] theorem keeps_storeScreen {m : List StateField} (h : [.handoffs, .tables, .glu, .fcu, .cpe, .xpc, .dms, .sou] ⊆ m) (sc : Screen) (e : ScreenEntry) (s x : State) :
    Keeps m s (storeScreen sc e x) ↔ Keeps m s x := by
  simp only [List.cons_subset, List.nil_subset, and_true] at h
  unfold storeScreen
  try dsimp only
  (repeat' split) <;> simp [h]

@[simp] theorem keeps_storeLayout {m : List StateField} (h : [.tables] ⊆ m) (l : LayoutNo) (e : LayoutEntry) (s x : State) :
    Keeps m s (storeLayout l e x) ↔ Keeps m s x := by
  simp only [List.cons_subset, List.nil_subset, and_true] at h
  unfold storeLayout
  simp [h]

@[simp] theorem keeps_storeHotkey {m : List StateField} (h : [.handoffs, .tables, .hkm] ⊆ m) (n : EntryNo) (e : HotkeyEntry) (s x : State) :
    Keeps m s (storeHotkey n e x) ↔ Keeps m s x := by
  simp only [List.cons_subset, List.nil_subset, and_true] at h
  unfold storeHotkey
  simp [h]

@[simp] theorem keeps_startPacing {m : List StateField} (h : [.mfe] ⊆ m) (s x : State) :
    Keeps m s (startPacing x) ↔ Keeps m s x := by
  simp only [List.cons_subset, List.nil_subset, and_true] at h
  unfold startPacing
  try dsimp only
  (repeat' split) <;> simp [h]

@[simp] theorem keeps_takeNotice {m : List StateField} (h : [.sent, .mfe] ⊆ m) (k : NoticeKind) (s x : State) :
    Keeps m s (takeNotice k x) ↔ Keeps m s x := by
  simp only [List.cons_subset, List.nil_subset, and_true] at h
  unfold takeNotice
  try dsimp only
  (repeat' split) <;> simp [h]

@[simp] theorem keeps_pacingExpires {m : List StateField} (h : [.sent, .mfe] ⊆ m) (s x : State) :
    Keeps m s (pacingExpires x) ↔ Keeps m s x := by
  simp only [List.cons_subset, List.nil_subset, and_true] at h
  unfold pacingExpires
  try dsimp only
  (repeat' split) <;> simp [h]

@[simp] theorem keeps_latchCounters {m : List StateField} (h : [.mfe] ⊆ m) (s x : State) :
    Keeps m s (latchCounters x) ↔ Keeps m s x := by
  simp only [List.cons_subset, List.nil_subset, and_true] at h
  unfold latchCounters
  simp [h]

@[simp] theorem keeps_finishRequest {m : List StateField} (h : [.sent, .mfe] ⊆ m) (p : Port) (r : Reply) (s x : State) :
    Keeps m s (finishRequest p r x) ↔ Keeps m s x := by
  simp only [List.cons_subset, List.nil_subset, and_true] at h
  unfold finishRequest
  try dsimp only
  (repeat' split) <;> simp [h]

@[simp] theorem keeps_startSave {m : List StateField} (h : [.memory, .mfe] ⊆ m) (q : Request) (s x : State) :
    Keeps m s (startSave q x) ↔ Keeps m s x :=
  keeps_iff_of (l := [.memory, .mfe]) (by intro f hf; cases f <;> first | rfl | exact absurd (by decide) hf) h

/-- An expiry whose effect leaves a frame undisturbed leaves it undisturbed, when the frame lists the timebase. -/
@[simp] theorem keeps_onExpiry {m : List StateField} {s : State} {f : State → State} (h : [.timebase] ⊆ m)
    (k : ∀ y, Keeps m s (f y) ↔ Keeps m s y) (t : Timer) (x : State) :
    Keeps m s (x.onExpiry t f) ↔ Keeps m s x := by
  unfold State.onExpiry
  split
  · rfl
  · rw [k, keeps_reach h]

/-- A served request leaves a frame undisturbed that lists what is sent and what its effect touches. -/
theorem keeps_serve {m : List StateField} {s : State} {f : State → State × Reply} (h : [.sent] ⊆ m)
    (k : ∀ y, Keeps m s (f y).1 ↔ Keeps m s y) (n : Nat) (q : Request) (x : State) :
    Keeps m s (serve n q f x) ↔ Keeps m s x := by
  unfold serve
  (repeat' split) <;> simp [h, k]

/-- A checked write leaves a frame undisturbed that lists what its store touches. -/
theorem keeps_writeEntry {m : List StateField} {s : State} {k : Nat} {α : Type} {c : Option (α × Bool)}
    {d g : Fin k → α → Bool} {store : Fin k → α → State → State}
    (h : ∀ i e y, Keeps m s (store i e y) ↔ Keeps m s y) (q : Request) (x : State) :
    Keeps m s (writeEntry q c d g store x).1 ↔ Keeps m s x := by
  unfold writeEntry
  (repeat' split) <;> simp [h]

/-- A request with arguments leaves a frame undisturbed that lists what its effect touches. -/
theorem keeps_withArgs {m : List StateField} {s : State} {α : Type} {f : α → State → State}
    (h : ∀ a y, Keeps m s (f a y) ↔ Keeps m s y) (a : Option α) (x : State) :
    Keeps m s (withArgs a f x).1 ↔ Keeps m s x := by
  unfold withArgs
  split <;> simp [h]

/-! ## Restarts -/

@[simp] theorem keeps_loadTables {m : List StateField} (h : [.tables, .mfe] ⊆ m) (b : Bool) (s x : State) :
    Keeps m s (loadTables b x) ↔ Keeps m s x := by
  simp only [List.cons_subset, List.nil_subset, and_true] at h
  unfold loadTables
  try dsimp only
  (repeat' split) <;> simp [h]

@[simp] theorem keeps_settleScreens {m : List StateField} (h : [.handoffs, .glu, .dms, .wkc, .sou] ⊆ m) (s x : State) :
    Keeps m s (settleScreens x) ↔ Keeps m s x := by
  simp only [List.cons_subset, List.nil_subset, and_true] at h
  unfold settleScreens
  simp [h]

@[simp] theorem keeps_loadEnds {m : List StateField}
    (h : [.handoffs, .sent, .loading, .tables, .cip, .hkm, .glu, .xpc, .dms, .sou, .wkc, .mfe] ⊆ m) (a k p : Bool)
    (s x : State) : Keeps m s (loadEnds a k p x) ↔ Keeps m s x := by
  simp only [List.cons_subset, List.nil_subset, and_true] at h
  have hl : ∀ y : State, Keeps m s { y with loading := false } ↔ Keeps m s y := fun y =>
    keeps_iff_of (l := [.loading]) (by intro f hf; cases f <;> first | rfl | exact absurd (by decide) hf) (by simp [h])
  unfold loadEnds
  dsimp only
  (repeat' split) <;> simp [h, hl]

/-- A change made quietly leaves a frame undisturbed that lists the hand-offs, when the change itself does. -/
theorem keeps_quietly {m : List StateField} {s : State} {f : State → State} (h : [.handoffs] ⊆ m)
    (k : ∀ y, Keeps m s (f y) ↔ Keeps m s y) (x : State) : Keeps m s (quietly f x) ↔ Keeps m s x := by
  have hh : ∀ (y : State) (l : List Handoff), Keeps m s { y with handoffs := l } ↔ Keeps m s y := fun y l =>
    keeps_iff_of (l := [.handoffs]) (by intro f hf; cases f <;> first | rfl | exact absurd (by decide) hf) h
  unfold quietly
  dsimp only
  rw [hh, k, hh]

@[simp] theorem keeps_focusRestart {m : List StateField} (h : [.handoffs, .fcu] ⊆ m) (s x : State) :
    Keeps m s (focusRestart x) ↔ Keeps m s x := by
  simp only [List.cons_subset, List.nil_subset, and_true] at h
  unfold focusRestart
  try dsimp only
  (repeat' split) <;> simp [h]

@[simp] theorem keeps_notePorts {m : List StateField} (h : [.handoffs] ⊆ m) (b s x : State) :
    Keeps m s (notePorts b x) ↔ Keeps m s x := by
  unfold notePorts
  refine keeps_foldl (fun t p => ?_) _ _
  split <;> simp [h]

@[simp] theorem keeps_finishPointer {m : List StateField} (h : [.handoffs, .glu, .fcu, .cpe] ⊆ m) (s x : State) :
    Keeps m s (finishPointer x) ↔ Keeps m s x := by
  simp only [List.cons_subset, List.nil_subset, and_true] at h
  unfold finishPointer
  (repeat' split) <;> simp [h]

@[simp] theorem keeps_takenBefore {m : List StateField} (h : [.handoffs, .hkm, .cpe, .dms] ⊆ m) (c : Instr) (s x : State) :
    Keeps m s (takenBefore x c) ↔ Keeps m s x := by
  simp only [List.cons_subset, List.nil_subset, and_true] at h
  unfold takenBefore
  (repeat' split) <;> simp [h]

@[simp] theorem keeps_takeBeforeRestart {m : List StateField} (h : [.handoffs, .hkm, .glu, .fcu, .cpe, .dms] ⊆ m) (s x : State) :
    Keeps m s (takeBeforeRestart x) ↔ Keeps m s x := by
  simp only [List.cons_subset, List.nil_subset, and_true] at h
  unfold takeBeforeRestart
  dsimp only
  rw [keeps_foldl (fun t a => keeps_takenBefore (by simp [h]) _ _ _), keeps_finishPointer (by simp [h])]

@[simp] theorem keeps_restartInput {m : List StateField} (h : [.handoffs, .sent, .hkm, .glu, .fcu, .cpe, .dms] ⊆ m) (s x : State) :
    Keeps m s (restartInput x) ↔ Keeps m s x := by
  simp only [List.cons_subset, List.nil_subset, and_true] at h
  have hh : ∀ (y : State) (l : List Handoff), Keeps m s { y with handoffs := l } ↔ Keeps m s y := fun y l =>
    keeps_iff_of (l := [.handoffs]) (by intro f hf; cases f <;> first | rfl | exact absurd (by decide) hf) (by simp [h])
  unfold restartInput
  dsimp only
  rw [keeps_notePorts (by simp [h]), keeps_quietly (by simp [h]) (fun y => by simp [h]), keeps_focusRestart (by simp [h]),
    keeps_quietly (by simp [h]) (fun y => by simp [h]), keeps_matcherRestart (by simp [h]), hh,
    keeps_takeBeforeRestart (by simp [h])]

@[simp] theorem keeps_deskRestarts {m : List StateField}
    (h : [.handoffs, .sent, .cip, .hkm, .glu, .fcu, .cpe, .xpc, .dms, .sou, .wkc] ⊆ m) (s x : State) :
    Keeps m s (deskRestarts x) ↔ Keeps m s x := by
  simp only [List.cons_subset, List.nil_subset, and_true] at h
  unfold deskRestarts
  simp [h]

@[simp] theorem keeps_takeRestart {m : List StateField} (h : [.handoffs, .sent, .cip, .hkm, .glu, .fcu, .cpe, .xpc, .dms, .sou, .wkc, .mfe] ⊆ m) (q : Request) (s x : State) :
    Keeps m s (takeRestart q x) ↔ Keeps m s x := by
  simp only [List.cons_subset, List.nil_subset, and_true] at h
  unfold takeRestart
  try dsimp only
  (repeat' split) <;> simp [h]

@[simp] theorem keeps_restartDone {m : List StateField} (h : [.sent, .mfe] ⊆ m) (p : Port) (s x : State) :
    Keeps m s (restartDone p x) ↔ Keeps m s x := by
  simp only [List.cons_subset, List.nil_subset, and_true] at h
  unfold restartDone
  try dsimp only
  (repeat' split) <;> simp [h]

@[simp] theorem keeps_takeSave {m : List StateField} (h : [.sent, .memory, .mfe] ⊆ m) (q : Request) (s x : State) :
    Keeps m s (takeSave q x) ↔ Keeps m s x := by
  simp only [List.cons_subset, List.nil_subset, and_true] at h
  unfold takeSave
  try dsimp only
  (repeat' split) <;> simp [h]

@[simp] theorem keeps_endSave {m : List StateField} (h : [.handoffs, .sent, .memory, .mfe] ⊆ m) (o : SaveOutcome)
    (s x : State) : Keeps m s (endSave o x) ↔ Keeps m s x := by
  simp only [List.cons_subset, List.nil_subset, and_true] at h
  have hh : ∀ (y : State) (a : SettingsMemory) (b : Mfe), Keeps m s { y with memory := a, mfe := b } ↔ Keeps m s y :=
    fun y a b => keeps_iff_of (l := [.memory, .mfe])
      (by intro f hf; cases f <;> first | rfl | exact absurd (by decide) hf) (by simp [h])
  unfold endSave
  split
  · rfl
  · dsimp only
    rw [keeps_raise (by simp [h]), keeps_finishRequest (by simp [h]), hh]

end Sys2Proof.Machine
end

