-- ==== Sys2Proof/Laws/Handing.lean ====
section
/-!
SUPPORT. What the operations that hand work to several blocks hand, said once for each as a change of the hand-offs alone, and what a
change of link state, a pointer event in flight and the console's work in hand do.
-/

namespace Sys2Proof.Machine

/-- One hand-off for each member of a list that has a property. -/
theorem foldl_hand {α : Type} (src : Block) (c : α → Instr) (l : List α) (s : State) :
    l.foldl (fun t a => t.hand src (c a)) s = { s with handoffs := s.handoffs ++ l.map (fun a => { src := src, cmd := c a }) } := by
  induction l generalizing s with
  | nil => simp
  | cons a l ih => simp only [List.foldl_cons, ih]; simp [State.hand]

/-- One hand-off for each member of a list that has a property. -/
theorem foldl_handIf {α : Type} (src : Block) (c : α → Instr) (q : α → Prop) [DecidablePred q] (l : List α) (s : State) :
    l.foldl (fun t a => if q a then t.hand src (c a) else t) s =
      { s with handoffs := s.handoffs ++ (l.filter (fun a => decide (q a))).map (fun a => { src := src, cmd := c a }) } := by
  induction l generalizing s with
  | nil => simp
  | cons a l ih => simp only [List.foldl_cons, ih]; by_cases h : q a <;> simp [h, State.hand]

theorem handEachScreen_eq (src : Block) (c : Screen → Instr) (s : State) :
    s.handEachScreen src c = { s with handoffs := s.handoffs ++ allScreens.map (fun sc => { src := src, cmd := c sc }) } :=
  foldl_hand src c allScreens s

theorem refreshDims_eq (s : State) :
    refreshDims s = { s with handoffs := s.handoffs ++ allScreens.map (fun sc => { src := .fcu, cmd := .targetRefresh sc }) } :=
  handEachScreen_eq .fcu .targetRefresh s

/-- A change of source state hands it on and does nothing else (R111). -/
theorem handSourceState_eq (v : Source) (old st : SourceState) (s : State) :
    handSourceState v old st s = { s with handoffs := s.handoffs ++ handedByState v old st } := by
  simp only [handSourceState, handEachScreen_eq]
  simp [handedByState, State.hand]

/-- A frame start of a Locked source is handed on (R111). -/
theorem handFrame_eq (v : Source) (s : State) :
    handFrame v s = { s with handoffs := s.handoffs ++ handedByFrame s v } := by
  simp only [handFrame, foldl_handIf, Bool.decide_eq_true]
  simp [handedByFrame, State.hand]

/-- A fired action hands what R31 to R33 give its kind and does nothing else. -/
theorem fireAction_eq (n : EntryNo) (held : Bool) (a : Action) (s : State) :
    fireAction n held a s = { s with handoffs := s.handoffs ++ handedByAction s n held a } := by
  cases a
  case wake c =>
    cases c with
    | none => cases h : s.screenOwner s.glu.screen <;> simp [fireAction, handedByAction, h, State.hand]
    | some c => rfl
  case wakeAll => simp [fireAction, handedByAction, foldl_hand, Function.comp_def]
  all_goals (cases held <;> rfl)

/-- A revert hands what R33 gives its kind and does nothing else. -/
theorem revertAction_eq (n : EntryNo) (a : Action) (s : State) :
    revertAction n a s = { s with handoffs := s.handoffs ++ handedByRevert n a } := by
  cases a <;> simp [revertAction, handedByRevert, State.hand]

/-- The delivery of the buffer hands the withheld events and empties it (R24). -/
theorem deliverBuffer_eq (s : State) :
    deliverBuffer s = { s with handoffs := s.handoffs ++ withheld s, hkm := { s.hkm with buffer := [] } } := by
  simp only [deliverBuffer, passEvent, foldl_hand .hkm (fun e : Key × Bool => .passedEvent e.1 e.2)]
  rfl

/-- A change of link state (R82). -/
theorem moveLink_eq (p : Port) (st : LinkState) (s : State) :
    moveLink p st s = { s with
      cpe := s.cpe.set p { s.cpe.get p with linkState := st }
      handoffs := s.handoffs ++ handedByMove p (s.cpe.get p).linkState st } := by
  by_cases h : (s.cpe.get p).linkState = st
  · have e : ({ s.cpe.get p with linkState := st } : Cpe) = s.cpe.get p := by rw [← h]
    simp [moveLink, handedByMove, h, e]
  · by_cases ha : (s.cpe.get p).linkState = .active ∨ st = .active <;>
      simp [moveLink, handedByMove, h, ha, State.modCpe, Tab.upd, State.raise, State.hand]

/-- The leave and join indications between two sets of keyboard targets (R65, step 4). -/
theorem leaveJoin_eq (before s : State) :
    leaveJoin before s = { s with
      handoffs := s.handoffs ++ allPorts.filterMap (fun p =>
        if before.isTarget p = true ∧ s.isTarget p = false then some { src := .fcu, cmd := .leaveIndication p }
        else if before.isTarget p = false ∧ s.isTarget p = true then
          some { src := .fcu, cmd := .joinIndication p s.fcu.passedKeys }
        else none) } := by
  unfold leaveJoin
  suffices h : ∀ (l : List Port) (t : State), l.foldl (fun t p =>
      if before.isTarget p && !s.isTarget p then t.hand .fcu (.leaveIndication p)
      else if !before.isTarget p && s.isTarget p then t.hand .fcu (.joinIndication p s.fcu.passedKeys)
      else t) t = { t with
        handoffs := t.handoffs ++ l.filterMap (fun p =>
          if before.isTarget p = true ∧ s.isTarget p = false then some { src := .fcu, cmd := .leaveIndication p }
          else if before.isTarget p = false ∧ s.isTarget p = true then
            some { src := .fcu, cmd := .joinIndication p s.fcu.passedKeys }
          else none) } from h allPorts s
  intro l
  induction l with
  | nil => intro t; simp
  | cons a l ih =>
    intro t
    simp only [List.foldl_cons, ih]
    cases hb : before.isTarget a <;> cases hs : s.isTarget a <;> simp [hb, hs, State.hand]

/-- A change of keyboard focus (R65, R67). -/
theorem changeFocus_eq (new : Option Computer) (cause : FocusCause) (jump keepSlot : Bool) (s : State)
    (h : s.fcu.focus ≠ new) :
    changeFocus new cause jump keepSlot s = { s with
      fcu := { s.fcu with slot := if keepSlot then s.fcu.slot else none, focus := new, lastCause := cause }
      handoffs := s.handoffs ++ handedByFocus s new cause jump } := by
  unfold changeFocus
  rw [if_neg h]
  simp only [refreshDims_eq, leaveJoin_eq, handedByFocus]
  cases hf : s.fcu.focus <;> cases jump <;> cases new <;>
    simp [askHome, askJump, wakeFocus, State.hand, State.raise, State.modFcu, State.isTarget, hf, List.filter_cons]
  all_goals (split <;> simp_all)

/-- Changing the keyboard focus to what it is changes nothing. -/
theorem changeFocus_same (new : Option Computer) (cause : FocusCause) (jump keepSlot : Bool) (s : State)
    (h : s.fcu.focus = new) : changeFocus new cause jump keepSlot s = s := by simp [changeFocus, h]

/-- A change of keyboard focus with a jump, to another computer and to the one that has it (R69). -/
theorem focusTo_eq (c : Computer) (cause : FocusCause) (keepSlot : Bool) (s : State) :
    focusTo c cause keepSlot s =
      if s.fcu.focus = some c then { s with handoffs := s.handoffs ++ [{ src := .fcu, cmd := .jumpRequest c cause }] }
      else { s with
        fcu := { s.fcu with slot := if keepSlot then s.fcu.slot else none, focus := some c, lastCause := cause }
        handoffs := s.handoffs ++ handedByFocus s (some c) cause true } := by
  unfold focusTo
  split
  · rfl
  · next h => exact changeFocus_eq (some c) cause true keepSlot s h

/-! ## Pointer events (R54, R62, R66) -/

@[simp] theorem pointerEvents_nil : pointerEvents [] = [] := rfl

@[simp] theorem pointerEvents_append (a b : List Handoff) : pointerEvents (a ++ b) = pointerEvents a ++ pointerEvents b :=
  List.filterMap_append

/-- With no pointer event handed, there is none to finish. -/
theorem finishPointer_none (s : State) (h : pointerEvents s.handoffs = []) : finishPointer s = s := by
  simp [finishPointer, h]

/-- The oldest pointer event handed is taken. -/
theorem finishPointer_first (e : PointerEvent) (rest : List PointerEvent) (s : State) (h : pointerEvents s.handoffs = e :: rest) :
    finishPointer s = takePointerEvent e (s.taking (.pointerEvent e)) := by
  simp [finishPointer, h]

/-- A hand-off in front is a pointer event, or counts for none. -/
theorem pointerEvents_cons (a : Handoff) (hs : List Handoff) :
    (∃ e, a.cmd = .pointerEvent e ∧ pointerEvents (a :: hs) = e :: pointerEvents hs)
    ∨ ((∀ e, a.cmd ≠ .pointerEvent e) ∧ pointerEvents (a :: hs) = pointerEvents hs) := by
  by_cases h : ∃ e, a.cmd = .pointerEvent e
  · obtain ⟨e, h⟩ := h
    exact .inl ⟨e, h, by simp [pointerEvents, h]⟩
  · have n : ∀ e, a.cmd ≠ .pointerEvent e := fun e c => h ⟨e, c⟩
    refine .inr ⟨n, ?_⟩
    unfold pointerEvents
    rw [List.filterMap_cons]
    split
    · rfl
    · next e c =>
      split at c
      · next x k => exact absurd k (n x)
      · cases c

/-- A taken pointer event leaves the later ones. -/
theorem pointerEvents_withoutFirst (e : PointerEvent) (hs : List Handoff) (rest : List PointerEvent)
    (h : pointerEvents hs = e :: rest) : pointerEvents (withoutFirst (.pointerEvent e) hs) = rest := by
  induction hs with
  | nil => cases h
  | cons a hs ih =>
    rcases pointerEvents_cons a hs with ⟨x, c, k⟩ | ⟨n, k⟩
    · rw [k] at h
      cases h
      rw [withoutFirst, if_pos c]
    · rw [withoutFirst, if_neg (n e)]
      rcases pointerEvents_cons a (withoutFirst (.pointerEvent e) hs) with ⟨x, c, _⟩ | ⟨_, k'⟩
      · exact absurd c (n x)
      · rw [k']; exact ih (k ▸ h)

/-- One change of each port of a list without repeats. -/
theorem foldl_modCpe_get (f : Cpe → Cpe) (l : List Port) (n : l.Nodup) (s : State) (p : Port) :
    (l.foldl (fun s q => s.modCpe q f) s).cpe.get p = if p ∈ l then f (s.cpe.get p) else s.cpe.get p := by
  induction l generalizing s with
  | nil => rfl
  | cons a l ih =>
    obtain ⟨ha, hl⟩ := List.nodup_cons.mp n
    rw [List.foldl_cons, ih hl]
    by_cases h : p = a
    · subst h; simp [ha, State.modCpe, Tab.upd]
    · simp [h, State.modCpe, Tab.upd]

/-- The released buttons leave every port's pointer-ignore set (R66). -/
theorem dropIgnored_get (released : Buttons) (s : State) (p : Port) :
    (dropIgnored released s).cpe.get p =
      { s.cpe.get p with pointerIgnored := Flags.minus (s.cpe.get p).pointerIgnored released } := by
  have n : allPorts.Nodup := List.nodup_finRange 6
  have m : p ∈ allPorts := List.mem_finRange p
  rw [dropIgnored, foldl_modCpe_get _ _ n, if_pos m]

/-! ## The Console Input Port going on (R4) -/

/-- While a key event is on its way to the matcher, the Console Input Port waits. -/
theorem consoleGoesOn_inFlight (s : State) (h : s.keyEventInFlight = true) : consoleGoesOn s = s := by
  have settles : consoleSettles s = s := by simp [consoleSettles, consoleRun, h]
  simp [consoleGoesOn, emitNext, settles, h]

/-- With no work in hand, the Console Input Port has nothing to do. -/
theorem consoleGoesOn_idle (s : State) (h : s.cip.work = []) : consoleGoesOn s = s := by
  have settles : consoleSettles s = s := by simp [consoleSettles, consoleRun, h]
  simp [consoleGoesOn, emitNext, settles, h]

/-- With only key events in hand and none on its way, the next one is emitted. -/
theorem consoleGoesOn_event (k : Key) (press : Bool) (rest : List ConsoleWork) (s : State) (h : s.keyEventInFlight = false)
    (w : s.cip.work = .event k press :: rest) (r : ∀ x ∈ rest, ∃ (a : Key) (b : Bool), x = .event a b) :
    consoleGoesOn s = emitKeyEvent k press (s.modCip (fun c => { c with work := rest })) := by
  have settles : consoleSettles s = s := by simp [consoleSettles, consoleRun, h, w]
  have next : emitNext s = emitKeyEvent k press (s.modCip (fun c => { c with work := rest })) := by simp [emitNext, h, w]
  rw [consoleGoesOn, settles, next]
  generalize hq : emitKeyEvent k press (s.modCip (fun c => { c with work := rest })) = q
  have hw : q.cip.work = rest := by
    rw [← hq]; unfold emitKeyEvent; dsimp only; (repeat' split) <;> rfl
  unfold consoleSettles
  rw [hw]
  unfold consoleRun
  split
  · rfl
  · rw [hw]
    cases rest with
    | nil => rfl
    | cons x xs =>
      obtain ⟨a, b, rfl⟩ := r x (by simp)
      rfl

end Sys2Proof.Machine
end

