-- ==== Sys2Proof/Laws/Routing.lean ====
section
/-!
SUPPORT. What the operations of the Crosspoint Controller do to the route records, said once for each: a pending that takes effect, a
pending that is tested, the folds over the screens, and a request; and what a screen that leaves does to the layout in flight.
-/

namespace Sys2Proof.Machine

/-! ## What a routing decision reads -/

/-- Two states agree on what decides whether a pending takes effect. -/
structure SameRouting (s t : State) : Prop where
  hold : t.xpc.hold = s.xpc.hold
  fadeWait : t.xpc.fadeWait = s.xpc.fadeWait
  tables : t.tables = s.tables
  fmn : t.fmn = s.fmn

theorem SameRouting.refl (s : State) : SameRouting s s := ⟨rfl, rfl, rfl, rfl⟩

theorem SameRouting.trans {s t u : State} (h : SameRouting s t) (k : SameRouting t u) : SameRouting s u :=
  ⟨k.hold.trans h.hold, k.fadeWait.trans h.fadeWait, k.tables.trans h.tables, k.fmn.trans h.fmn⟩

theorem routeReady_iff (s : State) (sc : Screen) : s.routeReady sc = true ↔
    s.xpc.hold = none ∧ ((s.screenEntry sc).fade = false ∨ s.xpc.fadeWait.get sc = true) := by
  simp [State.routeReady]

theorem SameRouting.ready {s t : State} (h : SameRouting s t) (sc : Screen) : t.routeReady sc = s.routeReady sc := by
  simp [State.routeReady, State.screenEntry, h.hold, h.fadeWait, h.tables]

/-! ## A switch -/

theorem recomputeBlanked_others (o : ShareOut) (s : State) :
    (recomputeBlanked o s).xpc = s.xpc ∧ (recomputeBlanked o s).tables = s.tables ∧ (recomputeBlanked o s).fmn = s.fmn := by
  simp only [recomputeBlanked]
  split <;> simp [State.raise, State.hand]

theorem followSwitch_others (sc : Screen) (v : Option Source) (s : State) :
    (followSwitch sc v s).xpc = s.xpc ∧ (followSwitch sc v s).tables = s.tables ∧ (followSwitch sc v s).fmn = s.fmn := by
  unfold followSwitch
  apply foldl_invariant (fun t : State => t.xpc = s.xpc ∧ t.tables = s.tables ∧ t.fmn = s.fmn)
  · intro b a h
    split
    · simp only [setShareMode, recomputeBlanked_others]
      simpa using h
    · exact h
  · simp

theorem handSwitch_others (sc : Screen) (v : Option Source) (s : State) :
    (handSwitch sc v s).xpc = s.xpc ∧ (handSwitch sc v s).tables = s.tables ∧ (handSwitch sc v s).fmn = s.fmn := by
  simp [handSwitch, followSwitch_others]

/-- A screen that leaves the layout in flight changes no route record and nothing that a routing decision reads. -/
theorem leaveLayout_others (sc : Screen) (s : State) :
    (leaveLayout sc s).xpc.routes = s.xpc.routes ∧ SameRouting s (leaveLayout sc s)
    ∧ (leaveLayout sc s).xpc.peek = s.xpc.peek ∧ (leaveLayout sc s).xpc.counts = s.xpc.counts
    ∧ (leaveLayout sc s).xpc.pendingReplaced = s.xpc.pendingReplaced := by
  simp only [leaveLayout, completeLayout]
  refine ⟨?_, ⟨?_, ?_, ?_, ?_⟩, ?_, ?_, ?_⟩ <;> (repeat' split) <;> simp [State.raise]

/-- A pending that takes effect (R123): its target becomes active and it is removed; no other route record changes, nor anything that a
routing decision reads, nor the peek record, the counts and PendingReplaced. -/
theorem takeEffect_routes (sc : Screen) (p : Pending) (k : NoticeKind) (s : State) :
    (takeEffect sc p k s).xpc.routes = s.xpc.routes.set sc { active := p.target, pending := none }
    ∧ SameRouting s (takeEffect sc p k s) ∧ (takeEffect sc p k s).xpc.peek = s.xpc.peek
    ∧ (takeEffect sc p k s).xpc.counts = s.xpc.counts
    ∧ (takeEffect sc p k s).xpc.pendingReplaced = s.xpc.pendingReplaced := by
  simp only [takeEffect, raiseUnless, leaveIfLayout]
  refine ⟨?_, ⟨?_, ?_, ?_, ?_⟩, ?_, ?_, ?_⟩ <;> (repeat' split) <;>
    simp [leaveLayout_others, (leaveLayout_others _ _).2.1.hold, (leaveLayout_others _ _).2.1.fadeWait,
      (leaveLayout_others _ _).2.1.tables, (leaveLayout_others _ _).2.1.fmn, handSwitch_others, State.raise, State.modRoute,
      Tab.upd]

/-! ## What one screen's route record becomes -/

/-- The route record of a screen after a line value (R121). -/
def recordAtLine (v : Source) (line : Nat) (s : State) (sc : Screen) (r : RouteRecord) : RouteRecord :=
  match r.pending with
  | none => r
  | some p =>
    if p.target = some v ∧ s.routeReady sc = true ∧ (s.screenEntry sc).switchMode = .frame ∧ effectiveLine s v p = line
    then { active := p.target, pending := none } else r

/-- The route record of a screen after its source leaves Locked (R122). -/
def recordForced (v : Source) (s : State) (sc : Screen) (r : RouteRecord) : RouteRecord :=
  match r.pending with
  | none => r
  | some p => if p.target = some v ∧ s.routeReady sc = true then { active := p.target, pending := none } else r

/-- The route record of a screen after its pending is tested (R120, R121). -/
def recordTested (s : State) (sc : Screen) (r : RouteRecord) : RouteRecord :=
  match r.pending with
  | none => r
  | some p =>
    if s.routeReady sc = true ∧ ¬(s.showsLocked p.target = true ∧ (s.screenEntry sc).switchMode = .frame)
    then { active := p.target, pending := none } else r

theorem lineAt_routes (v : Source) (line : Nat) (sc : Screen) (s : State) :
    (lineAt v line sc s).xpc.routes = s.xpc.routes.set sc (recordAtLine v line s sc (s.xpc.routes.get sc))
    ∧ SameRouting s (lineAt v line sc s) := by
  simp only [lineAt, recordAtLine]
  cases hp : (s.xpc.routes.get sc).pending
  · exact ⟨by simp, SameRouting.refl s⟩
  · dsimp only
    split
    · exact ⟨(takeEffect_routes ..).1, (takeEffect_routes ..).2.1⟩
    · exact ⟨by simp, SameRouting.refl s⟩

theorem forceAt_routes (v : Source) (sc : Screen) (s : State) :
    (forceAt v sc s).xpc.routes = s.xpc.routes.set sc (recordForced v s sc (s.xpc.routes.get sc))
    ∧ SameRouting s (forceAt v sc s) := by
  simp only [forceAt, recordForced]
  cases hp : (s.xpc.routes.get sc).pending
  · exact ⟨by simp, SameRouting.refl s⟩
  · dsimp only
    split
    · exact ⟨(takeEffect_routes ..).1, (takeEffect_routes ..).2.1⟩
    · exact ⟨by simp, SameRouting.refl s⟩

/-- A pending that is tested (R120, R121). -/
theorem testPending_routes (sc : Screen) (s : State) :
    (testPending sc s).xpc.routes = s.xpc.routes.set sc (recordTested s sc (s.xpc.routes.get sc))
    ∧ SameRouting s (testPending sc s) ∧ (testPending sc s).xpc.peek = s.xpc.peek
    ∧ (testPending sc s).xpc.counts = s.xpc.counts ∧ (testPending sc s).xpc.pendingReplaced = s.xpc.pendingReplaced := by
  simp only [testPending, recordTested]
  cases hp : (s.xpc.routes.get sc).pending with
  | none => exact ⟨by simp, SameRouting.refl s, rfl, rfl, rfl⟩
  | some p =>
    dsimp only
    by_cases hr : s.routeReady sc = true
    · rw [if_pos hr]
      cases ht : p.target with
      | none =>
        simp only [hr, State.showsLocked, Bool.false_eq_true, false_and, not_false_eq_true, and_self, ite_true]
        have h := takeEffect_routes sc p .routeDone s
        rw [ht] at h
        exact h
      | some v =>
        simp only [hr, true_and, State.showsLocked]
        by_cases hl : s.sourceLocked v = false
        · have h := takeEffect_routes sc p .routeForced s
          rw [ht] at h
          simp only [hl, ite_true, Bool.false_eq_true, false_and, not_false_eq_true]
          exact h
        · have hl : s.sourceLocked v = true := by simpa using hl
          have h := takeEffect_routes sc p .routeForced s
          rw [ht] at h
          cases hm : (s.screenEntry sc).switchMode with
          | immediate => simpa [hl] using h
          | frame => simpa [hl] using SameRouting.refl s
    · simpa [hr] using SameRouting.refl s

/-! ## All screens -/

/-- A fold over the screens of an operation that changes one screen's route record by what it reads. -/
theorem foldScreens_routes (f : Screen → State → State) (r : State → Screen → RouteRecord → RouteRecord)
    (reads : ∀ (s t : State) (sc : Screen) (a : RouteRecord), SameRouting s t → r t sc a = r s sc a)
    (changes : ∀ (sc : Screen) (s : State), (f sc s).xpc.routes = s.xpc.routes.set sc (r s sc (s.xpc.routes.get sc))
      ∧ SameRouting s (f sc s)) (s : State) (sc : Screen) :
    (allScreens.foldl (fun s sc => f sc s) s).xpc.routes.get sc = r s sc (s.xpc.routes.get sc) := by
  have key : ∀ (l : List Screen) (t : State), l.Nodup → SameRouting s t →
      SameRouting s (l.foldl (fun s sc => f sc s) t) ∧ ∀ d : Screen,
        (l.foldl (fun s sc => f sc s) t).xpc.routes.get d =
          if d ∈ l then r s d (t.xpc.routes.get d) else t.xpc.routes.get d := by
    intro l
    induction l with
    | nil => intro t _ h; exact ⟨h, by simp⟩
    | cons a l ih =>
      intro t hn h
      have h1 := changes a t
      have hn' := List.nodup_cons.mp hn
      have h2 := ih (f a t) hn'.2 (h.trans h1.2)
      refine ⟨h2.1, fun d => ?_⟩
      simp only [List.foldl_cons]
      rw [h2.2 d, h1.1]
      by_cases hd : d = a
      · subst hd; simp [hn'.1, reads s t _ _ h]
      · simp [hd]
  have h := (key allScreens s (by decide) (SameRouting.refl s)).2 sc
  rw [h, if_pos (show sc ∈ allScreens from List.mem_finRange sc)]

theorem recordAtLine_reads (v : Source) (line : Nat) (s t : State) (sc : Screen) (a : RouteRecord) (h : SameRouting s t) :
    recordAtLine v line t sc a = recordAtLine v line s sc a := by
  cases hp : a.pending with
  | none => simp [recordAtLine, hp]
  | some p =>
    have e : effectiveLine t v p = effectiveLine s v p := by simp only [effectiveLine, h.fmn]
    simp only [recordAtLine, hp, h.ready, State.screenEntry, h.tables, e]
    congr 1

theorem recordForced_reads (v : Source) (s t : State) (sc : Screen) (a : RouteRecord) (h : SameRouting s t) :
    recordForced v t sc a = recordForced v s sc a := by
  cases hp : a.pending <;> simp [recordForced, hp, h.ready]

theorem recordTested_reads (s t : State) (sc : Screen) (a : RouteRecord) (h : SameRouting s t) :
    recordTested t sc a = recordTested s sc a := by
  cases hp : a.pending with
  | none => simp [recordTested, hp]
  | some p =>
    have e : t.showsLocked p.target = s.showsLocked p.target := by
      simp only [State.showsLocked, State.sourceLocked, h.fmn]
    simp [recordTested, hp, h.ready, State.screenEntry, h.tables, e]

theorem takeLine_routes (v : Source) (line : Nat) (s : State) (sc : Screen) :
    (takeLine v line s).xpc.routes.get sc = recordAtLine v line s sc (s.xpc.routes.get sc) := by
  unfold takeLine
  rw [foldScreens_routes (lineAt v line) (recordAtLine v line) (recordAtLine_reads v line)
    (fun d t => lineAt_routes v line d t)]

theorem takeSourceState_routes (v : Source) (new : SourceState) (s : State) (sc : Screen) (h : new ≠ .locked) :
    (takeSourceState v { old := .locked, new := new } s).xpc.routes.get sc = recordForced v s sc (s.xpc.routes.get sc) := by
  unfold takeSourceState
  rw [if_pos ⟨rfl, h⟩, foldScreens_routes (forceAt v) (recordForced v) (recordForced_reads v) (fun d t => forceAt_routes v d t)]

theorem testAll_routes (s : State) (sc : Screen) :
    (testAll s).xpc.routes.get sc = recordTested s sc (s.xpc.routes.get sc) := by
  unfold testAll
  rw [foldScreens_routes testPending recordTested recordTested_reads
    (fun d t => ⟨(testPending_routes d t).1, (testPending_routes d t).2.1⟩)]

/-! ## A request -/

/-- Step 1 of a request (R119): no route record changes, nor anything that a routing decision reads. -/
theorem clearPeek_others (sc : Screen) (cause : RouteCause) (s : State) :
    (clearPeek sc cause s).xpc.routes = s.xpc.routes ∧ SameRouting s (clearPeek sc cause s)
    ∧ (clearPeek sc cause s).xpc.counts = s.xpc.counts := by
  simp only [clearPeek]
  refine ⟨?_, ⟨?_, ?_, ?_, ?_⟩, ?_⟩ <;> (repeat' split) <;> rfl

/-- Step 2 of a request (R119): the screen has no pending, and what a routing decision reads stands. -/
theorem removePending_routes (sc : Screen) (s : State) :
    (removePending sc s).xpc.routes = s.xpc.routes.set sc { active := s.active sc, pending := none }
    ∧ SameRouting s (removePending sc s) ∧ (removePending sc s).xpc.counts = s.xpc.counts := by
  simp only [removePending]
  cases hp : (s.xpc.routes.get sc).pending with
  | none =>
    refine ⟨?_, SameRouting.refl s, rfl⟩
    have h : ({ active := s.active sc, pending := none } : RouteRecord) = s.xpc.routes.get sc := by
      rw [← hp]; rfl
    rw [h, Tab.set_get_self]
  | some p =>
    simp only [leaveIfLayout]
    refine ⟨?_, ⟨?_, ?_, ?_, ?_⟩, ?_⟩ <;> (repeat' split) <;>
      simp [leaveLayout_others, (leaveLayout_others _ _).2.1.hold, (leaveLayout_others _ _).2.1.fadeWait,
        (leaveLayout_others _ _).2.1.tables, (leaveLayout_others _ _).2.1.fmn, Tab.upd, State.active]

/-- Step 4 of a request (R119 to R121): the pending waits, or switches its screen at once. -/
theorem newPending_routes (sc : Screen) (target : Option Source) (cause : RouteCause) (s : State)
    (h : target ≠ s.active sc) :
    (newPending sc target cause s).xpc.routes = s.xpc.routes.set sc (requestedRecord s sc target cause) := by
  simp only [newPending, testPending_routes]
  have hw : (requestWaits s sc target = true) ↔ ¬((s.xpc.hold = none ∧ (s.screenEntry sc).fade = false)
      ∧ ¬(s.showsLocked target = true ∧ (s.screenEntry sc).switchMode = .frame)) := by
    simp only [requestWaits, Bool.or_eq_true, Bool.and_eq_true, decide_eq_true_eq]
    cases s.xpc.hold <;> cases (s.screenEntry sc).fade <;> simp
  simp only [requestedRecord, if_neg h, hw, recordTested, routeReady_iff, ite_not]
  simp [handFade, Tab.upd, nextCount, State.showsLocked, State.screenEntry, State.sourceLocked, State.active, -not_and]
  congr 2

/-- A route request makes the screen's record the requested one and changes no other (R119, R121). -/
theorem routeRequest_routes (sc : Screen) (target : Option Source) (cause : RouteCause) (s : State) :
    (routeRequest sc target cause s).xpc.routes = s.xpc.routes.set sc (requestedRecord s sc target cause) := by
  have hc := clearPeek_others sc cause s
  have hr := removePending_routes sc (clearPeek sc cause s)
  have hs := hc.2.1.trans hr.2.1
  have ha : (removePending sc (clearPeek sc cause s)).active sc = s.active sc := by
    simp [State.active, hr.1, hc.1]
  simp only [routeRequest, ha]
  by_cases h : target = s.active sc
  · rw [if_pos h]
    have hm : ∀ t : State, (raiseUnless (decide (cause = .peek)) .routeDone t).xpc = t.xpc := by
      intro t; unfold raiseUnless; split <;> simp [State.raise]
    split <;> simp [hm, hr.1, hc.1, requestedRecord, h, State.active]
  · rw [if_neg h, newPending_routes _ _ _ _ (by rw [ha]; exact h), hr.1, hc.1]
    simp only [Tab.set_set]
    congr 1
    simp only [requestedRecord, if_neg h, ha, requestWaits, State.screenEntry, State.showsLocked, State.sourceLocked, hs.hold,
      hs.tables, hs.fmn, hr.2.2, hc.2.2]
    rfl

/-! ## The layout in flight and the notices of a switch (R130, R131, R134) -/

/-- What leaves the routing record and the hand-offs' completions as they stand lets no screen leave. -/
theorem LayoutLeft.same {s t : State} (x : t.xpc.layout = s.xpc.layout)
    (h : ∀ f, ({ src := .xpc, cmd := .layoutCompletion f false } : Handoff) ∈ t.handoffs ↔
      ({ src := .xpc, cmd := .layoutCompletion f false } : Handoff) ∈ s.handoffs)
    (d : ({ src := .xpc, cmd := .noticeRaise .layoutDone } : Handoff) ∈ t.handoffs ↔
      ({ src := .xpc, cmd := .noticeRaise .layoutDone } : Handoff) ∈ s.handoffs) : LayoutLeft (fun _ => False) s t := by
  have n : ∀ l, ¬LayoutCompletes (fun _ => False) l := fun l c => c.1.elim fun _ k => k.2
  exact ⟨fun e => x.trans e, fun l e => ⟨fun c => absurd c (n l), fun _ => ⟨l.outstanding, x.trans e, by simp⟩⟩, by simp [h, n],
    by simp [d, n]⟩

/-- One screen leaves the outstanding set (R130). -/
theorem leaveLayout_left (sc : Screen) (s : State) : LayoutLeft (fun d => d = sc) s (leaveLayout sc s) := by
  unfold leaveLayout
  cases hl : s.xpc.layout with
  | none => simp [LayoutLeft, hl]
  | some l =>
    by_cases ho : l.outstanding.get sc = true
    · have hany : (flagOff sc l.outstanding).any = true ↔ ∃ d : Screen, l.outstanding.get d = true ∧ d ≠ sc := by
        rw [Flags.any_iff]
        constructor
        · rintro ⟨d, h⟩
          by_cases e : d = sc
          · subst e; simp [flagOff] at h
          · exact ⟨d, by simpa [flagOff, e] using h, e⟩
        · rintro ⟨d, h, e⟩
          exact ⟨d, by simpa [flagOff, e] using h⟩
      by_cases ha : (flagOff sc l.outstanding).any = true
      · obtain ⟨d, hd, e⟩ := hany.mp ha
        have nc : ¬∀ d : Screen, l.outstanding.get d = true → d = sc := fun h => e (h d hd)
        have nc' : ¬LayoutCompletes (fun d => d = sc) l := fun c => nc c.2
        simp only [ho, ha, if_true]
        refine ⟨by simp [hl], ?_, by simp [hl, nc'], by simp [hl, nc']⟩
        intro l' e'
        rw [hl] at e'
        cases e'
        refine ⟨fun c => absurd c.2 nc, fun _ => ⟨flagOff sc l.outstanding, rfl, fun x => ?_⟩⟩
        by_cases ex : x = sc
        · subst ex; simp [flagOff]
        · simp [flagOff, ex]
      · have all : ∀ d : Screen, l.outstanding.get d = true → d = sc := by
          intro d hd
          by_contra e
          exact ha (hany.mpr ⟨d, hd, e⟩)
        have c : LayoutCompletes (fun d => d = sc) l := ⟨⟨sc, ho, rfl⟩, all⟩
        simp only [ho, ha, if_true, Bool.false_eq_true, if_false]
        refine ⟨by simp [hl], ?_, ?_, ?_⟩
        · intro l' e'
          rw [hl] at e'
          cases e'
          exact ⟨fun _ => rfl, fun n => absurd c n⟩
        · intro f
          simp only [completeLayout, State.raise, State.hand, State.modXpc, List.mem_append, List.mem_singleton]
          simp [hl, c]
        · simp only [completeLayout, State.raise, State.hand, State.modXpc, List.mem_append, List.mem_singleton]
          simp [hl, c]
    · have nc : ¬LayoutCompletes (fun d => d = sc) l := by
        rintro ⟨⟨d, hd, e⟩, _⟩
        exact ho (e ▸ hd)
      simp only [ho, Bool.false_eq_true, if_false]
      refine ⟨by simp [hl], ?_, ?_, ?_⟩
      · intro l' e'
        rw [hl] at e'
        cases e'
        exact ⟨fun c => absurd c nc, fun _ => ⟨l.outstanding, hl, fun x => ⟨fun h => ⟨h, fun e => ho (e ▸ h)⟩, fun h => h.1⟩⟩⟩
      · intro f; simp [hl, nc]
      · simp [hl, nc]

/-- Screens that leave one after another leave together. -/
theorem LayoutLeft.trans {g h : Screen → Prop} {s t u : State} (a : LayoutLeft g s t) (b : LayoutLeft h t u) :
    LayoutLeft (fun sc => g sc ∨ h sc) s u := by
  obtain ⟨an, al, af, ad⟩ := a
  obtain ⟨bn, bl, bf, bd⟩ := b
  cases hs : s.xpc.layout with
  | none =>
    have ht := an hs
    exact ⟨fun _ => bn ht, by simp [hs], fun f => by rw [bf, af]; simp [hs, ht], by rw [bd, ad]; simp [hs, ht]⟩
  | some l =>
    obtain ⟨ac, ar⟩ := al l hs
    by_cases c : LayoutCompletes g l
    · have ht := ac c
      have c' : LayoutCompletes (fun sc => g sc ∨ h sc) l :=
        ⟨c.1.imp fun _ k => ⟨k.1, .inl k.2⟩, fun sc k => .inl (c.2 sc k)⟩
      refine ⟨by simp [hs], fun l' e => ?_, fun f => ?_, ?_⟩
      · rw [hs] at e; cases e
        exact ⟨fun _ => bn ht, fun n => absurd c' n⟩
      · rw [bf, af]; simp [hs, ht, c, c']
      · rw [bd, ad]; simp [hs, ht, c, c']
    · obtain ⟨rest, ht, hr⟩ := ar c
      obtain ⟨bc, br⟩ := bl _ ht
      have iff : LayoutCompletes h { l with outstanding := rest } ↔ LayoutCompletes (fun sc => g sc ∨ h sc) l := by
        simp only [LayoutCompletes, hr]
        constructor
        · rintro ⟨⟨d, ⟨o, _⟩, k⟩, all⟩
          exact ⟨⟨d, o, .inr k⟩, fun sc o => (Classical.em (g sc)).imp id fun n => all sc ⟨o, n⟩⟩
        · rintro ⟨⟨d, o, k⟩, all⟩
          refine ⟨?_, fun sc k => (all sc k.1).resolve_left k.2⟩
          by_contra none
          apply c
          have gs : ∀ sc : Screen, l.outstanding.get sc = true → g sc := by
            intro sc o
            by_contra n
            exact none ⟨sc, ⟨o, n⟩, (all sc o).resolve_left n⟩
          exact ⟨⟨d, o, gs d o⟩, gs⟩
      refine ⟨by simp [hs], fun l' e => ?_, fun f => ?_, ?_⟩
      · rw [hs] at e; cases e
        refine ⟨fun c' => bc (iff.mpr c'), fun n => ?_⟩
        obtain ⟨left, hu, hl⟩ := br (fun c' => n (iff.mp c'))
        refine ⟨left, hu, fun sc => ?_⟩
        rw [hl, hr]
        constructor
        · rintro ⟨⟨o, n⟩, m⟩
          exact ⟨o, fun k => k.elim n m⟩
        · rintro ⟨o, n⟩
          exact ⟨⟨o, fun k => n (.inl k)⟩, fun k => n (.inr k)⟩
      · rw [bf, af]; simp [hs, ht, c, iff]
      · rw [bd, ad]; simp [hs, ht, c, iff]

/-- An output takes a mode with its blanked field, and ShareBlanked is raised when that goes from no to yes (R154). -/
theorem setShareMode_eq (o : ShareOut) (m : ShareMode) (s : State) :
    setShareMode o m s = { s with
      sou := s.sou.set o { mode := m, blanked := s.isPrivate (ShareRecord.wanted { mode := m, blanked := false }) }
      handoffs := s.handoffs ++
        if s.isPrivate (ShareRecord.wanted { mode := m, blanked := false }) = true ∧ (s.sou.get o).blanked = false then
          [{ src := .sou, cmd := .noticeRaise .shareBlanked }]
        else [] } := by
  have w : ∀ b : Bool, (ShareRecord.wanted { mode := m, blanked := b }) = ShareRecord.wanted { mode := m, blanked := false } :=
    fun b => by cases m <;> rfl
  have p : ∀ x : Tab 2 ShareRecord, State.isPrivate { s with sou := x } = s.isPrivate := fun x => by
    funext v; cases v <;> rfl
  simp only [setShareMode, recomputeBlanked, State.modSou, Tab.upd, Tab.get_set_self, Tab.set_set, p, w]
  by_cases h : s.isPrivate (ShareRecord.wanted { mode := m, blanked := false }) = true <;>
    by_cases k : (s.sou.get o).blanked = true <;> simp_all [State.raise, State.hand]

/-- A switch moves the outputs that follow its screen, and no other (R153, R154). -/
theorem followSwitch_shares (sc : Screen) (source : Option Source) (s : State) :
    SharesFollow (fun d v => d = sc ∧ v = source) s (followSwitch sc source s) := by
  have w : ∀ b : Bool, (ShareRecord.wanted { mode := .follow sc source, blanked := b }) = source := fun _ => rfl
  have p : ∀ (x : Tab 2 ShareRecord) (hs : List Handoff), State.isPrivate { s with sou := x, handoffs := hs } = s.isPrivate :=
    fun x hs => by funext v; cases v <;> rfl
  have outs : allOutputs = [0, 1] := rfl
  have f : ∀ (r : ShareRecord) (d : Screen), follows r sc = true → follows r d = true → d = sc := by
    intro r d h k
    cases hm : r.mode <;> simp_all [follows]
  have all : ∀ q : ShareOut → Prop, (∀ o, q o) ↔ q 0 ∧ q 1 := fun q => Fin.forall_fin_two
  have ex : ∀ q : ShareOut → Prop, (∃ o, q o) ↔ q 0 ∨ q 1 := fun q => Fin.exists_fin_two
  unfold followSwitch
  simp only [outs, List.foldl_cons, List.foldl_nil, setShareMode_eq]
  by_cases h0 : follows (s.sou.get 0) sc = true <;> by_cases h1 : follows (s.sou.get 1) sc = true <;>
    simp [SharesFollow, h0, h1, all, ex, w, p, Tab.get_set_other]
  all_goals (refine ⟨fun d v h e k => ?_, fun d v h e k => ?_⟩ <;> subst e <;> subst k <;> simp_all)

end Sys2Proof.Machine
end

