-- ==== Sys2Proof/Tests/Slice0.lean ====
section
/-!
SUPPORT. The model's own tests: ill-formed commands that the check refuses, a state that meets the premises of each statement, each
case of it, and small steps taken from the manual's worked sequences.
-/

namespace Sys2Proof.Tests

open Sys2Proof.Machine

/-! ## Small states -/

/-- The state that a command leaves. -/
def got (c : Instr) (s : State) : State :=
  match exec c s with
  | .next t => t
  | .fault _ => s
  | .refused _ => s

/-- A source that is Locked with 1125 lines. -/
def liveSource : Fmn :=
  { state := .locked, lastStart := some 900, measured := some 16683, agreement := 3, lockedPeriod := some 16683
    linesPerFrame := some 1125, currentLine := 10, loss := some 100900 }

/-- A port that is Active. -/
def livePort : Cpe := { Cpe.reset with linkState := .active, link := .up, wakeArmed := true }

/-- A desk at work on the factory tables: the consoles attached, every port Active, every source Locked, Sk showing Vk, and C1 with
the keyboard and the pointer. -/
def base : State :=
  { State.reset with
    timebase := 1000, loading := false
    cip := { Cip.reset with keyboardAttached := true, pointerAttached := true, baseline := false }
    glu := { Glu.reset with source := some 0, sourceOwner := some 0 }
    fcu := { Fcu.reset with focus := some 0, owner := some 0 }
    cpe := Tab.fill livePort
    fmn := Tab.fill liveSource
    xpc := { Xpc.reset with
      routes := Tab.make (fun sc : Screen => { active := some ⟨sc.val, by omega⟩, pending := none }) }
    dms := Tab.make (fun sc : Screen =>
      { Dms.reset with level := 255, target := 255, source := some ⟨sc.val, by omega⟩ }) }

/-- The desk with C1's port as given. -/
def port (e : Cpe) : State := { base with cpe := base.cpe.set 0 e }

/-- C1's port in a link state. -/
def inState (st : LinkState) : State := port { livePort with linkState := st }

/-- The desk with V1's monitor as given. -/
def monitor (f : Fmn) : State := { base with fmn := base.fmn.set 0 f }

/-- The desk with S1's Dim Stage as given. -/
def stage (d : Dms) : State := { base with dms := base.dms.set 0 d }

/-- The desk with S1's table entry changed. -/
def screen1 (f : ScreenEntry → ScreenEntry) (s : State) : State :=
  { s with tables := { s.tables with screens := s.tables.screens.upd 0 f } }

/-- The desk with the Hotkey Matcher as given. -/
def matcher (h : Hkm) : State := { base with hkm := h }

/-- The desk with C1's wake record as given. -/
def woken (w : WakeRecord) (s : State) : State := { s with wkc := { s.wkc with wakes := s.wkc.wakes.set 0 w } }

/-- The desk asleep. -/
def asleep : State := { base with wkc := { base.wkc with deskAsleep := true } }

/-- The desk with a command handed on by a block. -/
def handed (b : Block) (c : Instr) (s : State) : State := { s with handoffs := s.handoffs ++ [{ src := b, cmd := c }] }

/-- Does a command hand on a command of a block? -/
def hands (b : Block) (c : Instr) (s : State) : Prop := { src := b, cmd := c } ∈ s.handoffs

/-- The desk with its desk record changed. -/
def desk (f : DeskRecord → DeskRecord) (s : State) : State := { s with tables := { s.tables with desk := f s.tables.desk } }

/-- The desk with hotkey entry 1 changed. -/
def entry1 (f : HotkeyEntry → HotkeyEntry) (s : State) : State :=
  { s with tables := { s.tables with hotkeys := s.tables.hotkeys.upd 0 f } }

/-- The desk with a pending on S1. -/
def waiting (p : Pending) (s : State) : State :=
  { s with xpc := { s.xpc with routes := s.xpc.routes.set 0 { active := some 0, pending := some p } } }

/-- A pending onto V2 at line 600. -/
def toV2 : Pending := { target := some 1, line := 600, cause := .route, quiet := false, number := 7 }

/-- The desk with route hold on. -/
def held (s : State) : State := { s with xpc := { s.xpc with hold := some { start := 0, expiry := 2000000 } } }

/-- A request of C1 with its arguments. -/
def ask (a b c : Nat) : Request := { port := 0, tag := 7, arg1 := a, arg2 := b, arg3 := c }

/-- A pointer event that moves. -/
def motion (dx dy : Int) : PointerEvent :=
  { dx := dx, dy := dy, wheel := 0, held := Flags.none, pressed := Flags.none, released := Flags.none }

/-- A keyboard report with no modifier and the usages of two slots. -/
def report (a b : Nat) : KeyboardReport := { modifiers := Flags.none, slots := ⟨[a, b, 0, 0, 0, 0], rfl⟩ }

/-- A pointer report to a port. -/
def at_ (x y : Nat) (buttons : Buttons) (wheel : Int) : PointerReport := { absX := x, absY := y, buttons := buttons, wheel := wheel }

/-- Button 1. -/
def button1 : Buttons := flagOn 0 Flags.none

/-- A snapshot of one key. -/
def snap (k : Key) : Snapshot := { modifiers := [], keys := [k] }

/-! ## Ill-formed commands are refused -/

theorem test_wf_keys :
    (Instr.keyboardReport (report 256 0)).wf = false ∧ (Instr.keyEvent { key := 222, press := true, held := [222] }).wf = false
    ∧ (Instr.keyEvent { key := 4, press := true, held := [5, 4] }).wf = false
    ∧ (Instr.keyEvent { key := 4, press := true, held := [3, 4] }).wf = false
    ∧ (Instr.keyEvent { key := 4, press := true, held := [4, 5, 6, 7, 8, 9, 10, 11, 12, 13, 14, 15, 16, 17, 18] }).wf = false
    ∧ (Instr.keyEvent { key := 4, press := true, held := [] }).wf = false
    ∧ (Instr.keyEvent { key := 4, press := false, held := [4] }).wf = false
    ∧ (Instr.consumeRequest 3).wf = false ∧ (Instr.passedEvent 223 true).wf = false ∧ (Instr.portKeyPress 0 232).wf = false
    ∧ (Instr.portKeyRelease 0 0).wf = false ∧ (Instr.ignoreRelease 0 222).wf = false
    ∧ (Instr.joinIndication 0 [4, 4]).wf = false ∧ (Instr.deskWakeInput (some 1)).wf = false := by decide

theorem test_wf_pointer :
    (Instr.pointerEvent (motion 2048 0)).wf = false ∧ (Instr.pointerEvent (motion 0 (-2048))).wf = false
    ∧ (Instr.pointerEvent { motion 0 0 with wheel := 128 }).wf = false
    ∧ (Instr.portPointerReport 0 (at_ 32768 0 Flags.none 0)).wf = false
    ∧ (Instr.portPointerReport 0 (at_ 0 32768 Flags.none 0)).wf = false
    ∧ (Instr.portPointerReport 0 (at_ 0 0 Flags.none (-128))).wf = false := by decide

theorem test_wf_numbers :
    (Instr.lineValue 0 4096).wf = false ∧ (Instr.fadeWaitReport 0 65536).wf = false ∧ (Instr.fadeRequest 0 65536).wf = false
    ∧ (Instr.badReq (ask 0 0 0) 256).wf = false := by decide

theorem test_wf_requests :
    (Instr.readEntry (ask 0 0 0)).wf = false ∧ (Instr.readEntry (ask 7 0 0)).wf = false
    ∧ (Instr.writeDeskRecord (ask 2 1 0) (readRawDesk [])).wf = false
    ∧ (Instr.writeDeskRecord (ask 1 1 0) { readRawDesk [] with prefixKey := 256 }).wf = false
    ∧ (Instr.writeDeskRecord (ask 1 1 0) { readRawDesk [] with noticePacing := 65536 }).wf = false
    ∧ (Instr.writePortEntry (ask 1 1 0) (readRawPort [])).wf = false
    ∧ (Instr.writePortEntry (ask 2 1 0) { readRawPort [] with enabled := 256 }).wf = false
    ∧ (Instr.writePortEntry (ask 2 1 0) { readRawPort [] with stallTimeout := 65536 }).wf = false
    ∧ (Instr.writeSourceEntry (ask 1 1 0) (readRawSource [])).wf = false
    ∧ (Instr.writeSourceEntry (ask 3 1 0) { readRawSource [] with owner := 256 }).wf = false
    ∧ (Instr.writeSourceEntry (ask 3 1 0) { readRawSource [] with w := 65536 }).wf = false
    ∧ (Instr.writeScreenEntry (ask 1 1 0) (readRawScreen [])).wf = false
    ∧ (Instr.writeScreenEntry (ask 4 1 0) { readRawScreen [] with fade := 256 }).wf = false
    ∧ (Instr.writeScreenEntry (ask 4 1 0) { readRawScreen [] with x := 65536 }).wf = false := by decide

theorem test_wf_more_requests :
    (Instr.writeLayoutEntry (ask 1 1 0) (readRawLayout [])).wf = false
    ∧ (Instr.writeLayoutEntry (ask 5 1 0) { readRawLayout [] with routes := Tab.fill 256 }).wf = false
    ∧ (Instr.writeLayoutEntry (ask 5 1 0) { readRawLayout [] with focus := 256 }).wf = false
    ∧ (Instr.writeHotkeyEntry (ask 1 1 0) (readRawHotkey [])).wf = false
    ∧ (Instr.writeHotkeyEntry (ask 6 1 0) { readRawHotkey [] with key := 256 }).wf = false
    ∧ (Instr.writeHotkeyEntry (ask 6 1 0) { readRawHotkey [] with conditions := Tab.fill 256 }).wf = false
    ∧ (Instr.writeHotkeyEntry (ask 6 1 0) { readRawHotkey [] with tap := ⟨256, 0, 0⟩ }).wf = false
    ∧ (Instr.writeHotkeyEntry (ask 6 1 0) { readRawHotkey [] with hold := ⟨0, 0, 256⟩ }).wf = false
    ∧ (Instr.setShareOff (ask 1 1 0)).wf = false ∧ (Instr.setShareFollow (ask 1 0 1)).wf = false
    ∧ (Instr.setShareFixed (ask 1 1 1)).wf = false ∧ (Instr.readState (ask 0 0 0)).wf = false
    ∧ (Instr.readState (ask 8 0 0)).wf = false ∧ (Instr.readCountersLatch (ask 1 0 0)).wf = false
    ∧ (Instr.readCountersLatchAndClear (ask 2 0 0)).wf = false ∧ (Instr.readCountersRepeat (ask 1 0 0)).wf = false := by decide

theorem test_wf_tags :
    ∀ c ∈ ([.routeScreen, .recallLayout, .setFocus, .wake, .deskSleep, .holdRoutes, .releaseRoutes, .readNotices,
        fun q => .setNoticeMask q Flags.none, .saveSettings, .deskRestart] : List (Request → Instr)),
      (c { ask 0 0 0 with tag := 256 }).wf = false ∧ (c (ask 256 0 0)).wf = false ∧ (c (ask 0 256 0)).wf = false
      ∧ (c (ask 0 0 256)).wf = false ∧ (c (ask 255 255 255)).wf = true := by decide

theorem test_wf_accepts :
    (Instr.keyEvent { key := 231, press := true, held := [4, 231] }).wf = true ∧ (Instr.pointerEvent (motion 2047 (-2047))).wf = true
    ∧ (Instr.lineValue 0 4095).wf = true ∧ (Instr.writeHotkeyEntry (ask 6 1 0) (readRawHotkey [])).wf = true
    ∧ Instr.reset.wf = true := by decide

/-! ## Words -/

/-- No row of the table gives bits. -/
theorem test_no_word_spells_a_command (nbits w : Nat) (s : State) :
    decodeTableWord nbits w = none ∧ s.withFetchWord nbits w = s := ⟨rfl, rfl⟩

/-! ## The premises of each statement are met

One theorem for each statement that has premises: a state and operands that meet them, each case of it, at the ends of its range. -/

theorem test_IdlePartGoesOn :
    base.pending = [] ∧ moves base = [] ∧ moves { base with timebase := 100899 } = []
    ∧ moves (port { livePort with stall := some 1000 }) = [some (.stallTimerExpiry 0)]
    ∧ moves { base with handoffs := [{ src := .hkm, cmd := .lock }] } = [some .lock]
    ∧ moves { base with cip := { base.cip with work := [.event 4 true] } } = [none] := by decide

theorem test_CommandsKeepTheirFrames :
    engineOf (.keyboardPoll 0) = some (.cpe 0) ∧ engineOf (.lineStart 0) = some (.fmn 0) ∧ engineOf (.drop 0) = some (.dms 0)
    ∧ wakePortOf (.wakeRequest 0) = some 0 ∧ (1 : Port) ≠ 0 ∧ (1 : Source) ≠ 0 ∧ (1 : Screen) ≠ 0 := by decide

theorem test_LoadEndRestartsTheDesk :
    State.reset.loading = true ∧ State.reset.memory.valid = false
    ∧ { State.reset with memory := { valid := true, image := factoryTables } }.loading = true
    ∧ (got (.settingsLoadEnd true true true) State.reset).lowestPlaced = some 0
    ∧ (got (.settingsLoadEnd false false false) State.reset).glu.source = some 0
    ∧ (got (.settingsLoadEnd false false false) State.reset).glu.sourceOwner = some 0 := by decide

/-- The desk at a Desk Restart: a release, a press, a pointer report and a frame start on their way, and the link of C1 changing. -/
def restarting : State :=
  handed (.cpe 0) (.linkStateChange 0 .recovering) (handed .glu (.portPointerReport 0 (at_ 5 5 button1 0))
    (handed (.fmn 0) (.rampStep 0 0) (handed .cip (.keyEvent { key := 4, press := true, held := [4] })
      (handed .cip (.keyEvent { key := 5, press := false, held := [] })
        { base with cip := { base.cip with held := [4], buttons := base.cip.buttons.set 0 .passed } }))))

set_option maxRecDepth 8000 in
theorem test_DeskRestartServed :
    base.managed 0 = true ∧ base.mfe.inFlight.get 0 = none ∧ base.mfe.save = none ∧ base.cip.work = []
    ∧ (∀ h ∈ base.handoffs, isPortReport h.cmd = false) ∧ (got (.deskRestart (ask 0 0 0)) base).lowestPlaced = some 0
    ∧ (got (.deskRestart (ask 0 0 0)) base).mfe.inFlight.get 0 = some { kind := 16, request := ask 0 0 0 }
    ∧ (base.tables.ports.get 0).enabled = true ∧ (got (.deskRestart (ask 0 0 0)) base).fcu = Fcu.reset
    ∧ ((got (.deskRestart (ask 0 0 0)) base).cpe.get 0).linkState = .settling
    ∧ ((got (.deskRestart (ask 0 0 0)) base).cpe.get 0).link = .up := by decide

set_option maxRecDepth 8000 in
/-- A release on its way outlives a Desk Restart, while a press is taken before it and reaches nobody (R37, R79); the pointer report is
recorded and not queued (R93, R102), the frame start is taken before the level is set to 0 (R148), and no change of link state is left
for the Wake Controller (R173). -/
theorem test_DeskRestartServed_inFlight :
    let t := got (.deskRestart (ask 0 0 0)) restarting
    restarting.cip.work = [] ∧ hands .cip (.keyEvent { key := 5, press := false, held := [] }) t
    ∧ ¬hands .cip (.keyEvent { key := 4, press := true, held := [4] }) t ∧ ¬hands .hkm (.passedEvent 4 true) t
    ∧ t.hkm.consumed = [4] ∧ t.fcu.passedKeys = []
    ∧ (t.cpe.get 0).pointerQueue = [] ∧ (t.cpe.get 0).lastReport = some (at_ 5 5 button1 0)
    ∧ (t.cpe.get 0).pointerIgnored = button1 ∧ (t.dms.get 0).level = 0 ∧ ¬hands (.fmn 0) (.rampStep 0 0) t
    ∧ ¬hands (.cpe 0) (.linkStateChange 0 .recovering) t := by unfold hands; decide

set_option maxRecDepth 8000 in
/-- A detach indication on its way is taken before the restart, so that it does not empty the set of the keys held since, and the
release of such a key is swallowed (R14, R35, R37, R79). -/
theorem test_DeskRestartServed_reattached :
    let s := got (.keyboardReport (report 4 0)) (got .keyboardAttach (got .keyboardDetach base))
    let t := got (.deskRestart (ask 0 0 0)) s
    hands .cip .keyboardDetachedIndication s ∧ hands .cip (.keyEvent { key := 4, press := true, held := [4] }) s ∧ s.cip.work = []
    ∧ t.hkm.consumed = [4] ∧ ¬hands .cip .keyboardDetachedIndication t
    ∧ (got (.keyEvent { key := 4, press := false, held := [] }) t).hkm.consumed = [] := by unfold hands; decide

/-- The desk with two pointer events handed. -/
def pushing : State := handed .cip (.pointerEvent (motion 9 0)) (handed .cip (.pointerEvent (motion 160 0)) base)

set_option maxRecDepth 8000 in
/-- The pointer event in flight is finished before the restart and its report recorded, and the next one is left for the restarted state
(R62). -/
theorem test_DeskRestartServed_pointer :
    let t := got (.deskRestart (ask 0 0 0)) pushing
    let u := got (.pointerEvent (motion 160 0)) pushing
    pointerEvents pushing.handoffs = motion 160 0 :: [motion 9 0] ∧ pointerEvents t.handoffs = [motion 9 0]
    ∧ t.glu.pos = { x := 8000, y := 4500 } ∧ t.glu.residueX = 0 ∧ u.glu.pos ≠ pushing.glu.pos
    ∧ (t.cpe.get 0).lastReport = u.lastHanded 0 ∧ u.lastHanded 0 ≠ pushing.lastHanded 0 := by decide

/-- The desk with C2's port disabled, C1's settle polls 0, a press on its way and another in hand. -/
def settled : State :=
  handed .cip (.keyEvent { key := 4, press := true, held := [4] }) { base with
    cip := { base.cip with held := [4], work := [.event 5 true] }
    tables := { base.tables with
      ports := (base.tables.ports.upd 0 (fun e => { e with settlePolls := 0 })).upd 1 (fun e => { e with enabled := false }) } }

set_option maxRecDepth 8000 in
/-- A port that enters Active at once has the one empty snapshot and its stall timer, one that stays Detached has nothing, and the event
in hand follows the handed set (R37, R85, R88, R102). -/
theorem test_DeskRestartServed_ports :
    let t := got (.deskRestart (ask 0 0 0)) settled
    settled.cip.work = .event 5 true :: [] ∧ (∀ h ∈ settled.handoffs, ∀ e : KeyEvent, h.cmd = .keyEvent e → e.press = true)
    ∧ t.hkm.consumed = [4] ∧ t.cip.held = [4, 5] ∧ t.cip.work = []
    ∧ hands .cip (.keyEvent { key := 5, press := true, held := [4, 5] }) t
    ∧ (t.cpe.get 0).linkState = .active ∧ (t.cpe.get 0).keyQueue = [{ modifiers := [], keys := [] }]
    ∧ (t.cpe.get 0).stall = some 501000 ∧ (t.cpe.get 1).linkState = .detached ∧ (t.cpe.get 1).keyQueue = []
    ∧ (t.cpe.get 1).stall = none ∧ hands (.cpe 1) (.noticeRaise .portChanged) t := by
  refine ⟨rfl, ?_, ?_⟩
  · intro h m e c
    simp only [settled, handed, base, State.reset, List.nil_append, List.mem_singleton] at m
    subst m
    cases c
    rfl
  · unfold hands; decide

/-- The desk with no console device attached. -/
def bare : State := { base with cip := Cip.reset }

/-- The desk with two keys held. -/
def keyed : State := { base with cip := { base.cip with held := [4, 225] } }

theorem test_ConsoleAttachments :
    bare.loading = false ∧ bare.cip.keyboardAttached = false ∧ bare.cip.work = [] ∧ bare.keyEventInFlight = false
    ∧ base.cip.keyboardAttached = true ∧ base.cip.work = [] ∧ base.keyEventInFlight = false ∧ base.cip.held = []
    ∧ keyed.cip.held = 4 :: [225] ∧ keyed.keyEventInFlight = false ∧ bare.cip.pointerAttached = false
    ∧ base.cip.pointerAttached = true ∧ base.passedButtons.any = false := by decide

/-- The desk with a press on its way to the matcher, another event in hand and a report held behind it. -/
def handing : State :=
  handed .cip (.keyEvent { key := 4, press := true, held := [4] }) { base with
    cip := { base.cip with held := [4], work := [.event 5 true, .report (report 4 0)] } }

theorem test_ConsoleAttachments_inFlight :
    handing.keyEventInFlight = true ∧ isHeldReport (.report (report 4 0)) = true
    ∧ (got .keyboardDetach handing).cip.work = [.event 5 true, .detach] := by decide

/-- The keyboard's last release on its way after a detach, or a detach waiting behind it. -/
def releasing (w : ConsoleWork) : State :=
  handed .cip (.keyEvent { key := 4, press := false, held := [] }) { base with cip := { base.cip with work := [w], ledLast := some Flags.none } }

/-- The last release taken, the indication is handed and the LED state last sent is absent; a detach that waited is taken (R5). -/
theorem test_ConsoleAttachments_ends :
    let e : Instr := .keyEvent { key := 4, press := false, held := [] }
    (got e { releasing .indication with cip := { base.cip with work := [] } }).keyEventInFlight = false
    ∧ hands .cip .keyboardDetachedIndication (got e (releasing .indication)) ∧ (got e (releasing .indication)).cip.ledLast = none
    ∧ hands .cip .keyboardDetachedIndication (got e (releasing .detach))
    ∧ (got e (releasing .detach)).cip.keyboardAttached = false := by unfold hands; decide

/-- An attach waits behind the last release of a detach and is taken after the indication (log 41). -/
theorem test_ConsoleAttachments_waits :
    let e : Instr := .keyEvent { key := 4, press := false, held := [] }
    let s : State := { releasing .indication with cip := { (releasing .indication).cip with keyboardAttached := false } }
    let w := got .keyboardAttach s
    s.loading = false ∧ s.keyEventInFlight = true ∧ w.cip.work = [.indication, .attach] ∧ w.loading = false
    ∧ (got e { w with cip := { w.cip with work := [] } }).keyEventInFlight = false
    ∧ (got e w).cip.keyboardAttached = true ∧ hands .cip .keyboardDetachedIndication (got e w)
    ∧ (got e w).cip.ledLast = some Flags.none := by unfold hands; decide

/-- A report that waits for no event any longer is taken before a detach: with the desk asleep, the presses of a report are diverted one
after another, the next report is compared, and the detach waits behind its press (R4, R5, R10). -/
theorem test_ConsoleAttachments_diverted :
    (got .keyboardDetach (got (.deskWakeInput (some 5)) (got (.deskWakeInput (some 4))
      (got (.keyboardReport ⟨Flags.none, ⟨[4, 5, 6, 0, 0, 0], rfl⟩⟩) (got (.keyboardReport (report 4 5)) asleep))))).handoffs.getLast?
      = some { src := .cip, cmd := .keyEvent { key := 6, press := true, held := [4, 5, 6] } } := by decide

/-- The desk before its baseline, with the indication of a keyboard detach not taken yet. -/
def indicated : State :=
  handed .cip .keyboardDetachedIndication { base with
    cip := { base.cip with baseline := true }, hkm := { Hkm.reset with consumed := [9] } }

theorem test_KeyboardReportTaken :
    keyed.cip.keyboardAttached = true ∧ keyed.cip.work = [] ∧ keyed.keyEventInFlight = false ∧ keyed.wkc.deskAsleep = false
    ∧ (∃ u ∈ (report 1 3).slots.cells, 1 ≤ u ∧ u ≤ 3) ∧ (∀ u ∈ (report 4 221).slots.cells, ¬(1 ≤ u ∧ u ≤ 3))
    ∧ { keyed with cip := { keyed.cip with baseline := true } }.cip.baseline = true ∧ keyed.cip.baseline = false
    ∧ (∀ h ∈ keyed.handoffs, h.cmd ≠ .keyboardDetachedIndication)
    ∧ indicated.cip.baseline = true ∧ indicated.cip.work = [] ∧ indicated.keyEventInFlight = false
    ∧ (∃ h ∈ indicated.handoffs, h.cmd = .keyboardDetachedIndication)
    ∧ (got (.keyboardReport (report 4 0)) indicated).hkm.consumed = [4]
    ∧ (got (.keyboardReport (report 4 0)) indicated).handoffs = []
    ∧ heldDifferences keyed.cip.held (newHeldSet (report 225 4)) = []
    ∧ heldDifferences keyed.cip.held (newHeldSet (report 221 0)) = .event 4 false :: [.event 225 false, .event 221 true]
    ∧ rising [4, 225] = true ∧ asleep.wkc.deskAsleep = true ∧ asleep.cip.baseline = false
    ∧ heldDifferences asleep.cip.held (newHeldSet (report 6 0)) = .event 6 true :: []
    ∧ (got (.keyboardReport (report 6 0)) asleep).handoffs = [{ src := .cip, cmd := .deskWakeInput (some 6) }]
    ∧ newHeldSet { report 4 224 with modifiers := Flags.all } = [4, 224, 225, 226, 227, 228, 229, 230, 231] := by decide

/-- A report that would be the baseline is taken at once while the indication waits, and a later detach finds its keys (R5, R13). -/
theorem test_KeyboardReportTaken_detach :
    (got .keyboardDetach (got (.keyboardReport (report 4 0)) indicated)).cip.baseline = false
    ∧ (got .keyboardDetach (got (.keyboardReport (report 4 0)) indicated)).handoffs
      = [{ src := .cip, cmd := .keyEvent { key := 4, press := false, held := [] } }] := by decide

theorem test_KeyboardReportTaken_next :
    handing.keyEventInFlight = true ∧ (got (.keyboardReport (report 4 5)) handing).cip.work.length = 3
    ∧ { handing with cip := { handing.cip with work := [.event 5 true] } }.cip.work = .event 5 true :: []
    ∧ (got (.keyEvent { key := 4, press := true, held := [4] }) { handing with cip := { handing.cip with work := [] } }).keyEventInFlight
      = false
    ∧ (got (.keyEvent { key := 4, press := true, held := [4] }) handing).handoffs
      = [{ src := .hkm, cmd := .passedEvent 4 true }, { src := .cip, cmd := .keyEvent { key := 5, press := true, held := [4, 5] } }]
    ∧ { base with cip := { base.cip with work := [.event 5 true] } }.keyEventInFlight = false
    ∧ (consoleGoesOn { base with cip := { base.cip with work := [.event 5 true] } }).cip.held = [5] := by
  decide

/-- A console pointer report that moves one unit, with button 1 held. -/
def nudge : ConsolePointerReport := { buttons := [1], dx := 1, dy := 0, wheel := 0, pan := 5 }

theorem test_PointerReportTaken :
    base.cip.pointerAttached = true ∧ base.wkc.deskAsleep = false ∧ asleep.cip.pointerAttached = true
    ∧ asleep.wkc.deskAsleep = true ∧ wakesDesk (pointerEventOf nudge asleep.cip.buttons) = true := by decide

/-- The ends of the ranges, and a button of each mark; a sixth button is ignored. -/
theorem test_PointerReportTaken_event :
    let marks : Tab 5 ButtonMark := ⟨[.up, .passed, .swallowed, .passed, .up], rfl⟩
    let wheel : ConsolePointerReport := { buttons := [], dx := 0, dy := 0, wheel := -1, pan := 0 }
    bare.cip.pointerAttached = false ∧ wakesDesk (pointerEventOf wheel asleep.cip.buttons) = false
    ∧ eventMatters (pointerEventOf wheel asleep.cip.buttons) = true ∧ eventMatters (pointerEventOf { wheel with wheel := 0 } marks) = true
    ∧ eventMatters (pointerEventOf { wheel with wheel := 0, pan := 9 } asleep.cip.buttons) = false
    ∧ pointerEventOf { buttons := [1, 2, 3, 6], dx := 2048, dy := -2048, wheel := 128, pan := 0 } marks
      = { dx := 2047, dy := -2047, wheel := 127, held := ⟨[true, true, false, false, false], rfl⟩
          pressed := ⟨[true, false, false, false, false], rfl⟩, released := ⟨[false, false, false, true, false], rfl⟩ }
    ∧ (got (.pointerReport wheel) asleep).handoffs = [{ src := .cip, cmd := .pointerEvent (pointerEventOf wheel asleep.cip.buttons) }] := by
  decide

theorem test_LedTriggerTaken :
    base.fcu.focus = some 0 ∧ (base.cpe.get 0).linkState = .active
    ∧ (port { livePort with lamps := flagOn 1 Flags.none }).builtLamps = flagOn 1 Flags.none
    ∧ (port { livePort with lamps := flagOn 1 Flags.none, linkState := .stalled }).builtLamps = Flags.none
    ∧ { base with fcu := Fcu.reset }.builtLamps = Flags.none := by decide

/-- The desk with hotkey entry 1 Direct, with a hold action. -/
def directEntry (hold : Option Action) : State := entry1 (fun e => { e with path := .direct, hold := hold }) base

/-- The matcher in Counting after one prefix press. -/
def counting : Hkm := { Hkm.reset with state := .counting, buffer := [(71, true)], tapCounter := 1, tapWindow := some 401000 }

theorem test_PrefixCounted :
    base.hkm.state = .idle ∧ base.cip.work = [] ∧ base.tables.desk.prefixKey = 71 ∧ base.tables.desk.tapCount = 2
    ∧ (desk (fun d => { d with tapCount := 1 }) base).tables.desk.tapCount = 1
    ∧ (4 : Key) ≠ base.tables.desk.prefixKey
    ∧ (∀ n : EntryNo, entryMatches .direct 4 [4] (base.tables.hotkeys.get n) = false)
    ∧ (directEntry none).findEntry .direct 30 [30] = some 0 ∧ ((directEntry none).tables.hotkeys.get 0).hold = none
    ∧ ((directEntry (some .lock)).tables.hotkeys.get 0).hold = some .lock ∧ (30 : Key) ≠ (directEntry none).tables.desk.prefixKey
    ∧ (got (.keyEvent { key := 30, press := true, held := [30] }) (directEntry none)).handoffs = [{ src := .hkm, cmd := .focus 0 }]
    ∧ (got (.keyEvent { key := 30, press := true, held := [30] }) (directEntry (some .lock))).hkm.hold = some 601000
    ∧ (got (.keyEvent { key := 71, press := true, held := [71] }) base).hkm = counting
    ∧ (got (.keyEvent { key := 71, press := true, held := [71] }) base).hkm.tapCounter + 1 = base.tables.desk.tapCount := by
  decide

theorem test_PrefixCounted_counting :
    (matcher counting).hkm.state = .counting ∧ (desk (fun d => { d with tapCount := 3 }) (matcher counting)).hkm.tapCounter + 1 ≠ 3
    ∧ isModifier 224 = true ∧ (224 : Key) ≠ 71 ∧ isModifier 4 = false ∧ 71 ∉ counting.consumed ∧ 6 ∉ counting.consumed
    ∧ (got (.keyEvent { key := 71, press := true, held := [71] }) (desk (fun d => { d with tapCount := 3 }) (matcher counting))).hkm.buffer
      = [(71, true), (71, true)]
    ∧ (got (.keyEvent { key := 4, press := true, held := [4] }) (matcher counting)).handoffs
      = [{ src := .hkm, cmd := .passedEvent 71 true }, { src := .hkm, cmd := .passedEvent 4 true }] := by decide

/-- The matcher in Sequence. -/
def inSequence : State := matcher { Hkm.reset with state := .sequence, sequence := some 2001000 }

theorem test_SequencePress :
    inSequence.hkm.state = .sequence ∧ inSequence.cip.work = [] ∧ (30 : Key) ≠ inSequence.tables.desk.prefixKey
    ∧ inSequence.tables.desk.prefixKey = 71 ∧ isModifier 30 = false ∧ isModifier 4 = false ∧ isModifier 231 = true
    ∧ (∀ n : EntryNo, entryMatches .prefixed 4 [4] (inSequence.tables.hotkeys.get n) = false)
    ∧ inSequence.findEntry .prefixed 30 [30] = some 0 ∧ (inSequence.tables.hotkeys.get 0).tap = .focus 0
    ∧ (inSequence.tables.hotkeys.get 0).hold = none
    ∧ (entry1 (fun e => { e with hold := some .deskSleep }) inSequence).findEntry .prefixed 30 [30] = some 0
    ∧ ((entry1 (fun e => { e with hold := some .deskSleep }) inSequence).tables.hotkeys.get 0).hold = some .deskSleep
    ∧ (got (.keyEvent { key := 30, press := true, held := [30] }) (entry1 (fun e => { e with hold := some .deskSleep }) inSequence)).hkm.state
      = .holding := by decide

/-- The holding entry of a held momentary Focus. -/
def holdFocus : HoldingEntry := { entry := 19, key := 66, tap := .focusNext, hold := some (.focus 3) }

/-- The matcher in Holding or in Held with that entry. -/
def holding (st : MatcherState) : State :=
  matcher { Hkm.reset with
    state := st, consumed := [66], hold := (if st = .holding then some 601000 else none), holding := some holdFocus }

theorem test_KeysConsumed :
    4 ∈ (matcher { Hkm.reset with consumed := [4] }).hkm.consumed ∧ (matcher { Hkm.reset with consumed := [4] }).hkm.holding = none
    ∧ base.cip.work = [] ∧ 4 ∉ base.hkm.consumed ∧ base.hkm.state ≠ .counting
    ∧ (holding .holding).hkm.holding = some holdFocus ∧ holdFocus.key ∈ (holding .holding).hkm.consumed
    ∧ (holding .holding).hkm.state = .holding ∧ (holding .held).hkm.state = .held ∧ holdFocus.hold = some (.focus 3)
    ∧ isModifier 224 = true ∧ isModifier 5 = false ∧ (holding .holding).cip.work = []
    ∧ (got (.keyEvent { key := 66, press := false, held := [] }) (holding .holding)).handoffs = [{ src := .hkm, cmd := .focusNext }]
    ∧ (got (.keyEvent { key := 66, press := false, held := [] }) (holding .held)).handoffs = [{ src := .hkm, cmd := .momentaryReturn }]
    ∧ (got (.keyEvent { key := 5, press := true, held := [5, 66] }) (holding .holding)).handoffs
      = [{ src := .hkm, cmd := .focusNext }, { src := .hkm, cmd := .passedEvent 5 true }]
    ∧ (got (.consumeRequest 4) keyed).hkm.consumed = [4] ∧ (got (.consumeRequest 5) keyed).hkm.consumed = [] := by decide

/-- C1's requests are served on the desk at work. -/
theorem test_served (a b c : Nat) : Served base (ask a b c) := ⟨rfl, rfl, rfl, rfl, rfl⟩

/-- The bytes of the factory desk record, read as a write. -/
def rawDesk : RawDesk := readRawDesk (deskBytes factoryDesk)

/-- The bytes of a factory screen entry, read as a write. -/
def rawScreen (sc : Screen) : RawScreen := readRawScreen (screenBytes (factoryScreen sc))

/-- The bytes of a factory source entry, read as a write. -/
def rawSource (v : Source) : RawSource := readRawSource (sourceBytes (factorySource v))

/-- The bytes of a factory hotkey entry, read as a write. -/
def rawHotkey (n : EntryNo) : RawHotkey := readRawHotkey (hotkeyBytes (factoryHotkey n))

/-- The bytes of a factory port entry, read as a write. -/
def rawPort (p : Port) : RawPort := readRawPort (portBytes (factoryPort p))

theorem test_MatcherTimers :
    (matcher counting).hkm.state = .counting ∧ (matcher counting).hkm.tapWindow = some 401000
    ∧ inSequence.hkm.sequence = some 2001000 ∧ (holding .holding).hkm.hold = some 601000
    ∧ (got .tapWindowExpiry (matcher counting)).handoffs = [{ src := .hkm, cmd := .passedEvent 71 true }]
    ∧ (got .holdTimerExpiry (holding .holding)).timebase = 601000
    ∧ (got .holdTimerExpiry (holding .holding)).handoffs = [{ src := .hkm, cmd := .momentaryFocus 3 }]
    ∧ checkHotkey (rawHotkey 31) = some (factoryHotkey 31) ∧ hotkeyConflict base.tables 31 (factoryHotkey 31) = false
    ∧ (ask 6 32 0).arg2 = (31 : EntryNo).val + 1
    ∧ (got (.writeHotkeyEntry (ask 6 32 0) (rawHotkey 31)) (matcher counting)).handoffs = [{ src := .hkm, cmd := .passedEvent 71 true }]
    ∧ (got (.writeHotkeyEntry (ask 6 32 0) (rawHotkey 31)) inSequence).hkm.state = .idle
    ∧ (checkDesk { rawDesk with tapCount := 3 }).map (fun e => e.1.tapCount) = some 3
    ∧ (got (.writeDeskRecord (ask 1 1 0) { rawDesk with tapCount := 3 }) (matcher counting)).hkm.state = .idle
    ∧ (got (.writeDeskRecord (ask 1 1 0) rawDesk) (matcher counting)).hkm = counting := by decide

/-- C1's requests are served whatever the matcher does. -/
theorem test_MatcherTimers_served (h : Hkm) (a b c : Nat) : Served (matcher h) (ask a b c) := ⟨rfl, rfl, rfl, rfl, rfl⟩

theorem test_OneEntryMatches :
    entriesConflict (factoryHotkey 0) (factoryHotkey 1) = false ∧ entryMatches .prefixed 30 [30] (factoryHotkey 0) = true
    ∧ entriesConflict { factoryHotkey 0 with conditions := Tab.fill .held } { factoryHotkey 0 with conditions := Tab.fill .notHeld }
      = false := by decide

theorem test_FocusChangeAppliedWhole : base.fcu.focus ≠ some 1 ∧ base.fcu.focus = some 0 := by decide

theorem test_FocusSteps :
    base.fcu.focus = some 0 ∧ (nextOrder base.fcu.focus).find? (isCandidate base) = some 1
    ∧ (nextOrder base.fcu.focus).reverse.find? (isCandidate base) = some 5
    ∧ (got .focusNext base).fcu.focus = some 1 ∧ (got .focusPrevious base).fcu.focus = some 5
    ∧ (∀ p : Port, { base with cpe := Tab.fill Cpe.reset }.fcu.focus ≠ some p → isCandidate { base with cpe := Tab.fill Cpe.reset } p = false)
    ∧ isCandidate (inState .suspended) 0 = true ∧ isCandidate (port { livePort with linkState := .suspended, wakeArmed := false }) 0 = false
    ∧ { base with fcu := Fcu.reset }.fcu.focus = none
    ∧ hands .fcu (.jumpRequest 1 .hotkey) (got .focusNext base)
    ∧ hands .fcu (.wakeRequest 0) (got .focusNext { inState .suspended with fcu := { base.fcu with focus := some 5 } }) := by
  unfold hands; decide

theorem test_MomentaryFocusReturns :
    let held := got (.momentaryFocus 3) base
    let none' := { base with fcu := { Fcu.reset with slot := some none } }
    base.fcu.focus = some 0 ∧ base.fcu.focus ≠ some 3 ∧ base.fcu.slot = none
    ∧ held.fcu = { base.fcu with slot := some (some 0), focus := some 3, lastCause := .hotkey }
    ∧ (got .momentaryReturn held).fcu.focus = some 0 ∧ (got .momentaryReturn held).fcu.slot = none
    ∧ (got (.momentaryFocus 0) base).fcu.slot = some (some 0)
    ∧ (got .momentaryReturn (got (.momentaryFocus 0) base)).handoffs
      = [{ src := .fcu, cmd := .jumpRequest 0 .hotkey }, { src := .fcu, cmd := .jumpRequest 0 .hotkey }]
    ∧ none'.fcu.focus = none ∧ (got .momentaryReturn none').handoffs = []
    ∧ (got .momentaryReturn { none' with fcu := { none'.fcu with focus := some 2 } }).fcu.focus = none := by decide

/-- The desk with the cursor on S3, which shows V3 of C2. -/
def moved : State := { base with glu := { base.glu with screen := 2, pos := { x := 32000, y := 0 }, source := some 2, sourceOwner := some 1 } }

/-- The cursor on S3, with button 1 held on the console and down at C1, the pointer owner so far. -/
def dragged : State :=
  { moved with
    cip := { moved.cip with buttons := moved.cip.buttons.set 0 .passed }
    cpe := moved.cpe.set 0 { livePort with lastReport := some (at_ 9 9 button1 3) } }

theorem test_CursorScreenChangeTaken :
    moved.screenOwner moved.glu.screen = some 1 ∧ moved.fcu.owner ≠ some 1 ∧ moved.fcu.owner = some 0
    ∧ (got (.cursorScreenChange .glide) moved).fcu.focus = some 1 ∧ base.screenOwner base.glu.screen = some 0
    ∧ (Flags.minus dragged.passedButtons (dragged.cpe.get 0).pointerIgnored).any = true
    ∧ dragged.lastHanded 0 = some (at_ 9 9 button1 3) ∧ { moved with cip := dragged.cip }.lastHanded 0 = none
    ∧ (Flags.minus moved.passedButtons (moved.cpe.get 0).pointerIgnored).any = false
    ∧ { moved with fcu := { moved.fcu with owner := none } }.fcu.owner = none
    ∧ (∀ c ∈ ([.glide, .management, .restart] : List CursorCause),
      hands .fcu (.portPointerReport 0 (at_ 9 9 Flags.none 0)) (got (.cursorScreenChange c) dragged)
      ∧ ((got (.cursorScreenChange c) dragged).cpe.get 1).pointerIgnored = button1) := by unfold hands; decide

theorem test_FocusInputsTaken :
    (1 : Screen) ≠ base.glu.screen ∧ (2 : Screen) = moved.glu.screen
    ∧ (got (.jumpAnswer 1 .hotkey (some 2)) moved).fcu.focus = some 1 ∧ (got (.switchNotice 2) moved).fcu.focus = some 1
    ∧ (got (.layoutCompletion .follow false) { moved with fcu := { base.fcu with owner := some 4 } }).fcu.focus = some 4
    ∧ (got (.layoutCompletion .keep true) { base with fcu := { base.fcu with owner := none } }).fcu.focus = none := by decide

theorem test_FocusInputsTaken_completions :
    base.fcu.focus = some 0 ∧ base.fcu.owner = some 0 ∧ base.fcu.focus ≠ some 3 ∧ { base with fcu := Fcu.reset }.fcu.owner = none
    ∧ (got (.layoutCompletion (.computer 0) false) base).handoffs = [{ src := .fcu, cmd := .jumpRequest 0 .layout }]
    ∧ hands .fcu (.jumpRequest 3 .layout) (got (.layoutCompletion (.computer 3) false) base)
    ∧ (got (.layoutCompletion (.computer 3) false) base).fcu.owner = some 0
    ∧ (got (.layoutCompletion .keep false) { base with fcu := { base.fcu with owner := some 4 } }).handoffs = []
    ∧ (got (.layoutCompletion .follow true) base).handoffs = [] := by unfold hands; decide

/-- The desk with broadcast on and C3 in the broadcast mask. -/
def broadcasting : State :=
  desk (fun d => { d with broadcastMask := flagOn 2 Flags.none }) { base with fcu := { base.fcu with broadcast := true } }

theorem test_FocusInputsTaken_writes :
    (ask 3 1 0).arg2 = (0 : Source).val + 1 ∧ checkSource { rawSource 0 with owner := 3 } = some { factorySource 0 with owner := some 2 }
    ∧ base.active base.glu.screen = some 0 ∧ base.glu.source = some 0 ∧ base.fcu.lock = false
    ∧ (got (.writeSourceEntry (ask 3 1 0) { rawSource 0 with owner := 3 }) base).fcu.focus = some 2
    ∧ hands .fcu .cursorNotice (got (.writeSourceEntry (ask 3 1 0) { rawSource 0 with w := 8192 }) base)
    ∧ hands .fcu .cursorNotice (got (.writeSourceEntry (ask 3 3 0) { rawSource 2 with owner := 3, w := 8192 })
        { base with glu := { base.glu with source := some 2, sourceOwner := some 1 } })
    ∧ hands .fcu (.targetRefresh 7) (got (.writeSourceEntry (ask 3 9 0) { rawSource 8 with owner := 3 }) base)
    ∧ (got (.writeSourceEntry (ask 3 1 0) (rawSource 0)) base).handoffs = []
    ∧ broadcasting.fcu.broadcast = true ∧ broadcasting.fcu.focus ≠ some 2
    ∧ broadcasting.tables.desk.broadcastMask.get 2 = true ∧ broadcasting.tables.desk.broadcastMask.get 1 = false
    ∧ (checkDesk { rawDesk with broadcastMask := 2 }).isSome = true
    ∧ hands .fcu (.leaveIndication 2) (got (.writeDeskRecord (ask 1 1 0) { rawDesk with broadcastMask := 2 }) broadcasting)
    ∧ hands .fcu (.joinIndication 1 []) (got (.writeDeskRecord (ask 1 1 0) { rawDesk with broadcastMask := 2 }) broadcasting) := by
  unfold hands; decide

/-- A report after an owner write and before its cursor notice goes to nobody: the Glide Unit still holds the old owner (R56, R60). -/
theorem test_FocusInputsTaken_ownerHeld :
    (got (.pointerEvent (motion 1 0)) { got (.writeSourceEntry (ask 3 1 0) { rawSource 0 with owner := 3 }) base with handoffs := [] }).handoffs
      = [] := by decide

theorem test_CursorStaysOnScreen :
    ¬((motion 7999 (-4500)).dx = 0 ∧ (motion 7999 (-4500)).dy = 0) ∧ screenAt base 15999 0 = some base.glu.screen
    ∧ screenAt base (-1) 4500 = none ∧ screenAt base 8000 (-1) = none ∧ screenAt base 32000 0 = some 2
    ∧ (2 : Screen) ≠ base.glu.screen ∧ eligible base 2 = true ∧ base.screenOwner 2 ≠ base.screenOwner base.glu.screen
    ∧ eligible { base with cpe := base.cpe.set 1 Cpe.reset } 2 = false
    ∧ ({ motion 1 0 with held := button1 }).held.any = true
    ∧ { base with fcu := { base.fcu with lock := true } }.fcu.lock = true := by decide

/-- An event without motion leaves the cursor and reports its buttons and wheel; a released button leaves every pointer-ignore set; and
one with nothing to report, or of an owner that is not the pointer owner, reports nothing (R54, R66). -/
theorem test_CursorStaysOnScreen_reported :
    let e : PointerEvent := { motion 0 0 with wheel := 3, held := flagOn 1 button1, released := flagOn 2 Flags.none }
    let s : State := { base with cpe := Tab.fill { livePort with pointerIgnored := flagOn 2 button1 } }
    let t := got (.pointerEvent e) s
    (e.dx = 0 ∧ e.dy = 0) ∧ s.glu.source = some 0 ∧ s.glu.sourceOwner = some 0 ∧ s.fcu.owner = some 0
    ∧ t.glu = s.glu ∧ (∀ p : Port, (t.cpe.get p).pointerIgnored = button1)
    ∧ t.handoffs = [{ src := .glu, cmd := .portPointerReport 0 (at_ 8192 16384 (flagOn 1 Flags.none) 3) }]
    ∧ (got (.pointerEvent (motion 0 0)) base).handoffs = []
    ∧ (got (.pointerEvent e) { s with fcu := { s.fcu with owner := some 1 } }).handoffs = [] := by decide

/-- The cursor at the right edge of S2, which C1 owns; S3 beside it belongs to C2. -/
def edge : State := { base with glu := { base.glu with screen := 1, pos := { x := 31999, y := 4500 }, source := some 1, sourceOwner := some 0 } }

theorem test_PushIsWeighed :
    screenAt edge (31999 + 255) 4500 = some 2 ∧ (2 : Screen) ≠ edge.glu.screen ∧ eligible edge 2 = true
    ∧ edge.screenOwner 2 ≠ edge.screenOwner edge.glu.screen ∧ (motion 255 0).held.any = false ∧ edge.fcu.lock = false
    ∧ storedPressure edge.glu 2 + overshoot (edge.tables.screens.get edge.glu.screen) (31999 + 255) 4500
      < edge.tables.desk.crossingResistance
    ∧ edge.tables.desk.crossingResistance
      ≤ storedPressure edge.glu 2 + overshoot (edge.tables.screens.get edge.glu.screen) (31999 + 256) 4500
    ∧ edge.handoffs = [] ∧ edge.fcu.owner ≠ edge.screenOwner 2
    ∧ (got (.pointerEvent (motion 255 0)) edge).glu.pressure = some { target := 2, amount := 255 }
    ∧ (got (.pointerEvent (motion 256 0)) edge).glu.screen = 2
    ∧ (got (.pointerEvent (motion 256 0)) edge).fcu.focus = some 1
    ∧ (got (.pointerEvent (motion 256 0)) edge).glu.homes.get 0 = some { screen := 1, pos := { x := 31999, y := 4500 } } := by decide

theorem test_PushIsWeighed_amounts :
    { edge with glu := { edge.glu with pressure := some { target := 2, amount := 4094 } } }.glu.pressure
      = some { target := 2, amount := 4094 }
    ∧ edge.glu.pressure = none ∧ (1 : Screen) ≠ 2 ∧ overshoot (factoryScreen 1) 15999 (-3) = 3 ∧ overshoot (factoryScreen 1) 32000 9000 = 1
    ∧ overshoot (factoryScreen 1) 16000 8999 = 0 := by decide

/-- The cursor at the left edge of S2; S1 beside it belongs to C1 too. -/
def edgeLeft : State := { edge with glu := { edge.glu with pos := { x := 16000, y := 4500 } } }

/-- The right edge with S3's computer Suspended. -/
def edgeSuspended : State := { edge with cpe := edge.cpe.set 1 { livePort with linkState := .suspended } }

/-- The right edge with a landing answer of a jump to C4 on its way. -/
def edgeJumping : State := handed .glu (.jumpAnswer 3 .hotkey (some 1)) { edge with fcu := { edge.fcu with focus := some 3 } }

theorem test_PushIsWeighed_crossings :
    screenAt edgeLeft (16000 - 1) 4500 = some 0 ∧ eligible edgeLeft 0 = true
    ∧ edgeLeft.screenOwner 0 = edgeLeft.screenOwner edgeLeft.glu.screen
    ∧ (∀ h ∈ edge.handoffs, h.src ≠ .glu) ∧ edge.active 2 = some 2
    ∧ (got (.pointerEvent (motion (-1) 0)) edgeLeft).glu.screen = 0
    ∧ (edgeSuspended.cpe.get 1).linkState = .suspended ∧ eligible edgeSuspended 2 = true
    ∧ hands .glu (.wakeRequest 1) (got (.pointerEvent (motion 256 0)) edgeSuspended)
    ∧ (∃ h ∈ edgeJumping.handoffs, h.src = .glu ∧ h.cmd = .jumpAnswer 3 .hotkey (some 1))
    ∧ (got (.pointerEvent (motion 256 0)) edgeJumping).fcu.focus = some 1
    ∧ (got (.pointerEvent (motion 256 0)) edge).handoffs.getLast?
      = some { src := .glu, cmd := .portPointerReport 1 (at_ 261 16384 Flags.none 0) } := by unfold hands; decide

/-- A push held at the edge has nothing to report there; at a crossing a released button leaves the sets of the other ports, that of the
owner left empties, and the console button joins the new owner's (R54, R66). -/
theorem test_PushIsWeighed_buttons :
    let s : State := { edge with
      cip := { edge.cip with buttons := edge.cip.buttons.set 0 .passed }
      cpe := Tab.fill { livePort with pointerIgnored := flagOn 3 (flagOn 2 Flags.none) } }
    let t := got (.pointerEvent { motion 256 0 with released := flagOn 2 Flags.none }) s
    (got (.pointerEvent (motion 255 0)) edge).handoffs = [] ∧ s.fcu.owner = some 0 ∧ (∀ h ∈ s.handoffs, h.src ≠ .glu)
    ∧ (t.cpe.get 0).pointerIgnored = Flags.none ∧ (t.cpe.get 1).pointerIgnored = flagOn 3 button1
    ∧ (t.cpe.get 5).pointerIgnored = flagOn 3 Flags.none
    ∧ ((got (.pointerEvent (motion (-1) 0)) { s with glu := edgeLeft.glu }).cpe.get 0).pointerIgnored
      = flagOn 3 (flagOn 2 Flags.none) := by decide

theorem test_PositionInRectangle :
    (base.screenEntry base.glu.screen).placed = true
    ∧ insideScreen (base.screenEntry base.glu.screen) base.glu.pos.x base.glu.pos.y = true
    ∧ 1 ≤ (base.tables.sources.get 0).w ∧ 1 ≤ (base.tables.sources.get 0).h ∧ mapCursor base 0 = (8192, 16384) := by decide

theorem test_GlideRequestsTaken :
    { base with xpc := Xpc.reset }.screenOwner base.glu.screen = none ∧ base.active base.glu.screen = some 0
    ∧ (base.tables.sources.get 0).owner = some 0
    ∧ landingOf { base with cpe := Tab.fill Cpe.reset } 1 = none
    ∧ landingOf base 1 = some (2, { x := 40000, y := 4500 })
    ∧ base.glu.pressureHold = none
    ∧ { base with glu := { base.glu with pressureHold := some 301000 } }.glu.pressureHold = some 301000 := by decide

/-- The desk with a home record of C2. -/
def homed (sc : Screen) : State := { base with glu := { base.glu with homes := base.glu.homes.set 1 (some { screen := sc, pos := { x := 1, y := 1 } }) } }

theorem test_GlideRequestsTaken_landings :
    eligible (homed 3) 3 = true ∧ (homed 3).screenOwner 3 = some 1 ∧ (homed 0).screenOwner 0 ≠ some 1
    ∧ landingOf (homed 3) 1 = some (3, { x := 48000, y := 1 }) ∧ landingOf (homed 0) 1 = some (2, { x := 40000, y := 4500 })
    ∧ (∀ d : Screen, d < 2 → base.screenOwner d ≠ some 1) ∧ base.glu.homes.get 1 = none
    ∧ (got (.jumpRequest 1 .hotkey) base).glu.homes.get 0 = some { screen := 0, pos := { x := 8000, y := 4500 } }
    ∧ (∀ sc : Screen, eligible { base with cpe := Tab.fill Cpe.reset } sc = false) := by decide

/-- C1's requests are served wherever the cursor is. -/
theorem test_GlideRequestsTaken_served (a b c : Nat) : Served edge (ask a b c) ∧ Served moved (ask a b c) :=
  ⟨⟨rfl, rfl, rfl, rfl, rfl⟩, rfl, rfl, rfl, rfl, rfl⟩

theorem test_GlideRequestsTaken_writes :
    (ask 4 2 0).arg2 = (1 : Screen).val + 1 ∧ checkScreen (rawScreen 1) = some (factoryScreen 1)
    ∧ checkScreen { rawScreen 1 with w := 8000 } = some { factoryScreen 1 with w := 8000 }
    ∧ checkScreen { rawScreen 1 with placed := 0 } = some { factoryScreen 1 with placed := false }
    ∧ screenConflict edge.tables 1 { factoryScreen 1 with w := 8000 } = false
    ∧ screenConflict edge.tables 1 { factoryScreen 1 with placed := false } = false
    ∧ (1 : Screen) = edge.glu.screen ∧ (1 : Screen) ≠ base.glu.screen
    ∧ edge.glu.source = some 1 ∧ edge.glu.sourceOwner = some 0 ∧ edge.fcu.owner = some 0
    ∧ (got (.writeScreenEntry (ask 4 2 0) { rawScreen 1 with w := 8000 }) edge).glu.pos = { x := 23999, y := 4500 }
    ∧ (got (.writeScreenEntry (ask 4 2 0) { rawScreen 1 with w := 8000 }) edge).handoffs
      = [{ src := .glu, cmd := .portPointerReport 0 (at_ 32765 16384 Flags.none 0) }]
    ∧ (got (.writeScreenEntry (ask 4 2 0) { rawScreen 1 with placed := 0 }) edge).lowestPlaced = some 0
    ∧ (got (.writeScreenEntry (ask 4 2 0) { rawScreen 1 with placed := 0 }) edge).glu.screen = 0
    ∧ edge.active 0 = some 0 ∧ (edge.tables.sources.get 0).owner = some 0
    ∧ (got (.writeScreenEntry (ask 4 2 0) { rawScreen 1 with placed := 0 }) edge).handoffs
      = [{ src := .glu, cmd := .portPointerReport 0 (at_ 8192 16384 Flags.none 0) }] := by decide

theorem test_LinkEventsTaken :
    base.loading = false ∧ livePort.linkState ≠ .detached ∧ (port Cpe.reset).loading = false ∧ Cpe.reset.linkState = .detached
    ∧ ((port Cpe.reset).portEntry 0).enabled = true ∧ ((port Cpe.reset).portEntry 0).settlePolls ≠ 0
    ∧ (got (.linkConfigured 0) (port Cpe.reset)).cpe.get 0 = { Cpe.reset with linkState := .settling, link := .up }
    ∧ ((got (.linkSuspended 0) base).cpe.get 0).linkState = .suspended
    ∧ ((got (.linkResumed 0) (got (.linkSuspended 0) base)).cpe.get 0).linkState = .recovering := by decide

/-- C1's port off or on, with a number of settle polls. -/
def portTable (on : Bool) (polls : Nat) (s : State) : State :=
  { s with tables := { s.tables with ports := s.tables.ports.set 0 { factoryPort 0 with enabled := on, settlePolls := polls } } }

theorem test_LinkEventsTaken_edges :
    ((portTable false 3 (port Cpe.reset)).portEntry 0).enabled = false
    ∧ ((portTable true 0 (port Cpe.reset)).portEntry 0).settlePolls = 0
    ∧ ((got (.linkConfigured 0) (portTable true 0 (port Cpe.reset))).cpe.get 0).linkState = .active := by decide

theorem test_LinkEventsTaken_writes :
    (ask 2 2 0).arg2 = (1 : Port).val + 1 ∧ (ask 2 1 0).arg2 = (0 : Port).val + 1 ∧ (1 : Port) ≠ (ask 2 2 0).port
    ∧ checkPort (rawPort 1) = some (factoryPort 1, false)
    ∧ checkPort { rawPort 1 with enabled := 0 } = some ({ factoryPort 1 with enabled := false }, false)
    ∧ checkPort { rawPort 1 with settlePolls := 0 } = some ({ factoryPort 1 with settlePolls := 0 }, false)
    ∧ ((got (.writePortEntry (ask 2 2 0) { rawPort 1 with enabled := 0 }) base).cpe.get 1).linkState = .detached
    ∧ ((got (.writePortEntry (ask 2 2 0) (rawPort 1))
        (got (.writePortEntry (ask 2 2 0) { rawPort 1 with enabled := 0 }) base)).cpe.get 1).linkState = .settling
    ∧ ((got (.writePortEntry (ask 2 2 0) { rawPort 1 with settlePolls := 0 })
        { base with cpe := base.cpe.set 1 { livePort with linkState := .settling } }).cpe.get 1).linkState = .active
    ∧ (got (.writePortEntry (ask 2 2 0) (rawPort 1)) base).handoffs = [] := by decide

theorem test_PollsAnswered :
    ((inState .active).cpe.get 0).linkState = .active ∧ ((inState .stalled).cpe.get 0).linkState = .stalled
    ∧ ((inState .settling).cpe.get 0).settle + 1 < ((inState .settling).portEntry 0).settlePolls
    ∧ ((port { livePort with linkState := .settling, settle := 2 }).portEntry 0).settlePolls ≤ 2 + 1
    ∧ ((inState .waking).cpe.get 0).linkState = .waking
    ∧ (port { Cpe.reset with link := .up }).cpe.get 0 = { Cpe.reset with link := .up } ∧ Cpe.reset.link ≠ .up
    ∧ (got (.keyboardPoll 0) (port { livePort with keyQueue := [snap 4, snap 5] })).sent = [.keyboardAnswer 0 (some (snap 4))] := by
  decide

/-- C1's port with a full keyboard queue. -/
def fullKeys : Cpe := { livePort with keyQueue := List.replicate 8 (snap 4), reported := [4] }

theorem test_PortKeysTaken :
    4 ∈ ({ livePort with ignored := [4] } : Cpe).ignored ∧ Cpe.reset.linkState = .detached ∧ 6 ∉ livePort.ignored
    ∧ ({ livePort with keyQueue := List.replicate 7 (snap 4) } : Cpe).keyQueue.length < 8 ∧ 8 ≤ fullKeys.keyQueue.length
    ∧ ((inState .settling).cpe.get 0).linkState = .settling ∧ ((inState .suspended).cpe.get 0).wakeArmed = true
    ∧ ((inState .suspended).portEntry 0).wakeOnKey = true
    ∧ (port { livePort with linkState := .suspended, wakeArmed := false }).cpe.get 0
      = { livePort with linkState := .suspended, wakeArmed := false }
    ∧ 4 ∈ fullKeys.reported ∧ 6 ∉ fullKeys.reported
    ∧ ((got (.portKeyPress 0 6) (port fullKeys)).cpe.get 0).counters.keysCoalesced = 1
    ∧ ((got (.portKeyRelease 0 4) (port fullKeys)).cpe.get 0).keyQueue
      = List.replicate 7 (snap 4) ++ [{ modifiers := [], keys := [] }]
    ∧ 8 ≤ ({ fullKeys with linkState := .suspended } : Cpe).keyQueue.length
    ∧ (got (.portKeyPress 0 6) (port { fullKeys with linkState := .suspended })).handoffs
      = [{ src := .cpe 0, cmd := .noticeRaise .inputCoalesced }, { src := .cpe 0, cmd := .wakeRequest 0 }] := by decide

theorem test_LeaveAndJoinTaken :
    ((inState .suspended).cpe.get 0).reported = [] ∧ ({ fullKeys with linkState := .suspended } : Cpe).reported ≠ []
    ∧ 8 ≤ fullKeys.keyQueue.length ∧ ((inState .active).cpe.get 0).keyQueue.length < 8
    ∧ ((got (.joinIndication 0 [4, 225]) (port fullKeys)).cpe.get 0).ignored = [225] := by decide

/-- C1's port with a full pointer queue. -/
def fullPointer : Cpe :=
  { livePort with pointerQueue := List.replicate 7 (at_ 1 1 Flags.none 0) ++ [at_ 2000 3000 button1 100] }

theorem test_PointerReportsMerge :
    ((inState .settling).cpe.get 0).linkState = .settling ∧ livePort.linkState = .active ∧ livePort.pointerQueue = []
    ∧ fullPointer.pointerQueue = List.replicate 7 (at_ 1 1 Flags.none 0) ++ [at_ 2000 3000 button1 100]
    ∧ (at_ 2000 3000 button1 100).buttons = (at_ 5 5 button1 60).buttons
    ∧ (at_ 2000 3000 button1 100).buttons ≠ (at_ 5 5 Flags.none 0).buttons ∧ 8 ≤ fullPointer.pointerQueue.length
    ∧ (fullPointer.pointerQueue.drop 1).length < 8
    ∧ ((got (.portPointerReport 0 (at_ 5 5 button1 60)) (port fullPointer)).cpe.get 0).pointerQueue.getLast?
      = some (at_ 5 5 button1 127)
    ∧ ((got (.portPointerReport 0 (at_ 5 5 Flags.none 0)) (port fullPointer)).cpe.get 0).counters.clicksCoalesced = 1 := by decide

theorem test_WakesAndStallsAtPort :
    ((inState .suspended).cpe.get 0).wakeArmed = true ∧ ((inState .active).cpe.get 0).linkState ≠ .suspended
    ∧ ((inState .waking).cpe.get 0).linkState = .waking ∧ ((inState .recovering).cpe.get 0).linkState = .recovering
    ∧ livePort.stall = none ∧ ({ livePort with stall := some 501000 } : Cpe).stall = some 501000
    ∧ ((got (.stallTimerExpiry 0) (port { livePort with stall := some 501000, reported := [4] })).cpe.get 0).ignored = [4] := by decide

/-- Wake begins of a port is not taken before a pointer report handed to that port before it (R93, log 4). -/
theorem test_wakesReported :
    moves (handed .wkc (.wakeBegins 0) (handed .glu (.portPointerReport 0 (at_ 5 5 Flags.none 0)) (inState .suspended)))
      = [some (.portPointerReport 0 (at_ 5 5 Flags.none 0))]
    ∧ (moves (handed .wkc (.wakeBegins 0) (handed .glu (.portPointerReport 1 (at_ 5 5 Flags.none 0)) (inState .suspended)))).length = 2 := by
  decide

/-- A monitor in Acquiring with two agreeing periods. -/
def acquiring : Fmn :=
  { Fmn.reset with
    state := .acquiring, lastStart := some 2000, measured := some 16683, agreement := 2, currentLine := 1124
    loss := some 102000 }

theorem test_FrameStartTaken :
    Fmn.reset.state = .noSignal ∧ Fmn.reset.lastStart = none ∧ Fmn.reset.loss = none ∧ acquiring.state = .acquiring
    ∧ acquiring.lastStart = some 2000
    ∧ weighPeriod acquiring.measured acquiring.agreement (18683 + 64 - 2000) = 3
    ∧ weighPeriod acquiring.measured acquiring.agreement (18683 + 65 - 2000) = 1
    ∧ weighPeriod acquiring.measured acquiring.agreement 7999 = 0 ∧ weighPeriod acquiring.measured acquiring.agreement 8000 = 1
    ∧ weighPeriod acquiring.measured acquiring.agreement 50001 = 0
    ∧ liveSource.lockedPeriod = some 16683 ∧ liveSource.loss = some 100900
    ∧ ((got (.frameStart 0 18683) (monitor acquiring)).fmn.get 0).linesPerFrame = some 1125
    ∧ ((got (.frameStart 0 (900 + 16683 + 64)) base).fmn.get 0).state = .locked
    ∧ ((got (.frameStart 0 (900 + 16683 + 65)) base).fmn.get 0).state = .unstable
    ∧ ((got (.frameStart 0 100901) base).fmn.get 0).state = .acquiring := by decide

/-- A frame start is handed to a screen that waits to switch onto the source, too (R139, log 42). -/
theorem test_FrameStartTaken_waiting :
    hands (.fmn 1) (.rampStep 0 1) (got (.frameStart 1 (900 + 16683)) (waiting toV2 base))
    ∧ ¬hands (.fmn 1) (.rampStep 0 1) (got (.frameStart 1 (900 + 16683)) base) := by unfold hands; decide

theorem test_LinesCounted :
    Fmn.reset.state = .noSignal ∧ ({ liveSource with currentLine := 4095 } : Fmn).currentLine = 4095
    ∧ liveSource.state ≠ .noSignal ∧ ({ liveSource with currentLine := 4094 } : Fmn).currentLine < 4095 ∧ Fmn.reset.loss = none
    ∧ liveSource.loss = some 100900
    ∧ ((got (.lineStart 0) (monitor { liveSource with currentLine := 4094 })).fmn.get 0).currentLine = 4095 := by decide

theorem test_RouteRequestTaken :
    { base with xpc := { base.xpc with peek := some { screen := 0, back := none, entry := 0, held := false } } }.xpc.peek
      = some { screen := 0, back := none, entry := 0, held := false }
    ∧ some (0 : Source) = (base.xpc.routes.get 0).active ∧ (base.xpc.routes.get 0).pending = none ∧ base.xpc.peek = none
    ∧ ((waiting toV2 base).xpc.routes.get 0).pending = some toV2 ∧ (waiting toV2 base).xpc.layout = none
    ∧ some (1 : Source) ≠ (base.xpc.routes.get 0).active ∧ (held base).xpc.hold ≠ none ∧ base.showsLocked (some 1) = true
    ∧ (base.screenEntry 0).switchMode = .frame ∧ (base.screenEntry 0).fade = false ∧ base.showsLocked none = false
    ∧ ((got (.route 0 none) base).xpc.routes.get 0) = { active := none, pending := none } := by decide

/-- A peek in force on S1. -/
def peeking : State :=
  { base with xpc := { base.xpc with peek := some { screen := 0, back := some 0, entry := 21, held := false } } }

/-- Output 1 following S1, and V2 private. -/
def following (s : State) : State :=
  { s with
    sou := s.sou.set 0 { mode := .follow 0 (some 0), blanked := false }
    tables := { s.tables with sources := s.tables.sources.upd 1 (fun e => { e with priv := true }) } }

/-- A request that replaces a waiting pending, with a peek recorded on its screen, waits under a new number (R119, R136). -/
theorem test_RouteRequestTaken_replaced :
    let s := waiting toV2 peeking
    let t := got (.route 0 (some 2)) s
    some (2 : Source) ≠ (s.xpc.routes.get 0).active ∧ (s.xpc.routes.get 0).pending ≠ none ∧ s.xpc.peek ≠ none
    ∧ t.xpc.routes.get 0
      = { active := some 0, pending := some { target := some 2, line := 0, cause := .route, quiet := false, number := 1 } }
    ∧ hands .xpc (.fadeRequest 0 1) t ∧ t.xpc.counts.get 0 = 1 ∧ t.xpc.peek = none
    ∧ hands .xpc (.drop 0) (got (.route 0 (some 0)) s) := by unfold hands; decide

/-- An output that follows switches with its screen in the same command, at a request made at once and at a line, and blanks
at a private source (R153, R154). -/
theorem test_RouteRequestTaken_shares :
    let s := following base
    let t := got (.lineValue 1 600) (waiting toV2 s)
    follows (s.sou.get 0) 0 = true ∧ follows (s.sou.get 1) 0 = false
    ∧ (got (.route 0 none) s).sou = s.sou.set 0 { mode := .follow 0 none, blanked := false }
    ∧ t.sou = s.sou.set 0 { mode := .follow 0 (some 1), blanked := true } ∧ hands .sou (.noticeRaise .shareBlanked) t
    ∧ (got (.lineValue 1 0) (waiting toV2 s)).sou = s.sou := by unfold hands; decide

theorem test_PendingTakesEffect :
    (waiting toV2 base).xpc.hold = none ∧ ((waiting toV2 base).screenEntry 0).fade = false
    ∧ ((waiting toV2 base).screenEntry 0).switchMode = .frame ∧ (base.fmn.get 1).linesPerFrame = some 1125 ∧ toV2.line < 1125
    ∧ (held (waiting toV2 base)).xpc.hold = some { start := 0, expiry := 2000000 } ∧ toV2.number ≠ 8
    ∧ ((got (.lineValue 1 600) (waiting toV2 base)).xpc.routes.get 0).active = some 1
    ∧ ((got (.lineValue 1 0) (waiting toV2 base)).xpc.routes.get 0).active = some 0
    ∧ ((got (.lineValue 1 0) (waiting { toV2 with line := 1125 } base)).xpc.routes.get 0).active = some 1
    ∧ ((got (.sourceStateChange 1 { old := .locked, new := .unstable }) (waiting toV2 base)).xpc.routes.get 0).active = some 1
    ∧ ((got (.fadeWaitReport 0 7)
        (waiting { toV2 with target := none } (screen1 (fun e => { e with fade := true }) base))).xpc.routes.get 0).active = none
    ∧ ((got .routeHoldTimerExpiry (held (waiting { toV2 with target := none } base))).xpc.routes.get 0).active = none := by decide

/-- A layout in flight with the screens of the flags outstanding, whose focus field is C4. -/
def inFlight (f : ScreenSet) (s : State) : State :=
  { s with xpc := { s.xpc with layout := some { number := 2, outstanding := f, focus := .computer 3 } } }

/-- A pending of cause Layout onto V2 on S1 that waits for line 600, S1 the last screen of the layout in flight. -/
def lastScreen : State := inFlight (flagOn 0 Flags.none) (waiting { toV2 with cause := .layout } base)

/-- The switch at the line completes the layout, after the switch notice, and raises RouteDone; with another screen outstanding it goes
on; and a quiet pending of another cause raises nothing and leaves it alone (R123, R130, R131, R134). -/
theorem test_PendingTakesEffect_layout :
    lastScreen.xpc.layout = some { number := 2, outstanding := flagOn 0 Flags.none, focus := .computer 3 }
    ∧ (base.fmn.get 1).linesPerFrame = some 1125 ∧ (base.screenEntry 0).fade = false
    ∧ (got (.lineValue 1 600) lastScreen).xpc.layout = none
    ∧ (got (.lineValue 1 600) lastScreen).handoffs = ([.switchNotice 0, .switchAtDimStage 0 (some 1), .switchAtWakeController 0 (some 1),
      .layoutCompletion (.computer 3) false, .noticeRaise .layoutDone, .noticeRaise .routeDone].map (fun c => { src := .xpc, cmd := c }))
    ∧ (got (.lineValue 1 600) (inFlight (flagOn 7 (flagOn 0 Flags.none)) lastScreen)).xpc.layout
      = some { number := 2, outstanding := flagOn 7 Flags.none, focus := .computer 3 }
    ∧ (got (.lineValue 1 600) (inFlight (flagOn 7 Flags.none) (waiting { toV2 with quiet := true } base))).handoffs.length = 3 := by
  decide

/-- A pending forced by its source, or switched at the end of a hold or at its FadeWait report, reports by its target (R121, R122, R134);
and a Route that replaces the last one of a layout completes it (R119, R130). -/
theorem test_PendingTakesEffect_notices :
    let forced := got (.sourceStateChange 1 { old := .locked, new := .unstable }) (waiting toV2 base)
    let hold := held (waiting { toV2 with target := none } base)
    let faded := screen1 (fun e => { e with fade := true, switchMode := .immediate }) (waiting toV2 base)
    hands .xpc (.noticeRaise .routeForced) forced ∧ ¬hands .xpc (.noticeRaise .routeDone) forced
    ∧ hold.xpc.hold ≠ none ∧ hold.managed (ask 0 0 0).port = true ∧ hold.mfe.inFlight.get 0 = none
    ∧ hands .xpc (.noticeRaise .routeDone) (got .routeHoldTimerExpiry hold)
    ∧ hands .xpc (.noticeRaise .routeDone) (got (.releaseRoutes (ask 0 0 0)) hold)
    ∧ ¬hands .xpc (.noticeRaise .routeForced) (got (.releaseRoutes (ask 0 0 0)) hold)
    ∧ hands .xpc (.noticeRaise .routeForced) (got (.fadeWaitReport 0 7) faded)
    ∧ (got (.route 0 (some 2)) lastScreen).xpc.layout = none ∧ hands .xpc (.noticeRaise .layoutDone) (got (.route 0 (some 2)) lastScreen)
    ∧ hands .xpc (.layoutCompletion (.computer 3) false) (got (.route 0 (some 0)) lastScreen)
    ∧ (got (.route 1 (some 2)) lastScreen).xpc.layout = lastScreen.xpc.layout := by unfold hands; decide

set_option maxRecDepth 8000 in
theorem test_PendingTakesEffect_writes :
    (ask 4 1 0).arg2 = (0 : Screen).val + 1 ∧ checkScreen { rawScreen 0 with fade := 1 } = some { factoryScreen 0 with fade := true }
    ∧ checkScreen { rawScreen 0 with switchMode := 1 } = some { factoryScreen 0 with switchMode := .immediate }
    ∧ screenConflict base.tables 0 { factoryScreen 0 with fade := true } = false
    ∧ screenConflict base.tables 0 { factoryScreen 0 with switchMode := .immediate } = false
    ∧ hands .xpc (.fadeRequest 0 1) (got (.writeScreenEntry (ask 4 1 0) { rawScreen 0 with fade := 1 }) (waiting toV2 base))
    ∧ ((got (.writeScreenEntry (ask 4 1 0) { rawScreen 0 with switchMode := 1 }) (waiting toV2 base)).xpc.routes.get 0).active = some 1
    ∧ ((got (.writeScreenEntry (ask 4 1 0) (rawScreen 0)) (waiting toV2 base)).xpc.routes.get 0).pending = some toV2
    ∧ (checkDesk { rawDesk with routeHoldLimit := 1500 }).map (fun e => e.1.routeHoldLimit) = some 1500
    ∧ (got (.writeDeskRecord (ask 1 1 0) { rawDesk with routeHoldLimit := 1500 }) (held base)).xpc.hold
      = some { start := 0, expiry := 1500000 }
    ∧ (got (.writeDeskRecord (ask 1 1 0) { rawDesk with routeHoldLimit := 1500 }) { held base with timebase := 1500000 }).xpc.hold
      = none := by unfold hands; decide

/-- C1's requests are served with a pending or a hold on. -/
theorem test_PendingTakesEffect_served (a b c : Nat) :
    Served (waiting toV2 base) (ask a b c) ∧ Served (held base) (ask a b c) := ⟨⟨rfl, rfl, rfl, rfl, rfl⟩, rfl, rfl, rfl, rfl, rfl⟩

/-- A state change that did not leave Locked forces no pending, whatever its source is by then (R122, log 40). -/
theorem test_PendingTakesEffect_notLeft :
    ((got (.sourceStateChange 1 { old := .noSignal, new := .acquiring }) (waiting toV2 base)).xpc.routes.get 0).pending = some toV2 := by decide

/-- A layout in flight. -/
def flying : State :=
  { base with xpc := { base.xpc with layout := some { number := 2, outstanding := flagOn 3 Flags.none, focus := .keep } } }

theorem test_LayoutRecallTaken :
    (base.tables.layouts.get 1).routes.get 0 = .keep ∧ (got (.layout 1) base).xpc.layout = none
    ∧ (got (.layout 0) { base with xpc := Xpc.reset }).xpc.layout
      = some { number := 0, outstanding := Flags.all, focus := .computer 0 }
    ∧ (got (.layout 1) flying).xpc.layoutsSuperseded = 1
    ∧ hands .xpc (.noticeRaise .layoutSuperseded) (got (.layout 1) flying) ∧ base.xpc.layout = none ∧ flying.xpc.layout ≠ none
    ∧ (got (.layout 0) { base with xpc := Xpc.reset }).xpc.routes.get 2
      = { active := none, pending := some { target := some 2, line := 0, cause := .layout, quiet := false, number := 1 } } := by
  unfold hands; decide

theorem test_PeekTaken :
    base.xpc.peek = none ∧ peeking.xpc.peek = some { screen := 0, back := some 0, entry := 21, held := false }
    ∧ (got (.peek 13 4 21 false) peeking).xpc.peek = none
    ∧ (got (.peek 13 4 22 true) peeking).xpc.peek = some { screen := 4, back := some 4, entry := 22, held := true }
    ∧ (got (.peek 13 0 22 true) peeking).xpc.peek = some { screen := 0, back := some 0, entry := 22, held := true }
    ∧ (22 : EntryNo) ≠ 21 ∧ (got (.peekRevert 21) peeking).xpc.peek = none
    ∧ (got (.peek 13 4 21 false) base).xpc.routes.get 4
      = { active := some 4, pending := some { target := some 13, line := 0, cause := .peek, quiet := true, number := 1 } } := by decide

/-- A revert that is dropped because its screen shows the return source raises nothing (R157). -/
theorem test_PeekTaken_quiet :
    (got (.peekRevert 21) peeking).handoffs = [] ∧ peeking.active 0 = some 0
    ∧ ¬hands .xpc (.noticeRaise .routeDone) (got (.peekRevert 21) (waiting { toV2 with cause := .peek } peeking)) := by
  unfold hands; decide

/-- S1's Dim Stage in a phase at a level. -/
def dimming (phase : FadePhase) (level target : Nat) : Dms :=
  { level := level, target := target, phase := phase, source := some 0, inHand := some 41, number := 41, tick := none }

theorem test_DimSteps :
    (stage (dimming .normal 255 160)).dms.get 0 = dimming .normal 255 160
    ∧ ((got (.rampStep 0 0) (stage (dimming .normal 255 160))).dms.get 0).level = 231
    ∧ ((got (.rampStep 0 0) (stage (dimming .normal 183 160))).dms.get 0).level = 160
    ∧ ((got (.rampStep 0 1) (stage (dimming .normal 183 160))).dms.get 0).level = 183
    ∧ ((got (.rampStep 0 0) (stage (dimming .fadeOut 24 0))).dms.get 0).phase = .fadeWait
    ∧ ((got (.rampStep 0 0) (stage (dimming .fadeOut 25 0))).dms.get 0).phase = .fadeOut
    ∧ ((got (.rampStep 0 0) (stage (dimming .fadeIn 231 255))).dms.get 0).phase = .normal
    ∧ ({ dimming .normal 0 96 with tick := some 16667 } : Dms).tick = some 16667
    ∧ (stage (dimming .fadeOut 24 0)).dms.get 0 = dimming .fadeOut 24 0 ∧ (dimming .fadeOut 24 0).inHand = some 41 := by decide

/-- A tick steps as a frame start does: it ends FadeOut with the report of the number in hand, and FadeIn at the target (R142, R143). -/
theorem test_DimSteps_ticks :
    let at16 (d : Dms) : State := got (.substituteTickExpiry 0) (stage { d with tick := some 16667 })
    (at16 (dimming .normal 255 160)).dms.get 0 = { dimming .normal 231 160 with tick := some 33334 }
    ∧ (at16 (dimming .fadeOut 24 0)).dms.get 0 = { dimming .fadeWait 0 0 with tick := some 33334 }
    ∧ (at16 (dimming .fadeOut 24 0)).handoffs = [{ src := .dms 0, cmd := .fadeWaitReport 0 41 }]
    ∧ (at16 (dimming .fadeOut 25 0)).dms.get 0 = { dimming .fadeOut 1 0 with tick := some 33334 }
    ∧ (at16 (dimming .fadeIn 231 255)).dms.get 0 = { dimming .normal 255 255 with tick := some 33334 }
    ∧ (at16 (dimming .fadeIn 230 255)).dms.get 0 = { dimming .fadeIn 254 255 with tick := some 33334 } := by decide

/-- What a screen sends (R140, R149): its source scaled, black for a source in NoSignal and for None, and nothing while it sleeps. -/
theorem test_DimSteps_pictures :
    (stage (dimming .normal 160 160)).screenComponent 0 (fun _ => 200) = some 125
    ∧ (monitor Fmn.reset).screenComponent 0 (fun _ => 200) = some 0 ∧ (Fmn.reset).state = .noSignal
    ∧ { base with xpc := Xpc.reset }.active 0 = none ∧ { base with xpc := Xpc.reset }.screenComponent 0 (fun _ => 200) = some 0
    ∧ ((got .deskSleepAction base).wkc.power.get 0).on = false
    ∧ (got .deskSleepAction base).screenComponent 0 (fun _ => 200) = none := by decide

theorem test_FadePhasesMove :
    ((screen1 (fun e => { e with fade := true }) base).screenEntry 0).fade = true ∧ (base.screenEntry 0).fade = false
    ∧ (dimming .normal 1 96).level ≠ 0 ∧ (dimming .fadeIn 0 96).level = 0
    ∧ ((got (.fadeRequest 0 42) (screen1 (fun e => { e with fade := true }) (stage (dimming .normal 0 96)))).dms.get 0).phase
      = .fadeWait
    ∧ ((got (.fadeRequest 0 42) (stage (dimming .fadeOut 16 0))).dms.get 0).phase = .normal
    ∧ ((got (.drop 0) (stage (dimming .fadeWait 0 0))).dms.get 0).phase = .fadeIn := by decide

/-- The desk with S1's Dim Stage in FadeOut and its fade field on. -/
def fading : State := screen1 (fun e => { e with fade := true }) (stage (dimming .fadeOut 16 0))

/-- C1's requests are served while S1 fades. -/
theorem test_FadePhasesMove_served (a b c : Nat) : Served fading (ask a b c) := ⟨rfl, rfl, rfl, rfl, rfl⟩

theorem test_FadePhasesMove_writes :
    (fading.screenEntry 0).fade = true ∧ (fading.dms.get 0).phase ≠ .normal ∧ (base.dms.get 0).phase = .normal
    ∧ screenConflict fading.tables 0 (factoryScreen 0) = false
    ∧ (got (.writeScreenEntry (ask 4 1 0) (rawScreen 0)) fading).dms.get 0
      = { dimming .fadeOut 16 255 with phase := .normal, inHand := none }
    ∧ (checkDesk { rawDesk with dimFloor := 200 }).map (fun e => e.1.dimFloor) = some 200
    ∧ ((got (.writeDeskRecord (ask 1 1 0) { rawDesk with dimFloor := 200 }) base).dms.get 4).target = 200
    ∧ ((got (.writeDeskRecord (ask 1 1 0) { rawDesk with dimFloor := 200 }) fading).dms.get 0).target = 0
    ∧ (got (.writeDeskRecord (ask 1 1 0) rawDesk) base).dms = base.dms := by decide

theorem test_DimStageRefreshed :
    base.tables.desk.dimFloor ≤ 255 ∧ (dimming .fadeOut 16 0).inHand = some 41 ∧ (dimming .normal 9 9).phase ≠ .fadeOut
    ∧ (dimming .normal 9 9).source = some 0 ∧ (dimming .normal 9 9).source ≠ some 1
    ∧ ((got (.targetRefresh 4) base).dms.get 4).target = 160 ∧ ((got (.targetRefresh 0) base).dms.get 0).target = 255 := by decide

/-- The desk with both outputs following S5, and V1 private. -/
def shared : State :=
  { base with
    tables := { base.tables with sources := base.tables.sources.upd 0 (fun e => { e with priv := true }) }
    sou := Tab.fill { mode := .follow 4 (some 4), blanked := false } }

theorem test_ShareActionsTaken :
    follows ((got (.share 0 4) base).sou.get 0) 4 = true ∧ follows (base.sou.get 0) 4 = false
    ∧ shared.isPrivate (some 0) = true ∧ (shared.sou.get 0).blanked = false ∧ follows (shared.sou.get 1) 4 = true
    ∧ (got (.followedScreenSwitch 4 (some 0)) shared).handoffs
      = [{ src := .sou, cmd := .noticeRaise .shareBlanked }, { src := .sou, cmd := .noticeRaise .shareBlanked }]
    ∧ (got (.followedScreenSwitch 4 none) (got (.share 0 4) base)).sou.get 0 = { mode := .follow 4 none, blanked := false } := by decide

/-- C1's requests are served while the outputs follow. -/
theorem test_ShareActionsTaken_served (a b c : Nat) : Served shared (ask a b c) := ⟨rfl, rfl, rfl, rfl, rfl⟩

theorem test_ShareActionsTaken_more :
    (ask 3 5 0).arg2 = (4 : Source).val + 1 ∧ checkSource { rawSource 4 with priv := 1 } = some { factorySource 4 with priv := true }
    ∧ (shared.sou.get 0).wanted = some 4 ∧ (base.sou.get 0).wanted = none
    ∧ ((got (.writeSourceEntry (ask 3 5 0) { rawSource 4 with priv := 1 }) shared).sou.get 0).blanked = true
    ∧ hands .sou (.noticeRaise .shareBlanked) (got (.writeSourceEntry (ask 3 5 0) { rawSource 4 with priv := 1 }) shared)
    ∧ (got (.writeSourceEntry (ask 3 5 0) (rawSource 4)) shared).sou = shared.sou
    ∧ shared.outputComponent 0 (fun _ => 200) = some 200 ∧ base.outputComponent 0 (fun _ => 200) = none
    ∧ { shared with fmn := Tab.fill Fmn.reset }.outputComponent 0 (fun _ => 200) = some 0
    ∧ (got (.writeSourceEntry (ask 3 5 0) { rawSource 4 with priv := 1 }) shared).outputComponent 0 (fun _ => 200) = none := by
  unfold hands; decide

theorem test_WakeRequestsTaken :
    (base.wkc.wakes.get 0).phase = .idle ∧ (base.cpe.get 0).linkState ≠ .suspended ∧ (base.cpe.get 0).linkState ≠ .detached
    ∧ ((inState .suspended).cpe.get 0).wakeArmed = true ∧ ((port Cpe.reset).cpe.get 0).linkState = .detached
    ∧ ((got (.wakeRequest 0) (inState .suspended)).wkc.wakes.get 0).phase = .asked
    ∧ ((got (.linkStateChange 0 .waking) (got (.wakeRequest 0) (inState .suspended))).wkc.wakes.get 0).timer = some 3001000 := by
  decide

/-- A wake being signalled. -/
def signalling (retries : Nat) : State :=
  woken { phase := .signalling, retries := retries, timer := some 3001000, signal := some 11000, recovery := some 21000 } (inState .waking)

theorem test_WakeTimersExpire :
    (base.wkc.wakes.get 0).signal = none ∧ (base.wkc.wakes.get 0).timer = none ∧ (base.wkc.wakes.get 0).recovery = none
    ∧ ((signalling 1).wkc.wakes.get 0).timer = some 3001000 ∧ ((signalling 1).wkc.wakes.get 0).signal = some 11000
    ∧ ((signalling 1).cpe.get 0).linkState = .waking ∧ 1 < (signalling 1).tables.desk.wakeRetries
    ∧ ¬(2 < (signalling 2).tables.desk.wakeRetries) ∧ ((signalling 1).wkc.wakes.get 0).recovery = some 21000
    ∧ ((got (.wakeTimerExpiry 0) (signalling 1)).wkc.wakes.get 0).retries = 2
    ∧ ((got (.wakeTimerExpiry 0) (signalling 2)).wkc.wakes.get 0).phase = .idle := by decide

theorem test_ScreenPowerMoves :
    base.active 0 = some 0 ∧ base.active 0 ≠ some 1 ∧ (base.wkc.power.get 0).noSignal = none
    ∧ ((got (.switchAtWakeController 0 none) base).wkc.power.get 0).noSignal = some 10001000
    ∧ ((got (.noSignalTimerExpiry 0) (got (.switchAtWakeController 0 none) base)).wkc.power.get 0).on = false
    ∧ ((got (.stateChangeAtWakeController 0 .locked)
        { base with wkc := { base.wkc with power := Tab.fill { on := false, noSignal := none } } }).wkc.power.get 0).on = true := by
  decide

theorem test_DeskSleepAndWake :
    base.wkc.deskAsleep = false ∧ asleep.wkc.deskAsleep = true ∧ (asleep.wkc.wakes.get 0).phase = .idle
    ∧ ((inState .suspended).cpe.get 0).linkState = .suspended ∧ ((inState .suspended).cpe.get 0).wakeArmed = true
    ∧ (inState .suspended).screenOwner 0 = some 0
    ∧ (got (.deskWakeInput (some 4)) (got .deskSleepAction (inState .suspended))).wkc.deskAsleep = false
    ∧ ((got (.deskWakeInput (some 4)) (got .deskSleepAction (inState .suspended))).wkc.wakes.get 0).phase = .asked := by decide

/-- A wake of the desk hands a screen wake for each screen that was Sleeping with a Locked source, a wake begins to a Suspended port with
wake armed, and raises WakeRefused for one without; with the field off it asks no port (R162, R168, R170). -/
theorem test_DeskSleepAndWake_handed :
    let s : State := { asleep with
      cpe := (base.cpe.set 0 { livePort with linkState := .suspended }).set 1 { livePort with linkState := .suspended, wakeArmed := false }
      fmn := base.fmn.set 1 Fmn.reset
      wkc := { asleep.wkc with power := (Tab.fill { on := true, noSignal := none }).set 0 { on := false, noSignal := none } } }
    (desk (fun d => { d with deskWakeWakes := true }) s).tables.desk.deskWakeWakes = true
    ∧ (got (.deskWakeInput none) (desk (fun d => { d with deskWakeWakes := true }) s)).handoffs
      = [{ src := .wkc, cmd := .screenWake 0 }, { src := .wkc, cmd := .wakeBegins 0 }, { src := .wkc, cmd := .noticeRaise .wakeRefused },
        { src := .wkc, cmd := .noticeRaise .deskSleepChanged }]
    ∧ (got (.deskWakeInput none) (desk (fun d => { d with deskWakeWakes := false }) s)).handoffs
      = [{ src := .wkc, cmd := .screenWake 0 }, { src := .wkc, cmd := .noticeRaise .deskSleepChanged }] := by decide

/-- A desk wake reads Locked from the monitor, also where the change is still on its way (log 54). -/
theorem test_DeskSleepAndWake_onTheWay :
    let s := handed (.fmn 0) (.stateChangeAtWakeController 0 .locked) (got .deskSleepAction base)
    ((got (.deskWakeInput none) s).wkc.power.get 0).on = true := by decide

/-- The desk with the notice pacing on and a kind in the set. -/
def paced : State :=
  { base with
    tables := { base.tables with desk := { base.tables.desk with noticePacing := 500 } }
    mfe := { base.mfe with notices := flagOn 1 Flags.none, pacing := some 501000 } }

theorem test_NoticesTaken :
    base.mfe.notices.get (noticeBit .routeDone) = false ∧ base.mfe.mask.get (noticeBit .routeDone) = true
    ∧ paced.mfe.notices.get (noticeBit .routeDone) = true
    ∧ { base with mfe := { base.mfe with mask := Flags.none } }.mfe.mask.get (noticeBit .routeDone) = false
    ∧ base.mfe.pacing = none ∧ paced.mfe.pacing = some 501000
    ∧ (got .pacingTimerExpiry paced).mfe.pacing = some 1001000
    ∧ base.managed 0 = true ∧ (base.portEntry 0).enabled = true ∧ (base.cpe.get 0).link = .up := by decide

theorem test_NoticesTaken_writes :
    (checkDesk rawDesk).map (fun e => e.1.noticePacing) = some 0 ∧ (checkDesk { rawDesk with noticePacing := 20 }).map (fun e => e.1.noticePacing) = some 20
    ∧ (got (.writeDeskRecord (ask 1 1 0) rawDesk) paced).mfe = { paced.mfe with pacing := none }
    ∧ (got (.writeDeskRecord (ask 1 1 0) { rawDesk with noticePacing := 20 }) paced).mfe = paced.mfe := by decide

/-- C1's requests are served while pacing runs. -/
theorem test_NoticesTaken_served (a b c : Nat) : Served paced (ask a b c) := ⟨rfl, rfl, rfl, rfl, rfl⟩

/-- The desk with C1's save in flight. -/
def saving : State := got (.saveSettings (ask 0 0 0)) base

theorem test_RequestsRefused :
    base.managed 1 = false ∧ base.managed 0 = true ∧ saving.managed 0 = true ∧ saving.mfe.inFlight.get 0 ≠ none
    ∧ (1 ≤ (ask 6 0 0).arg1 ∧ (ask 6 0 0).arg1 ≤ 6) ∧ (1 ≤ (ask 7 0 0).arg1 ∧ (ask 7 0 0).arg1 ≤ 7) := by decide

theorem test_ReadsServed :
    base.managed 0 = true ∧ base.mfe.inFlight.get 0 = none
    ∧ readTable base.tables 2 6 = some (some [1, 0, 1, 1, 3, 0xF4, 0x01]) ∧ readTable base.tables 2 7 = some none
    ∧ readTable base.tables 1 0 = some none ∧ sectionBytes base 1 = some [1, 1] ∧ (ask 2 0 0).arg1 = 2 := by decide

/-- The ends of the six tables, and the order of the counters. -/
theorem test_ReadsServed_numbers :
    readTable base.tables 6 32 = some (some (hotkeyBytes (base.tables.hotkeys.get 31))) ∧ readTable base.tables 6 33 = some none
    ∧ readTable base.tables 3 0 = some none ∧ readTable base.tables 4 9 = some none ∧ readTable base.tables 5 17 = some none
    ∧ readTable base.tables 0 1 = none ∧ readTable base.tables 7 1 = none
    ∧ { matcher { Hkm.reset with misses := 9 } with
        cpe := base.cpe.set 5 { livePort with counters := ⟨1, 2, 3, 4⟩ } }.counterTable.cells
      = List.replicate 20 0 ++ [1, 2, 3, 4, 9, 0, 0] := by decide

/-- Sections written out: a fresh console, C1's port, an output that is Off, the settings. -/
theorem test_ReadsServed_bytes :
    sectionBytes State.reset 1 = some [0, 0] ∧ (sectionBytes base 3).map (fun b => b.take 6) = some [2, 1, 1, 0, 0, 0]
    ∧ sectionBytes base 6 = some [0, 0, 0, 0, 0, 0, 0, 0, 0, 0, 0, 0]
    ∧ sectionBytes shared 6 = some [1, 1, 5, 0, 1, 5, 0, 5, 1, 1, 5, 0, 1, 5, 0, 5]
    ∧ sectionBytes State.reset 7 = some [0, 0, 1] ∧ sectionBytes base 8 = none ∧ sectionBytes base 0 = none
    ∧ screenBytes (factoryScreen 1) = [1, 0x80, 0x3E, 0, 0, 0x80, 0x3E, 0x28, 0x23, 0, 0, 0, 0]
    ∧ layoutBytes (factoryLayout 0) = [2, 3, 4, 5, 6, 7, 8, 9, 2] ∧ (hotkeyBytes (factoryHotkey 14)).take 3 = [1, 0, 15] := by decide

theorem test_TableWritesTaken :
    base.managed 0 = true ∧ base.mfe.inFlight.get 0 = none ∧ base.mfe.save = none
    ∧ (checkDesk rawDesk).map Prod.snd = some false
    ∧ checkDesk { rawDesk with prefixKey := 3 } = none ∧ (checkDesk { rawDesk with tapWindow := 99 }).map Prod.snd = some true
    ∧ deskConflict base.tables { factoryDesk with prefixKey := 30 } = true ∧ deskConflict base.tables factoryDesk = false
    ∧ (ask 1 1 0).arg2 = 1 ∧ (ask 1 2 0).arg2 ≠ 1
    ∧ checkPort (readRawPort [2]) = none ∧ ((checkPort (readRawPort (portBytes (factoryPort 1)))).map Prod.snd) = some false
    ∧ (ask 2 1 0).arg2 = (0 : Port).val + 1 ∧ ¬(1 ≤ (ask 2 7 0).arg2 ∧ (ask 2 7 0).arg2 ≤ 6) := by decide

/-- The checks at the ends of their ranges: the last value that passes and the first that does not, and clamps with their flag. -/
theorem test_TableWritesTaken_ranges :
    checkDesk { rawDesk with prefixKey := 221 } ≠ none ∧ checkDesk { rawDesk with prefixKey := 222 } = none
    ∧ checkDesk { rawDesk with tapCount := 0 } = none ∧ checkDesk { rawDesk with glideGain := 4096 } ≠ none
    ∧ checkDesk { rawDesk with glideGain := 15 } = none ∧ checkDesk { rawDesk with crossingResistance := 4096 } = none
    ∧ checkDesk { rawDesk with startLayout := 17 } = none ∧ checkDesk { rawDesk with deskWakeWakes := 2 } = none
    ∧ (checkDesk { rawDesk with rampRate := 0 }).map (fun e => (e.1.rampRate, e.2)) = some (1, true)
    ∧ (checkDesk { rawDesk with noticePacing := 2551 }).map (fun e => (e.1.noticePacing, e.2)) = some (2550, true)
    ∧ checkPort { rawPort 0 with settlePolls := 16 } = none ∧ checkPort { rawPort 0 with settlePolls := 15 } ≠ none
    ∧ (checkPort { rawPort 0 with stallTimeout := 99 }).map (fun e => (e.1.stallTimeout, e.2)) = some (100, true)
    ∧ checkSource { rawSource 0 with x0 := 16384 } ≠ none ∧ checkSource { rawSource 0 with x0 := 16385 } = none := by decide

/-- A port that may still be sent its reply is sent one; the requesting port that the write disables is not, nor is it asked again;
a port that the write makes Active is first sent the notices it is owed (R97, R181). -/
theorem test_TableWritesTaken_replies :
    (got (.writePortEntry (ask 2 2 0) (rawPort 1)) base).sent = [.frame 0 (replyFrame 2 (ask 2 2 0) (plainReply .ok))]
    ∧ (ask 2 1 0).port = 0 ∧ (got (.writePortEntry (ask 2 1 0) { rawPort 0 with enabled := 0 }) base).sent = []
    ∧ (got (.writePortEntry (ask 2 2 0) { rawPort 1 with managementAllowed := 1, settlePolls := 0 })
        { paced with cpe := paced.cpe.set 1 { livePort with linkState := .settling } }).sent
      = [.frame 1 (noticeFrame paced.mfe.notices), .frame 0 (replyFrame 2 (ask 2 2 0) (plainReply .ok))]
    ∧ (got (.writePortEntry (ask 2 2 0) { rawPort 1 with managementAllowed := 1 }) paced).sent
      = [.frame 1 (noticeFrame paced.mfe.notices), .frame 0 (replyFrame 2 (ask 2 2 0) (plainReply .ok))] := by decide

theorem test_TableWritesTaken_more :
    checkSource (readRawSource (sourceBytes (factorySource 15))) = some (factorySource 15)
    ∧ checkSource (readRawSource [7]) = none ∧ ¬(1 ≤ (ask 3 17 0).arg2 ∧ (ask 3 17 0).arg2 ≤ 16)
    ∧ checkScreen (readRawScreen (screenBytes (factoryScreen 7))) = some (factoryScreen 7)
    ∧ checkScreen (readRawScreen []) = none ∧ screenConflict base.tables 7 { factoryScreen 7 with x := 0, y := 0 } = true
    ∧ screenConflict base.tables 7 (factoryScreen 7) = false ∧ ¬(1 ≤ (ask 4 9 0).arg2 ∧ (ask 4 9 0).arg2 ≤ 8)
    ∧ checkLayout (readRawLayout (layoutBytes (factoryLayout 0))) = some (factoryLayout 0)
    ∧ checkLayout (readRawLayout [18]) = none
    ∧ checkHotkey (readRawHotkey (hotkeyBytes (factoryHotkey 31))) = some (factoryHotkey 31)
    ∧ checkHotkey (readRawHotkey []) = none ∧ hotkeyConflict base.tables 31 (factoryHotkey 0) = true
    ∧ hotkeyConflict base.tables 0 (factoryHotkey 0) = false ∧ saving.mfe.save ≠ none := by decide

theorem test_RequestsServed :
    ¬(1 ≤ (ask 0 0 0).arg1 ∧ (ask 0 0 0).arg1 ≤ 8) ∧ ¬(1 ≤ (ask 9 0 0).arg1 ∧ (ask 9 0 0).arg1 ≤ 8) ∧ 16 < (ask 1 17 0).arg2
    ∧ (held base).managed 0 = true ∧ (held base).active 0 ≠ some 1 ∧ (held base).xpc.hold ≠ none ∧ (ask 1 2 0).arg2 = (1 : Source).val + 1
    ∧ (ask 16 0 0).arg1 = (15 : LayoutNo).val + 1 ∧ 6 < (ask 7 0 0).arg1 ∧ (ask 6 0 0).arg1 = (5 : Computer).val + 1
    ∧ (ask 2 1 8).arg3 = (7 : Screen).val + 1 ∧ follows (base.sou.get 1) 7 = false ∧ (ask 2 2 16).arg3 = (15 : Source).val + 1
    ∧ (got (.setFocus (ask 1 0 0)) base).handoffs = [{ src := .fcu, cmd := .jumpRequest 0 .management }] ∧ base.fcu.focus ≠ some 5
    ∧ hands .fcu (.jumpRequest 5 .management) (got (.setFocus (ask 6 0 0)) base) ∧ base.fcu.focus ≠ none
    ∧ (got (.setFocus (ask 0 0 0)) base).fcu.focus = none
    ∧ (got (.setFocus (ask 0 0 0)) { base with fcu := Fcu.reset }).handoffs = []
    ∧ ((held (waiting { toV2 with target := none } base)).xpc.routes.get 0).pending = some { toV2 with target := none }
    ∧ (got (.routeScreen (ask 1 2 0)) (held base)).xpc.pendingReplaced = 0
    ∧ ((got (.releaseRoutes (ask 0 0 0)) (held (waiting { toV2 with target := none } base))).xpc.routes.get 0).active = none := by
  unfold hands; decide

/-- Route Screen for None, and for a source with no hold on. -/
theorem test_RequestsServed_routes :
    (ask 1 0 0).arg2 = 0 ∧ (ask 1 0 0).arg1 = (0 : Screen).val + 1 ∧ base.xpc.hold = none
    ∧ (got (.routeScreen (ask 1 0 0)) base).xpc.routes.get 0 = { active := none, pending := none }
    ∧ ((got (.routeScreen (ask 1 2 0)) base).xpc.routes.get 0).pending
      = some { target := some 1, line := 0, cause := .management, quiet := false, number := 1 } := by decide

/-- A Recall Layout works as a Layout action just taken; a Set Share of mode Follow for the screen followed already changes nothing. -/
theorem test_RequestsServed_more :
    (got (.recallLayout (ask 1 0 0)) base).xpc = (got (.layout 0) { base with handoffs := [{ src := .hkm, cmd := .layout 0 }] }).xpc
    ∧ follows (shared.sou.get 0) 4 = true ∧ (ask 1 1 5).arg3 = (4 : Screen).val + 1
    ∧ (got (.setShareFollow (ask 1 1 5)) shared).sou = shared.sou := by decide

theorem test_SavesTaken :
    base.mfe.save = none ∧ saving.mfe.save = some { port := 0, prior := base.memory }
    ∧ saving.mfe.inFlight.get 0 = some { kind := 15, request := ask 0 0 0 }
    ∧ { saving with mfe := { saving.mfe with inFlight := Tab.fill none } }.mfe.save ≠ none
    ∧ (got (.saveEnd .success) saving).memory.valid = true ∧ (got (.saveEnd .failedAtMark) saving).memory.valid = false := by decide

/-- The desk with a save in flight, and C1 with no request of its own. -/
def savingElse : State := { saving with mfe := { saving.mfe with inFlight := Tab.fill none } }

/-- A Desk Restart during a save, of a port with nothing in flight, is BUSY and does nothing else. -/
theorem test_SavesTaken_restart :
    savingElse.managed 0 = true ∧ savingElse.mfe.inFlight.get 0 = none ∧ savingElse.mfe.save ≠ none
    ∧ (savingElse.portEntry 0).enabled = true ∧ (savingElse.cpe.get 0).link = .up
    ∧ got (.deskRestart (ask 0 0 0)) savingElse
      = { savingElse with sent := savingElse.sent ++ [.frame 0 (replyFrame 16 (ask 0 0 0) (plainReply .busy))] } := by decide

theorem test_EntriesSurviveTheirBytes :
    checkDesk rawDesk = some (factoryDesk, false)
    ∧ checkDesk { rawDesk with tapWindow := 0, noticePacing := 1 }
      = some ({ factoryDesk with tapWindow := 100, noticePacing := 10 }, true)
    ∧ checkPort (readRawPort (portBytes (factoryPort 0))) = some (factoryPort 0, false)
    ∧ (frameCommand 0 ([1, 3, 7, 0, 0, 1, 2, 0] ++ List.replicate 56 0)) = .routeScreen (ask 1 2 0) := by decide

/-- The other checks at the ends of their ranges, and both conflicts of a hotkey entry. -/
theorem test_EntriesSurviveTheirBytes_ranges :
    checkScreen { rawScreen 0 with w := 63 } = none ∧ checkScreen { rawScreen 0 with x := 49536 } ≠ none
    ∧ checkScreen { rawScreen 0 with x := 49537 } = none ∧ checkScreen { rawScreen 0 with switchLine := 4096 } = none
    ∧ checkScreen { rawScreen 0 with switchMode := 2 } = none
    ∧ checkLayout (readRawLayout [17, 0, 0, 0, 0, 0, 0, 0, 7]) ≠ none ∧ checkLayout (readRawLayout [17, 0, 0, 0, 0, 0, 0, 0, 8]) = none
    ∧ checkAction ⟨4, 8, 16⟩ = some (.route (some 7) (some 15)) ∧ checkAction ⟨4, 9, 16⟩ = none ∧ checkAction ⟨10, 1, 0⟩ = none
    ∧ checkAction ⟨14, 0, 0⟩ = none ∧ checkHotkey { rawHotkey 0 with key := 221 } ≠ none ∧ checkHotkey { rawHotkey 0 with key := 224 } = none
    ∧ checkHotkey { rawHotkey 0 with holdPresent := 1, hold := ⟨12, 0, 0⟩ } ≠ none
    ∧ checkHotkey { rawHotkey 0 with holdPresent := 1, hold := ⟨10, 0, 0⟩ } = none
    ∧ checkHotkey { rawHotkey 0 with holdPresent := 2 } = none
    ∧ hotkeyConflict base.tables 31 { factoryHotkey 0 with key := 71 } = true
    ∧ hotkeyConflict base.tables 31 { factoryHotkey 0 with path := .direct } = false
    ∧ screenConflict { base.tables with screens := (Tab.fill { factoryScreen 0 with placed := false }).set 2 (factoryScreen 2) } 2
      { factoryScreen 2 with placed := false } = true := by decide

/-- The frames of R186 written out: a reply, a notice report, and requests of each shape. -/
theorem test_EntriesSurviveTheirBytes_frames :
    replyFrame 2 (ask 2 1 0) { status := .conflict, clamped := true, saveFailed := false, payload := [9] }
      = [2, 2, 7, 3, 1, 2, 1, 0, 9] ++ List.replicate 55 0
    ∧ noticeFrame (flagOn 9 (flagOn 0 Flags.none)) = [3, 0, 0, 0, 0, 0, 0, 0, 1, 2] ++ List.replicate 54 0
    ∧ frameCommand 0 ([1, 2, 7, 0, 0, 2, 1, 0, 1, 1, 1, 1, 3, 0xF4, 0x01] ++ List.replicate 49 0) = .writePortEntry (ask 2 1 0) (rawPort 0)
    ∧ frameCommand 0 [1, 2, 7, 0, 0, 7, 1, 0] = .badReq (ask 7 1 0) 2 ∧ frameCommand 0 [2, 3, 7, 0, 0, 1, 2, 0] = .badReq (ask 1 2 0) 3
    ∧ frameCommand 0 [1, 17, 7, 0, 0, 1, 2, 0] = .badReq (ask 1 2 0) 17 ∧ frameCommand 0 [1, 6, 7, 0, 0, 1, 3, 4] = .setShareFixed (ask 1 3 4)
    ∧ frameCommand 0 [1, 13, 7, 0, 0, 0, 0, 0, 1, 2] = .setNoticeMask (ask 0 0 0) (flagOn 9 (flagOn 0 Flags.none)) := by decide

/-! ## The invariants have states to start from -/

/-- A desk at work that meets every invariant: a pending under route hold, the matcher counting, both outputs following, a private
source, a port with queued input, a wake being signalled, a dark screen, a level in a fade, and a command waiting. -/
def busy : State :=
  let s := signalling 1
  { held (waiting toV2 { s with
      tables := shared.tables, sou := shared.sou, hkm := counting
      cpe := s.cpe.set 1 { livePort with keyQueue := List.replicate 8 (snap 4), pointerQueue := [at_ 1 1 Flags.none 0] }
      fmn := s.fmn.set 1 acquiring
      dms := s.dms.set 0 (dimming .fadeOut 16 0) }) with
    memory := { valid := true, image := factoryTables }
    wkc := { s.wkc with
      wakes := s.wkc.wakes.set 0 { phase := .signalling, retries := 1, timer := some 3001000, signal := some 11000, recovery := none }
      power := s.wkc.power.set 7 { on := true, noSignal := some 9000000 } }
    pending := [.focusNext] }

theorem test_QueuesStayBounded : QueuesBounded busy ∧ ∃ t, step busy = .next t := ⟨by unfold QueuesBounded; decide, _, rfl⟩

theorem test_MatcherStaysSound : MatcherSound busy ∧ HotkeysSound busy ∧ ∃ t, step busy = .next t :=
  ⟨⟨by decide, by decide, by decide, rfl, rfl, rfl⟩,
    ⟨by unfold HotkeysLegal; decide, fun _ => by unfold HotkeysLegal; decide, fun _ h => nomatch h⟩, _, rfl⟩

theorem test_DeskStaysSound : DeskSound busy ∧ ∃ t, step busy = .next t :=
  ⟨⟨by unfold ScreensLegal; decide, fun _ => by unfold ScreensLegal; decide, trivial, by unfold CursorPlaced; decide⟩, _, rfl⟩

theorem test_RoutingStaysSound :
    PendingsMove busy ∧ HoldBounded busy ∧ BlankedExact busy ∧ (∃ t, step busy = .next t) ∧ moves (held base) = []
    ∧ (held base).xpc.hold = some { start := 0, expiry := 2000000 } ∧ shared.carried 0 = some 4 :=
  ⟨by unfold PendingsMove; decide, by unfold HoldBounded; decide, by unfold BlankedExact; decide, ⟨_, rfl⟩, by decide⟩

theorem test_ClocksStaySound_monitors : MonitorsSound busy := by
  have live : MonitorFits liveSource :=
    ⟨by decide, by decide, by decide, rfl, ⟨_, rfl, by decide, by decide⟩, _, rfl, by decide, by decide⟩
  have first : MonitorFits acquiring := ⟨by decide, by decide, by decide, by decide, rfl⟩
  have every : ∀ v : Source, busy.fmn.get v = acquiring ∨ busy.fmn.get v = liveSource := by decide
  intro v
  rcases every v with h | h <;> rw [h] <;> assumption

theorem test_ClocksStaySound :
    MonitorsSound busy ∧ WakesSound busy ∧ PowerSound busy ∧ TargetsLit busy ∧ ∃ t, step busy = .next t :=
  ⟨test_ClocksStaySound_monitors, by unfold WakesSound; decide, by unfold PowerSound; decide,
    by unfold TargetsLit; decide, _, rfl⟩

end Sys2Proof.Tests
end

/-!
SUPPORT. The Console Input Port's commands, its work in hand and the key event that it waits for (R4 to R6, R13), and the matcher's
independence of it, said once each.
-/

namespace Sys2Proof.Machine

/-! ## The commands of the Console Input Port -/

theorem exec_keyboardAttach (s : State) :
    exec .keyboardAttach s = .next (if s.loading then s else consoleAdd .attach s) := rfl

theorem exec_keyboardDetach (s : State) :
    exec .keyboardDetach s = .next (consoleAdd .detach
      ((consoleSettles s).modCip (fun c => { c with work := c.work.filter (fun w => !isHeldReport w) }))) := rfl

theorem exec_keyboardReport (r : KeyboardReport) (s : State) :
    exec (.keyboardReport r) s = .next (consoleAdd (.report r) s) := rfl

theorem exec_keyEvent (e : KeyEvent) (s : State) :
    exec (.keyEvent e) s = .next (consoleGoesOn (takeKeyEvent e (s.taking (.keyEvent e)))) := rfl

theorem exec_pointerAttach (s : State) : exec .pointerAttach s = .next (if s.loading then s else attachPointer s) := rfl

theorem exec_pointerDetach (s : State) : exec .pointerDetach s = .next (detachPointer s) := rfl

theorem exec_pointerReport (r : ConsolePointerReport) (s : State) :
    exec (.pointerReport r) s = .next (takePointerReport r s) := rfl

theorem exec_ledTrigger (c : LedCause) (s : State) :
    exec (.ledTrigger c) s = .next (takeLedTrigger c (s.taking (.ledTrigger c))) := rfl

/-! ## The key event on its way to the matcher (R4) -/

@[simp] theorem keyEventInFlight_modCip (f : Cip → Cip) (s : State) :
    (s.modCip f).keyEventInFlight = s.keyEventInFlight := rfl

@[simp] theorem keyEventInFlight_hand_keyEvent (b : Block) (e : KeyEvent) (s : State) :
    (s.hand b (.keyEvent e)).keyEventInFlight = true := by simp [State.keyEventInFlight, State.hand]

/-! ## The work in hand -/

/-- The Console Input Port has nothing to take before a key event is handed: one is on its way, or the next piece of work is one, or
there is no work. -/
def ConsoleSettled (s : State) : Prop :=
  s.keyEventInFlight = true ∨ s.cip.work = [] ∨ ∃ (k : Key) (press : Bool) (ws : List ConsoleWork), s.cip.work = .event k press :: ws

theorem consoleRun_settled (n : Nat) (s : State) (h : ConsoleSettled s) : consoleRun n s = s := by
  cases n with
  | zero => rfl
  | succ n =>
    unfold consoleRun
    rcases h with h | h | ⟨k, press, ws, h⟩ <;> simp [h]

theorem consoleSettles_settled (s : State) (h : ConsoleSettled s) : consoleSettles s = s := consoleRun_settled _ s h

/-- Is a piece of work a key event? -/
def isEventWork : ConsoleWork → Bool
  | .event _ _ => true
  | .indication | .report _ | .detach | .attach => false

/-- What the Console Input Port does with a piece of work that is no key event, once it has left the work in hand. -/
def takeWork (w : ConsoleWork) (s : State) : State :=
  match w with
  | .event _ _ => s
  | .indication => endDetach s
  | .report r => compareReport r s
  | .detach => takeDetach s
  | .attach => takeAttach s

theorem consoleRun_step (n : Nat) (w : ConsoleWork) (ws : List ConsoleWork) (s : State) (h : s.keyEventInFlight = false)
    (hw : s.cip.work = w :: ws) (he : isEventWork w = false) :
    consoleRun (n + 1) s = consoleRun n (takeWork w (s.modCip (fun c => { c with work := ws }))) := by
  rw [consoleRun, hw, h, if_neg Bool.false_ne_true]
  cases w with
  | event k press => exact absurd he (by simp [isEventWork])
  | indication => rfl
  | report r => rfl
  | detach => rfl
  | attach => rfl

/-- How many steps `consoleRun` spends on a piece of work: a detach leaves its indication in hand. -/
def settleCost : ConsoleWork → Nat
  | .event _ _ => 0
  | .detach => 2
  | .indication | .report _ | .attach => 1

/-- The steps spent on all the work in hand. -/
def settleCosts (l : List ConsoleWork) : Nat := (l.map settleCost).sum

@[simp] theorem settleCosts_append (a b : List ConsoleWork) : settleCosts (a ++ b) = settleCosts a + settleCosts b := by
  simp [settleCosts]

@[simp] theorem settleCosts_cons (w : ConsoleWork) (l : List ConsoleWork) :
    settleCosts (w :: l) = settleCost w + settleCosts l := by simp [settleCosts]

@[simp] theorem settleCosts_events (press : Bool) (ks : KeySet) :
    settleCosts (ks.map (fun k => .event k press)) = 0 := by
  simp [settleCosts, settleCost, Function.comp_def]

theorem settleCosts_le (l : List ConsoleWork) : settleCosts l ≤ 2 * l.length := by
  induction l with
  | nil => simp [settleCosts]
  | cons w l ih =>
    have one : settleCost w ≤ 2 := by cases w <;> simp [settleCost]
    rw [settleCosts_cons, List.length_cons]
    omega

/-- A piece of work taken spends at least one step. -/
theorem settleCosts_takeWork (w : ConsoleWork) (s : State) (he : isEventWork w = false) :
    settleCosts (takeWork w s).cip.work + 1 ≤ settleCost w + settleCosts s.cip.work := by
  cases w with
  | event k press => exact absurd he (by simp [isEventWork])
  | indication => simp [takeWork, endDetach, settleCost, Nat.add_comm]
  | report r =>
    have differences (a b : KeySet) : settleCosts (heldDifferences a b) = 0 := by simp [heldDifferences]
    have baseline (keys : KeySet) : (takeBaseline keys s).cip.work = s.cip.work := by
      simp only [takeBaseline, takeIndications]; split <;> rfl
    simp only [takeWork, compareReport, settleCost]
    split
    · omega
    · split
      · rw [baseline]; omega
      · simp [differences, Nat.add_comm]
  | detach =>
    simp only [takeWork, takeDetach]
    split <;> simp [settleCost]
  | attach =>
    simp only [takeWork, takeAttach]
    split <;> simp [settleCost, State.sendLed, Nat.add_comm]

/-- The Console Input Port is settled, or has a piece of work to take. -/
theorem consoleSettled_or_work (s : State) : ConsoleSettled s ∨
    ∃ w ws, s.keyEventInFlight = false ∧ s.cip.work = w :: ws ∧ isEventWork w = false := by
  cases h : s.keyEventInFlight with
  | true => exact .inl (.inl h)
  | false =>
    cases hw : s.cip.work with
    | nil => exact .inl (.inr (.inl hw))
    | cons w ws =>
      cases he : isEventWork w with
      | false => exact .inr ⟨w, ws, rfl, rfl, he⟩
      | true =>
        cases w with
        | event k press => exact .inl (.inr (.inr ⟨k, press, ws, hw⟩))
        | indication | report | detach | attach => cases he

/-- The step that takes a piece of work leaves fewer to spend. -/
theorem settleCosts_step (w : ConsoleWork) (ws : List ConsoleWork) (s : State) (hw : s.cip.work = w :: ws)
    (he : isEventWork w = false) :
    settleCosts (takeWork w (s.modCip (fun c => { c with work := ws }))).cip.work + 1 ≤ settleCosts s.cip.work := by
  rw [hw, settleCosts_cons]
  exact settleCosts_takeWork w (s.modCip (fun c => { c with work := ws })) he

/-- With as many steps as the work in hand spends, one more changes nothing. -/
theorem consoleRun_succ (n : Nat) (s : State) (enough : settleCosts s.cip.work ≤ n) :
    consoleRun (n + 1) s = consoleRun n s := by
  induction n generalizing s with
  | zero =>
    rcases consoleSettled_or_work s with settled | ⟨w, ws, h, hw, he⟩
    · rw [consoleRun_settled _ s settled, consoleRun_settled _ s settled]
    · have less := settleCosts_step w ws s hw he
      omega
  | succ n ih =>
    rcases consoleSettled_or_work s with settled | ⟨w, ws, h, hw, he⟩
    · rw [consoleRun_settled _ s settled, consoleRun_settled _ s settled]
    · have less := settleCosts_step w ws s hw he
      rw [consoleRun_step _ w ws s h hw he, consoleRun_step _ w ws s h hw he, ih _ (by omega)]

/-- The bound on the recursion is never met: any bound that the work in hand does not exceed settles it. -/
theorem consoleRun_eq_settles (n : Nat) (s : State) (enough : settleCosts s.cip.work ≤ n) :
    consoleRun n s = consoleSettles s := by
  have least (m : Nat) (le : settleCosts s.cip.work ≤ m) : consoleRun m s = consoleRun (settleCosts s.cip.work) s := by
    induction m, le using Nat.le_induction with
    | base => rfl
    | succ m le ih => rw [consoleRun_succ m s le, ih]
  rw [consoleSettles, least n enough, least _ (Nat.le_succ_of_le (settleCosts_le s.cip.work))]

/-- The work in hand settles piece by piece. -/
theorem consoleSettles_step (w : ConsoleWork) (ws : List ConsoleWork) (s : State) (h : s.keyEventInFlight = false)
    (hw : s.cip.work = w :: ws) (he : isEventWork w = false) :
    consoleSettles s = consoleSettles (takeWork w (s.modCip (fun c => { c with work := ws }))) := by
  have less := settleCosts_step w ws s hw he
  have bound := settleCosts_le s.cip.work
  rw [consoleSettles, consoleRun_step _ w ws s h hw he, consoleRun_eq_settles _ _ (by omega)]

/-- The Console Input Port takes the next piece of work that is no key event, and goes on. -/
theorem consoleGoesOn_step (w : ConsoleWork) (ws : List ConsoleWork) (s : State) (h : s.keyEventInFlight = false)
    (hw : s.cip.work = w :: ws) (he : isEventWork w = false) :
    consoleGoesOn s = consoleGoesOn (takeWork w (s.modCip (fun c => { c with work := ws }))) := by
  rw [consoleGoesOn, consoleGoesOn, consoleSettles_step w ws s h hw he]

/-- Work added behind none is taken. -/
theorem consoleAdd_idle (w : ConsoleWork) (s : State) (h : s.keyEventInFlight = false) (hw : s.cip.work = [])
    (he : isEventWork w = false) : consoleAdd w s = consoleGoesOn (takeWork w s) := by
  have same : (s.modCip (fun c => { c with work := c.work ++ [w] })).modCip (fun c => { c with work := [] }) = s := by
    simp [State.modCip, ← hw]
  rw [consoleAdd, consoleGoesOn_step w [] _ (by simpa using h) (by simp [hw]) he, same]

/-- Work added while a key event is on its way waits (R4). -/
theorem consoleAdd_inFlight (w : ConsoleWork) (s : State) (h : s.keyEventInFlight = true) :
    consoleAdd w s = { s with cip := { s.cip with work := s.cip.work ++ [w] } } :=
  consoleGoesOn_inFlight _ h

/-- The held set after a key event (R4). -/
def heldAfter (k : Key) (press : Bool) (held : KeySet) : KeySet := if press then keyInsert k held else keyErase k held

/-- What a key event emitted on a state hands: a press while the desk is asleep to the Wake Controller, any other event to the matcher
with the held set after it (R4, R10). -/
def handedByKey (k : Key) (press : Bool) (s : State) : List Handoff :=
  if press = true ∧ s.wkc.deskAsleep = true then [{ src := .cip, cmd := .deskWakeInput (some k) }]
  else [{ src := .cip, cmd := .keyEvent { key := k, press := press, held := heldAfter k press s.cip.held } }]

theorem emitKeyEvent_eq (k : Key) (press : Bool) (s : State) :
    emitKeyEvent k press s = { s with
      cip := { s.cip with held := heldAfter k press s.cip.held }
      handoffs := s.handoffs ++ handedByKey k press s } := by
  cases press with
  | false => rfl
  | true =>
    cases asleep : s.wkc.deskAsleep <;>
      simp [emitKeyEvent, handedByKey, heldAfter, asleep, State.hand, State.modCip]

/-! ## What the matcher makes of a key event, whatever the console holds -/

theorem fireAction_modCip (f : Cip → Cip) (n : EntryNo) (held : Bool) (a : Action) (s : State) :
    fireAction n held a (s.modCip f) = (fireAction n held a s).modCip f := by
  rw [fireAction_eq, fireAction_eq]; rfl

theorem revertAction_modCip (f : Cip → Cip) (n : EntryNo) (a : Action) (s : State) :
    revertAction n a (s.modCip f) = (revertAction n a s).modCip f := by
  rw [revertAction_eq, revertAction_eq]; rfl

theorem deliverBuffer_modCip (f : Cip → Cip) (s : State) :
    deliverBuffer (s.modCip f) = (deliverBuffer s).modCip f := by
  rw [deliverBuffer_eq, deliverBuffer_eq]; rfl

theorem matcherIdle_modCip (f : Cip → Cip) (s : State) : matcherIdle (s.modCip f) = (matcherIdle s).modCip f := rfl

theorem consumeKey_modCip (f : Cip → Cip) (k : Key) (s : State) : consumeKey k (s.modCip f) = (consumeKey k s).modCip f := rfl

theorem modHkm_modCip (f : Cip → Cip) (g : Hkm → Hkm) (s : State) : (s.modCip f).modHkm g = (s.modHkm g).modCip f := rfl

theorem matchedPress_modCip (f : Cip → Cip) (n : EntryNo) (k : Key) (s : State) :
    matchedPress n k (s.modCip f) = (matchedPress n k s).modCip f := by
  simp only [matchedPress, modCip_tables, consumeKey_modCip, fireAction_modCip, matcherIdle_modCip]
  split <;> rfl

theorem pressIdle_modCip (f : Cip → Cip) (k : Key) (held : KeySet) (s : State) :
    pressIdle k held (s.modCip f) = (pressIdle k held s).modCip f := by
  have find : (s.modCip f).findEntry .direct k held = s.findEntry .direct k held := rfl
  unfold pressIdle
  rw [modCip_tables, find]
  split
  · split <;> rfl
  · split
    · exact matchedPress_modCip f _ k s
    · rfl

theorem pressCounting_modCip (f : Cip → Cip) (k : Key) (held : KeySet) (s : State) :
    pressCounting k held (s.modCip f) = (pressCounting k held s).modCip f := by
  unfold pressCounting
  rw [modCip_tables, modCip_hkm, deliverBuffer_modCip, matcherIdle_modCip, pressIdle_modCip]
  (repeat' split) <;> rfl

theorem pressSequence_modCip (f : Cip → Cip) (k : Key) (held : KeySet) (s : State) :
    pressSequence k held (s.modCip f) = (pressSequence k held s).modCip f := by
  have find : (s.modCip f).findEntry .prefixed k held = s.findEntry .prefixed k held := rfl
  unfold pressSequence
  rw [modCip_tables, find]
  split
  · rfl
  · split
    · rfl
    · split
      · exact matchedPress_modCip f _ k s
      · rfl

theorem fireHoldingTap_modCip (f : Cip → Cip) (s : State) :
    fireHoldingTap (s.modCip f) = (fireHoldingTap s).modCip f := by
  unfold fireHoldingTap
  rw [modCip_hkm]
  split
  · rw [fireAction_modCip, matcherIdle_modCip]
  · rfl

theorem pressHolding_modCip (f : Cip → Cip) (k : Key) (held : KeySet) (s : State) :
    pressHolding k held (s.modCip f) = (pressHolding k held s).modCip f := by
  unfold pressHolding
  rw [fireHoldingTap_modCip, pressIdle_modCip]
  split <;> rfl

theorem takePress_modCip (f : Cip → Cip) (k : Key) (held : KeySet) (s : State) :
    takePress k held (s.modCip f) = (takePress k held s).modCip f := by
  unfold takePress
  rw [modCip_hkm]
  cases s.hkm.state with
  | idle => exact pressIdle_modCip f k held s
  | counting => exact pressCounting_modCip f k held s
  | sequence => exact pressSequence_modCip f k held s
  | holding => exact pressHolding_modCip f k held s
  | held => rfl

theorem endHold_modCip (f : Cip → Cip) (k : Key) (s : State) : endHold k (s.modCip f) = (endHold k s).modCip f := by
  unfold endHold
  rw [modCip_hkm]
  split
  · rfl
  · split
    · rfl
    · split
      · exact fireHoldingTap_modCip f s
      · split
        · rw [revertAction_modCip, matcherIdle_modCip]
        · rfl
      · rfl
      · rfl
      · rfl

theorem takeRelease_modCip (f : Cip → Cip) (k : Key) (s : State) :
    takeRelease k (s.modCip f) = (takeRelease k s).modCip f := by
  unfold takeRelease
  rw [modCip_hkm, modCip_tables, modHkm_modCip, modHkm_modCip, endHold_modCip]
  (repeat' split) <;> rfl

/-- The matcher reads nothing of the Console Input Port when it takes a key event (R20). -/
theorem takeKeyEvent_modCip (f : Cip → Cip) (e : KeyEvent) (s : State) :
    takeKeyEvent e (s.modCip f) = (takeKeyEvent e s).modCip f := by
  unfold takeKeyEvent
  rw [takePress_modCip, takeRelease_modCip]
  split <;> rfl

/-- What a taken key event keeps for the Console Input Port. -/
theorem takeKeyEvent_keeps (e : KeyEvent) (s : State) :
    (takeKeyEvent e s).cip = s.cip ∧ (takeKeyEvent e s).wkc = s.wkc ∧ (takeKeyEvent e s).loading = s.loading := by
  have keeps : Keeps [.handoffs, .hkm] s (takeKeyEvent e s) := by simp
  exact ⟨keeps .cip (by decide), keeps .wkc (by decide), keeps .loading (by decide)⟩

/-- A key event is taken by the matcher as with no console work in hand, and the Console Input Port then goes on with its work (R4). -/
theorem exec_keyEvent_then_console (e : KeyEvent) (s t : State)
    (h : exec (.keyEvent e) { s with cip := { s.cip with work := [] } } = .next t) :
    exec (.keyEvent e) s = .next (consoleGoesOn { t with cip := s.cip })
    ∧ t.cip = { s.cip with work := [] } ∧ t.wkc = s.wkc ∧ t.loading = s.loading := by
  obtain ⟨cip, wkc, loading⟩ := takeKeyEvent_keeps e (s.taking (.keyEvent e))
  have taken : takeKeyEvent e (({ s with cip := { s.cip with work := [] } } : State).taking (.keyEvent e))
      = (takeKeyEvent e (s.taking (.keyEvent e))).modCip (fun c => { c with work := [] }) :=
    takeKeyEvent_modCip (fun c => { c with work := [] }) e (s.taking (.keyEvent e))
  rw [exec_keyEvent, taken, consoleGoesOn_idle _ rfl, Host.Outcome.next.injEq] at h
  subst h
  refine ⟨?_, ?_, wkc, loading⟩
  · have back : ({ (takeKeyEvent e (s.taking (.keyEvent e))).modCip (fun c => { c with work := [] }) with cip := s.cip } : State)
        = takeKeyEvent e (s.taking (.keyEvent e)) := congrArg (fun c => { takeKeyEvent e (s.taking (.keyEvent e)) with cip := c }) cip.symm
    rw [exec_keyEvent, back]
  · exact congrArg (fun c : Cip => { c with work := [] }) cip

end Sys2Proof.Machine

/-!
PROOFS. The console devices' attach and detach (R5, R6, R9).
-/

namespace Sys2Proof.Machine

/-! ## Attach and detach of the keyboard (R5, R6) -/

/-- A release with any work behind it is emitted, and the work waits until the matcher has taken it (R4). -/
theorem consoleGoesOn_release (k : Key) (ws : List ConsoleWork) (s : State) (h : s.keyEventInFlight = false)
    (hw : s.cip.work = .event k false :: ws) :
    consoleGoesOn s = emitKeyEvent k false (s.modCip (fun c => { c with work := ws })) := by
  have next : emitNext s = emitKeyEvent k false (s.modCip (fun c => { c with work := ws })) := by simp [emitNext, h, hw]
  have inFlight : (emitKeyEvent k false (s.modCip (fun c => { c with work := ws }))).keyEventInFlight = true :=
    keyEventInFlight_hand_keyEvent _ _ _
  rw [consoleGoesOn, consoleSettles_settled s (.inr (.inr ⟨k, false, ws, hw⟩)), next, consoleSettles_settled _ (.inl inFlight)]

/-- The last piece of work of a detach: the indication is handed (R5). -/
theorem consoleGoesOn_indication (ws : List ConsoleWork) (s : State) (h : s.keyEventInFlight = false)
    (hw : s.cip.work = .indication :: ws) :
    consoleGoesOn s = consoleGoesOn { s with
      cip := { s.cip with work := ws, ledLast := none }
      handoffs := s.handoffs ++ [{ src := .cip, cmd := .keyboardDetachedIndication }] } :=
  consoleGoesOn_step .indication ws s h hw rfl

theorem exec_keyboardAttach_idle (s : State) (loaded : s.loading = false) (off : s.cip.keyboardAttached = false)
    (w : s.cip.work = []) (h : s.keyEventInFlight = false) :
    exec .keyboardAttach s = .next { s with
      sent := s.sent ++ [.led s.builtLamps]
      cip := { s.cip with keyboardAttached := true, held := [], ledLast := some s.builtLamps } } := by
  have attached : takeAttach s = { s with
      sent := s.sent ++ [.led s.builtLamps]
      cip := { s.cip with keyboardAttached := true, held := [], ledLast := some s.builtLamps } } := by
    simp only [takeAttach, off, Bool.false_eq_true, if_false]; rfl
  rw [exec_keyboardAttach, if_neg (by simp [loaded]), consoleAdd_idle .attach s h w rfl, takeWork, attached,
    consoleGoesOn_idle _ (by exact w)]

theorem exec_keyboardAttach_inFlight (s : State) (loaded : s.loading = false) (h : s.keyEventInFlight = true) :
    exec .keyboardAttach s = .next { s with cip := { s.cip with work := s.cip.work ++ [.attach] } } := by
  rw [exec_keyboardAttach, if_neg (by simp [loaded]), consoleAdd_inFlight .attach s h]

/-- With no work in hand a detach has no report to discard. -/
theorem exec_keyboardDetach_noWork (s : State) (w : s.cip.work = []) :
    exec .keyboardDetach s = .next (consoleAdd .detach s) := by
  have same : s.modCip (fun c => { c with work := c.work.filter (fun w => !isHeldReport w) }) = s := by
    rw [State.modCip, w, List.filter_nil, ← w]
  rw [exec_keyboardDetach, consoleSettles_settled s (.inr (.inl w)), same]

theorem takeDetach_attached (s : State) (on : s.cip.keyboardAttached = true) (w : s.cip.work = []) :
    takeDetach s = { s with
      cip := { s.cip with keyboardAttached := false, work := s.cip.held.map (fun k => .event k false) ++ [.indication] } } := by
  rw [takeDetach, if_pos on, State.modCip, w]

theorem exec_keyboardDetach_noKeys (s : State) (on : s.cip.keyboardAttached = true) (w : s.cip.work = [])
    (h : s.keyEventInFlight = false) (keys : s.cip.held = []) :
    exec .keyboardDetach s = .next { s with
      handoffs := s.handoffs ++ [{ src := .cip, cmd := .keyboardDetachedIndication }]
      cip := { s.cip with keyboardAttached := false, ledLast := none } } := by
  rw [exec_keyboardDetach_noWork s w, consoleAdd_idle .detach s h w rfl, takeWork, takeDetach_attached s on w,
    consoleGoesOn_indication [] _ (by exact h) (by rw [keys]; rfl), consoleGoesOn_idle _ rfl, ← w]

theorem exec_keyboardDetach_keys (s : State) (on : s.cip.keyboardAttached = true) (w : s.cip.work = [])
    (h : s.keyEventInFlight = false) (k : Key) (ks : KeySet) (keys : s.cip.held = k :: ks) :
    exec .keyboardDetach s = .next { s with
      handoffs := s.handoffs ++ [{ src := .cip, cmd := .keyEvent { key := k, press := false, held := keyErase k (k :: ks) } }]
      cip := { s.cip with
        keyboardAttached := false, held := keyErase k (k :: ks)
        work := ks.map (fun x => .event x false) ++ [.indication] } } := by
  rw [exec_keyboardDetach_noWork s w, consoleAdd_idle .detach s h w rfl, takeWork, takeDetach_attached s on w,
    consoleGoesOn_release k (ks.map (fun x => .event x false) ++ [.indication]) _ (by exact h) (by rw [keys]; rfl), ← keys]
  rfl

theorem exec_keyboardDetach_inFlight (s : State) (h : s.keyEventInFlight = true) :
    exec .keyboardDetach s = .next { s with
      cip := { s.cip with work := s.cip.work.filter (fun w => !isHeldReport w) ++ [.detach] } } := by
  rw [exec_keyboardDetach, consoleSettles_settled s (.inl h), consoleAdd_inFlight .detach _ (by exact h)]
  rfl

/-! ## The last event of a detach taken (R5) -/

section
variable (e : KeyEvent) (s t : State) (ht : exec (.keyEvent e) { s with cip := { s.cip with work := [] } } = .next t)
include ht

theorem exec_keyEvent_indication (h : t.keyEventInFlight = false) (w : s.cip.work = [.indication]) :
    exec (.keyEvent e) s = .next { t with
      cip := { t.cip with ledLast := none }
      handoffs := t.handoffs ++ [{ src := .cip, cmd := .keyboardDetachedIndication }] } := by
  obtain ⟨next, cip, -, -⟩ := exec_keyEvent_then_console e s t ht
  rw [next, consoleGoesOn_indication [] _ (by exact h) (by exact w), consoleGoesOn_idle _ rfl, cip]

theorem exec_keyEvent_detach (w : s.cip.work = [.detach]) : exec (.keyEvent e) s = exec .keyboardDetach t := by
  obtain ⟨next, cip, -, -⟩ := exec_keyEvent_then_console e s t ht
  have added : t.modCip (fun c => { c with work := c.work ++ [.detach] }) = { t with cip := s.cip } := by
    simp [State.modCip, cip, ← w]
  rw [next, exec_keyboardDetach_noWork t (by rw [cip]), consoleAdd, added]

theorem exec_keyEvent_indication_attach (h : t.keyEventInFlight = false) (loaded : s.loading = false)
    (w : s.cip.work = [.indication, .attach]) :
    exec (.keyEvent e) s = exec .keyboardAttach { t with
      cip := { t.cip with ledLast := none }
      handoffs := t.handoffs ++ [{ src := .cip, cmd := .keyboardDetachedIndication }] } := by
  obtain ⟨next, cip, -, loading⟩ := exec_keyEvent_then_console e s t ht
  rw [next, consoleGoesOn_indication [.attach] _ (by exact h) (by exact w), exec_keyboardAttach,
    if_neg (by simp [loading, loaded]), consoleAdd, cip]
  rfl

end

/-! ## The pointer's attach and detach (R9) -/

theorem exec_pointerAttach_detached (s : State) (loaded : s.loading = false) (off : s.cip.pointerAttached = false) :
    exec .pointerAttach s = .next { s with cip := { s.cip with pointerAttached := true, buttons := Tab.fill .up } } := by
  simp [exec_pointerAttach, attachPointer, loaded, off, State.modCip]

theorem exec_pointerDetach_attached (s : State) (on : s.cip.pointerAttached = true) :
    exec .pointerDetach s = .next { s with
      cip := { s.cip with pointerAttached := false, buttons := Tab.fill .up }
      handoffs := s.handoffs ++ (if s.passedButtons.any = true then
        [{ src := .cip, cmd := .pointerEvent
            { dx := 0, dy := 0, wheel := 0, held := Flags.none, pressed := Flags.none, released := s.passedButtons } }]
        else []) } := by
  rw [exec_pointerDetach, detachPointer, if_neg (by simp [on])]
  cases held : s.passedButtons.any with
  | true => simp [held, State.modCip, State.hand]
  | false => simp [held, State.modCip]

theorem isHeldReport_iff (w : ConsoleWork) : isHeldReport w = true ↔ ∃ r : KeyboardReport, w = .report r := by
  cases w <;> simp [isHeldReport]

/-- Settles O7, clause by clause: the attach and the detach of the keyboard with nothing and with a key event in hand, the end of a
detach, and the pointer. -/
theorem consoleAttachments : Obligations.ConsoleAttachments :=
  ⟨exec_keyboardAttach_idle,
    fun s on w h => ⟨exec_keyboardDetach_noKeys s on w h, exec_keyboardDetach_keys s on w h⟩,
    exec_keyboardDetach_inFlight,
    exec_keyboardAttach_inFlight,
    fun e s t ht h => ⟨exec_keyEvent_indication e s t ht h, exec_keyEvent_detach e s t ht,
      exec_keyEvent_indication_attach e s t ht h⟩,
    isHeldReport_iff,
    exec_pointerAttach_detached,
    exec_pointerDetach_attached⟩

end Sys2Proof.Machine

/-!
PROOFS. Keyboard reports (R2 to R4, R10, R13).
-/

namespace Sys2Proof.Machine

/-! ## Sets of keys in ascending order (00_scope.md, "Collections") -/

theorem rising_cons (a : Key) (l : KeySet) : rising (a :: l) = true ↔ (∀ x ∈ l.head?, a < x) ∧ rising l = true := by
  cases l <;> simp [rising]

/-- A set of keys in ascending order has no key twice: each key is below every later one. -/
theorem rising_iff_pairwise (l : KeySet) : rising l = true ↔ l.Pairwise (· < ·) := by
  induction l with
  | nil => simp [rising]
  | cons a l ih =>
    rw [rising_cons, ih, List.pairwise_cons]
    refine and_congr_left fun sorted => ?_
    cases l with
    | nil => simp
    | cons b l =>
      have below := (List.pairwise_cons.mp sorted).1
      simp only [List.head?_cons, Option.mem_some_iff, forall_eq', List.mem_cons, forall_eq_or_imp]
      exact ⟨fun lt => ⟨lt, fun x hx => lt.trans (below x hx)⟩, And.left⟩

theorem rising_filter (p : Key → Bool) (l : KeySet) (h : rising l = true) : rising (l.filter p) = true := by
  rw [rising_iff_pairwise] at *
  exact h.filter p

theorem rising_keyInsert (k : Key) (l : KeySet) (h : rising l = true) : rising (keyInsert k l) = true := by
  rw [rising_iff_pairwise] at *
  induction l with
  | nil => simp [keyInsert]
  | cons a l ih =>
    obtain ⟨below, sorted⟩ := List.pairwise_cons.mp h
    unfold keyInsert
    split
    · next lt => exact List.pairwise_cons.mpr ⟨by simpa [lt] using fun x hx => lt.trans (below x hx), h⟩
    · next ge =>
      split
      · exact h
      · next ne =>
        refine List.pairwise_cons.mpr ⟨fun x hx => ?_, ih sorted⟩
        rcases (mem_keyInsert k x l).mp hx with rfl | hx
        · exact Nat.lt_of_le_of_ne (Nat.le_of_not_lt ge) (Ne.symm ne)
        · exact below x hx

theorem rising_keyUnion (a b : KeySet) (h : rising b = true) : rising (keyUnion a b) = true :=
  foldl_invariant (fun l => rising l = true) _ (fun l k => rising_keyInsert k l) a b h

/-! ## The held set of a report and its differences (R2, R4) -/

theorem mem_flaggedModifiers (r : KeyboardReport) (k : Key) :
    k ∈ flaggedModifiers r ↔ ∃ i : Fin 8, r.modifiers.get i = true ∧ k = 224 + i.val := by
  simp only [flaggedModifiers, List.mem_map, List.mem_filter, List.mem_finRange, true_and, eq_comm (a := k)]

theorem rising_flaggedModifiers (r : KeyboardReport) : rising (flaggedModifiers r) = true := by
  rw [rising_iff_pairwise, flaggedModifiers, List.pairwise_map]
  exact ((List.pairwise_lt_finRange 8).filter _).imp (fun lt => Nat.add_lt_add_left lt 224)

theorem isKeyUsage_eq (k : Key) : isKeyUsage k = (isOrdinary k || isModifier k) := rfl

theorem rising_newHeldSet (r : KeyboardReport) : rising (newHeldSet r) = true :=
  rising_keyUnion _ _ (rising_flaggedModifiers r)

theorem mem_newHeldSet (r : KeyboardReport) (k : Key) : k ∈ newHeldSet r ↔
    (∃ i : Fin 8, r.modifiers.get i = true ∧ k = 224 + i.val) ∨ (k ∈ r.slots.cells ∧ isKeyUsage k = true) := by
  rw [newHeldSet, mem_keyUnion, mem_flaggedModifiers, List.mem_filter, ← isKeyUsage_eq, or_comm]

theorem heldDifferences_eq (held new : KeySet) :
    let releases := held.filter (fun k => decide (k ∉ new))
    let presses := new.filter (fun k => decide (k ∉ held))
    heldDifferences held new = releases.map (fun k => .event k false) ++ presses.map (fun k => .event k true)
    ∧ (rising held = true → rising releases = true) ∧ (rising new = true → rising presses = true) :=
  ⟨rfl, rising_filter _ held, rising_filter _ new⟩

/-- The differences are key events. -/
theorem heldDifferences_events (held new : KeySet) (w : ConsoleWork) (hw : w ∈ heldDifferences held new) :
    ∃ (k : Key) (press : Bool), w = .event k press := by
  rcases List.mem_append.mp hw with hw | hw <;> obtain ⟨k, -, rfl⟩ := List.mem_map.mp hw <;> exact ⟨k, _, rfl⟩

/-! ## A report compared (R3, R4, R13) -/

theorem isRollover_iff (r : KeyboardReport) : isRollover r = true ↔ ∃ u ∈ r.slots.cells, 1 ≤ u ∧ u ≤ 3 := by
  simp [isRollover]

theorem isRollover_eq_false (r : KeyboardReport) (h : ∀ u ∈ r.slots.cells, ¬(1 ≤ u ∧ u ≤ 3)) : isRollover r = false := by
  rw [← Bool.not_eq_true, isRollover_iff]
  rintro ⟨u, hu, bad⟩
  exact h u hu bad

theorem takeIndications_none (s : State) (h : ∀ x ∈ s.handoffs, x.cmd ≠ .keyboardDetachedIndication) :
    takeIndications s = s := by
  rw [takeIndications, if_neg]
  simpa [isIndication] using h

theorem takeIndications_some (s : State) (h : ∃ x ∈ s.handoffs, x.cmd = .keyboardDetachedIndication) :
    takeIndications s = matcherDetached { s with
      handoffs := s.handoffs.filter (fun x => decide (x.cmd ≠ .keyboardDetachedIndication)) } := by
  have any : s.handoffs.any isIndication = true := by simpa [isIndication] using h
  rw [takeIndications, if_pos any]
  simp [isIndication]

section
variable (r : KeyboardReport) (s : State) (on : s.cip.keyboardAttached = true) (w : s.cip.work = [])
  (h : s.keyEventInFlight = false)
include w h

/-- With nothing in hand a report is compared at once. -/
theorem exec_keyboardReport_compared :
    exec (.keyboardReport r) s = .next (consoleGoesOn (compareReport r s)) := by
  rw [exec_keyboardReport, consoleAdd_idle (.report r) s h w rfl, takeWork]

theorem exec_keyboardReport_rollover (bad : ∃ u ∈ r.slots.cells, 1 ≤ u ∧ u ≤ 3) :
    exec (.keyboardReport r) s = .next s := by
  rw [exec_keyboardReport_compared r s w h, compareReport, if_pos (.inr ((isRollover_iff r).mpr bad)), consoleGoesOn_idle s w]

section
variable (good : ∀ u ∈ r.slots.cells, ¬(1 ≤ u ∧ u ≤ 3))
include on good

omit w h in
theorem compareReport_baseline (base : s.cip.baseline = true) : compareReport r s = takeBaseline (newHeldSet r) s := by
  simp [compareReport, on, isRollover_eq_false r good, base]

omit h in
theorem compareReport_differences (base : s.cip.baseline = false) : compareReport r s = { s with
    cip := { s.cip with work := heldDifferences s.cip.held (newHeldSet r) } } := by
  simp [compareReport, on, isRollover_eq_false r good, base, State.modCip, w]

theorem exec_keyboardReport_baseline (base : s.cip.baseline = true)
    (none : ∀ x ∈ s.handoffs, x.cmd ≠ .keyboardDetachedIndication) :
    exec (.keyboardReport r) s = .next { s with
      cip := { s.cip with held := newHeldSet r, baseline := false }
      hkm := { s.hkm with consumed := newHeldSet r } } := by
  rw [exec_keyboardReport_compared r s w h, compareReport_baseline r s on good base, takeBaseline,
    takeIndications_none s none, consoleGoesOn_idle _ (by exact w)]
  rfl

theorem exec_keyboardReport_baseline_indication (base : s.cip.baseline = true)
    (some : ∃ x ∈ s.handoffs, x.cmd = .keyboardDetachedIndication) :
    exec (.keyboardReport r) s = .next { s with
      handoffs := s.handoffs.filter (fun x => decide (x.cmd ≠ .keyboardDetachedIndication))
      cip := { s.cip with held := newHeldSet r, baseline := false }
      hkm :=
        { state := .idle, buffer := [], consumed := newHeldSet r, tapCounter := 0, tapWindow := none, sequence := none
          hold := none, holding := none, misses := s.hkm.misses } } := by
  rw [exec_keyboardReport_compared r s w h, compareReport_baseline r s on good base, takeBaseline,
    takeIndications_some s some, consoleGoesOn_idle _ (by exact w)]
  rfl

theorem exec_keyboardReport_same (base : s.cip.baseline = false)
    (same : heldDifferences s.cip.held (newHeldSet r) = []) : exec (.keyboardReport r) s = .next s := by
  rw [exec_keyboardReport_compared r s w h, compareReport_differences r s on w good base, same, consoleGoesOn_idle _ rfl, ← w]

end
end

/-- With only key events in hand and none on its way, the next one is emitted: what the state is then. -/
theorem consoleGoesOn_emits (k : Key) (press : Bool) (rest : List ConsoleWork) (s : State) (h : s.keyEventInFlight = false)
    (w : s.cip.work = .event k press :: rest) (events : ∀ x ∈ rest, ∃ (a : Key) (b : Bool), x = .event a b) :
    consoleGoesOn s = { s with
      cip := { s.cip with held := heldAfter k press s.cip.held, work := rest }
      handoffs := s.handoffs ++ handedByKey k press s } := by
  rw [consoleGoesOn_event k press rest s h w events, emitKeyEvent_eq]
  rfl

theorem exec_keyboardReport_event (r : KeyboardReport) (s : State) (on : s.cip.keyboardAttached = true) (w : s.cip.work = [])
    (h : s.keyEventInFlight = false) (good : ∀ u ∈ r.slots.cells, ¬(1 ≤ u ∧ u ≤ 3)) (k : Key) (press : Bool)
    (rest : List ConsoleWork) (base : s.cip.baseline = false)
    (differ : heldDifferences s.cip.held (newHeldSet r) = .event k press :: rest) :
    exec (.keyboardReport r) s = .next { s with
      cip := { s.cip with held := heldAfter k press s.cip.held, work := rest }
      handoffs := s.handoffs ++ handedByKey k press s } := by
  have events : ∀ x ∈ rest, ∃ (a : Key) (b : Bool), x = .event a b := fun x hx =>
    heldDifferences_events s.cip.held (newHeldSet r) x (differ ▸ List.mem_cons_of_mem _ hx)
  rw [exec_keyboardReport_compared r s w h, compareReport_differences r s on w good base]
  exact congrArg Host.Outcome.next (consoleGoesOn_emits k press rest _ h differ events)

theorem exec_keyEvent_event (e : KeyEvent) (k : Key) (press : Bool) (rest : List ConsoleWork) (s t : State)
    (w : s.cip.work = .event k press :: rest) (events : ∀ x ∈ rest, ∃ (a : Key) (b : Bool), x = .event a b)
    (ht : exec (.keyEvent e) { s with cip := { s.cip with work := [] } } = .next t) (h : t.keyEventInFlight = false) :
    exec (.keyEvent e) s = .next { t with
      cip := { s.cip with held := heldAfter k press s.cip.held, work := rest }
      handoffs := t.handoffs ++ handedByKey k press s } := by
  obtain ⟨next, -, wkc, -⟩ := exec_keyEvent_then_console e s t ht
  have handed : handedByKey k press { t with cip := s.cip } = handedByKey k press s := by simp only [handedByKey, wkc]
  rw [next, consoleGoesOn_emits k press rest { t with cip := s.cip } h w events, handed]

/-- Settles O8: a report compared with nothing in hand, by the branches of the comparison; a report held; the next event emitted, by
itself and behind a key event; and the sets of keys. -/
theorem keyboardReportTaken : Obligations.KeyboardReportTaken :=
  ⟨fun r s on w h => ⟨exec_keyboardReport_rollover r s w h, fun good =>
      ⟨exec_keyboardReport_baseline r s on w h good, exec_keyboardReport_baseline_indication r s on w h good,
        exec_keyboardReport_same r s on w h good, exec_keyboardReport_event r s on w h good⟩⟩,
    fun r s h => congrArg Host.Outcome.next (consoleAdd_inFlight (.report r) s h),
    exec_keyEvent_event,
    consoleGoesOn_emits,
    heldDifferences_eq,
    fun r => ⟨rising_newHeldSet r, mem_newHeldSet r⟩⟩

end Sys2Proof.Machine

/-!
PROOFS. Pointer reports (R7, R8, R10) and LED triggers (R11, R12).
-/

namespace Sys2Proof.Machine

/-! ## The pointer event of a report (R7, R8) -/

theorem saturate_eq (limit v : Int) (h : 0 ≤ limit) : saturate limit v = max (-limit) (min limit v) := by
  unfold saturate
  split
  · omega
  · split <;> omega

@[simp] theorem get_reportedButtons (r : ConsolePointerReport) (b : Fin 5) :
    (reportedButtons r).get b = decide (b.val + 1 ∈ r.buttons) := Tab.get_make _ b

@[simp] theorem get_marked (m : ButtonMark) (t : Tab 5 ButtonMark) (b : Fin 5) :
    (marked m t).get b = decide (t.get b = m) := Tab.get_map _ t b

/-- A newly pressed button takes the mark, a button still held keeps its own, a released one has none (R7, R10). -/
theorem get_newMarks (m : ButtonMark) (r : ConsolePointerReport) (old : Tab 5 ButtonMark) (b : Fin 5) :
    (newMarks m (reportedButtons r) old).get b =
      if b.val + 1 ∉ r.buttons then .up else if old.get b = .up then m else old.get b := by
  rw [newMarks, Tab.get_zip, get_reportedButtons]
  by_cases held : b.val + 1 ∈ r.buttons <;> simp [held]

theorem get_held_pointerEventOf (r : ConsolePointerReport) (old : Tab 5 ButtonMark) (b : Fin 5) :
    (pointerEventOf r old).held.get b = true ↔ b.val + 1 ∈ r.buttons ∧ old.get b ≠ .swallowed := by
  simp only [pointerEventOf, get_marked, get_newMarks]
  by_cases held : b.val + 1 ∈ r.buttons
  · cases mark : old.get b <;> simp [held]
  · simp [held]

theorem get_pressed_pointerEventOf (r : ConsolePointerReport) (old : Tab 5 ButtonMark) (b : Fin 5) :
    (pointerEventOf r old).pressed.get b = true ↔ b.val + 1 ∈ r.buttons ∧ old.get b = .up := by
  simp [pointerEventOf]

theorem get_released_pointerEventOf (r : ConsolePointerReport) (old : Tab 5 ButtonMark) (b : Fin 5) :
    (pointerEventOf r old).released.get b = true ↔ b.val + 1 ∉ r.buttons ∧ old.get b = .passed := by
  simp [pointerEventOf, and_comm]

theorem wakesDesk_iff (e : PointerEvent) :
    wakesDesk e = true ↔ e.dx ≠ 0 ∨ e.dy ≠ 0 ∨ ∃ b : Fin 5, e.pressed.get b = true := by
  simp [wakesDesk, Flags.any_iff, or_assoc]

theorem eventMatters_iff (e : PointerEvent) : eventMatters e = true ↔
    e.dx ≠ 0 ∨ e.dy ≠ 0 ∨ e.wheel ≠ 0 ∨ (∃ b : Fin 5, e.pressed.get b = true) ∨ ∃ b : Fin 5, e.released.get b = true := by
  simp only [eventMatters, Bool.or_eq_true, decide_eq_true_eq, Flags.any_iff]
  tauto

/-! ## A pointer report taken (R7, R8, R10) -/

section
variable (r : ConsolePointerReport) (s : State)

theorem exec_pointerReport_detached (off : s.cip.pointerAttached = false) : exec (.pointerReport r) s = .next s := by
  rw [exec_pointerReport, takePointerReport, if_pos off]

section
variable (on : s.cip.pointerAttached = true)
include on

theorem exec_pointerReport_passed (h : s.wkc.deskAsleep = false ∨ wakesDesk (pointerEventOf r s.cip.buttons) = false) :
    exec (.pointerReport r) s = .next { s with
      cip := { s.cip with buttons := newMarks .passed (reportedButtons r) s.cip.buttons }
      handoffs := s.handoffs ++ (if eventMatters (pointerEventOf r s.cip.buttons) = true then
        [{ src := .cip, cmd := .pointerEvent (pointerEventOf r s.cip.buttons) }] else []) } := by
  have passed : ¬(s.wkc.deskAsleep && wakesDesk (pointerEventOf r s.cip.buttons)) = true := by
    rcases h with h | h <;> simp [h]
  rw [exec_pointerReport, takePointerReport, if_neg (by simp [on]), if_neg passed]
  split <;> simp [State.modCip, State.hand]

theorem exec_pointerReport_swallowed (asleep : s.wkc.deskAsleep = true)
    (wakes : wakesDesk (pointerEventOf r s.cip.buttons) = true) :
    exec (.pointerReport r) s = .next { s with
      cip := { s.cip with buttons := newMarks .swallowed (reportedButtons r) s.cip.buttons }
      handoffs := s.handoffs ++ [{ src := .cip, cmd := .deskWakeInput none }] } := by
  rw [exec_pointerReport, takePointerReport, if_neg (by simp [on]), if_pos (by rw [asleep, wakes]; rfl)]
  rfl

end
end

/-- Settles O9: the three branches of a report taken, and its event field by field. -/
theorem pointerReportTaken : Obligations.PointerReportTaken := fun r s =>
  ⟨exec_pointerReport_detached r s, exec_pointerReport_passed r s, exec_pointerReport_swallowed r s,
    saturate_eq 2047 r.dx (by decide), saturate_eq 2047 r.dy (by decide), saturate_eq 127 r.wheel (by decide),
    fun b => ⟨get_held_pointerEventOf r _ b, get_pressed_pointerEventOf r _ b, get_released_pointerEventOf r _ b,
      fun m => get_newMarks m r _ b⟩,
    wakesDesk_iff _, eventMatters_iff _⟩

/-! ## LED triggers (R11, R12) -/

theorem builtLamps_active (s : State) (p : Port) (focus : s.fcu.focus = some p) (active : (s.cpe.get p).linkState = .active) :
    s.builtLamps = (s.cpe.get p).lamps := by
  simp [State.builtLamps, focus, active]

theorem builtLamps_dark (s : State) (h : ∀ p : Port, s.fcu.focus = some p → (s.cpe.get p).linkState ≠ .active) :
    s.builtLamps = Flags.none := by
  unfold State.builtLamps
  split
  · rfl
  · next p focus => rw [if_neg (h p focus)]

theorem ledConcerns_iff (c : LedCause) (s : State) :
    ledConcerns c s = true ↔ c = .focusChange ∨ ∃ p, c = .port p ∧ s.fcu.focus = some p := by
  cases c <;> simp [ledConcerns]

/-- A trigger that finds a keyboard attached, concerns the focus and changes the lamps sends an LED report (R12). -/
theorem takeLedTrigger_sends (c : LedCause) (s : State) (on : s.cip.keyboardAttached = true)
    (changed : s.cip.ledLast ≠ some s.builtLamps) (concerns : c = .focusChange ∨ ∃ p, c = .port p ∧ s.fcu.focus = some p) :
    takeLedTrigger c s =
      { s with sent := s.sent ++ [.led s.builtLamps], cip := { s.cip with ledLast := some s.builtLamps } } := by
  rw [takeLedTrigger, if_pos ((ledConcerns_iff c s).mpr concerns), ledUpdate, if_pos ⟨on, changed⟩]
  rfl

/-- Any other trigger sends nothing (R12). -/
theorem takeLedTrigger_silent (c : LedCause) (s : State) (h : ¬(s.cip.keyboardAttached = true ∧
    s.cip.ledLast ≠ some s.builtLamps ∧ (c = .focusChange ∨ ∃ p, c = .port p ∧ s.fcu.focus = some p))) :
    takeLedTrigger c s = s := by
  rw [takeLedTrigger, ledUpdate]
  split
  · next concerns => exact if_neg fun ⟨on, changed⟩ => h ⟨on, changed, (ledConcerns_iff c s).mp concerns⟩
  · rfl

/-- Settles O10: the LED state built, and the two outcomes of a trigger once it has left the hand-offs. -/
theorem ledTriggerTaken : Obligations.LedTriggerTaken := by
  refine ⟨fun s => ⟨builtLamps_active s, builtLamps_dark s⟩, fun c s => ?_⟩
  rw [exec_ledTrigger]
  split
  · next h =>
    obtain ⟨on, changed, concerns⟩ := h
    exact congrArg Host.Outcome.next (takeLedTrigger_sends c (s.taking (.ledTrigger c)) on changed concerns)
  · next h => exact congrArg Host.Outcome.next (takeLedTrigger_silent c (s.taking (.ledTrigger c)) h)

end Sys2Proof.Machine

/-!
PROOFS. What Reset leaves, and the invariants in it.
-/

namespace Sys2Proof.Machine

/-! ## Reset -/

theorem exec_reset (s : State) : exec .reset s = .next (resetPart s) := rfl

@[simp] theorem reset_cip : State.reset.cip = Cip.reset := rfl
@[simp] theorem reset_hkm : State.reset.hkm = Hkm.reset := rfl
@[simp] theorem reset_fcu : State.reset.fcu = Fcu.reset := rfl
@[simp] theorem reset_xpc : State.reset.xpc = Xpc.reset := rfl
@[simp] theorem reset_mfe : State.reset.mfe = Mfe.reset := rfl
@[simp] theorem reset_deskAsleep : State.reset.wkc.deskAsleep = false := rfl
@[simp] theorem reset_cpe (p : Port) : State.reset.cpe.get p = Cpe.reset := Tab.get_fill _ p
@[simp] theorem reset_fmn (v : Source) : State.reset.fmn.get v = Fmn.reset := Tab.get_fill _ v
@[simp] theorem reset_dms (sc : Screen) : State.reset.dms.get sc = Dms.reset := Tab.get_fill _ sc
@[simp] theorem reset_sou (o : ShareOut) : State.reset.sou.get o = ShareRecord.reset := Tab.get_fill _ o
@[simp] theorem reset_wake (p : Port) : State.reset.wkc.wakes.get p = WakeRecord.reset := Tab.get_fill _ p
@[simp] theorem reset_power (sc : Screen) : State.reset.wkc.power.get sc = { on := true, noSignal := none } :=
  Tab.get_fill _ sc

/-- Settles O4: the command answers `resetPart`, in which every block, the replicated ones at each of their places, is at its reset
values. -/
theorem resetValues : Obligations.ResetValues := by
  intro s
  refine ⟨resetPart s, exec_reset s, rfl, rfl, ?_⟩
  simp [resetPart, Cip.reset, Hkm.reset, Fcu.reset, Cpe.reset, Fmn.reset, Xpc.reset, Dms.reset, ShareRecord.reset,
    WakeRecord.reset, Mfe.reset]

/-! ## The factory tables (R15 to R18, R39, R40) -/

theorem valid_key_of_entriesConflict (a b : HotkeyEntry) (h : entriesConflict a b = true) :
    a.valid = true ∧ b.valid = true ∧ a.key = b.key := by
  simp only [entriesConflict, Bool.and_eq_true, decide_eq_true_eq] at h
  obtain ⟨⟨⟨⟨va, vb⟩, -⟩, key⟩, -⟩ := h
  exact ⟨va, vb, key⟩

/-- The keys of the factory entries, in order (R18). -/
def factoryKeys : List Key := factoryHotkeyActions.map Prod.fst

theorem factoryKeys_nodup : factoryKeys.Nodup := by decide

theorem prefixKey_notMem_factoryKeys : factoryDesk.prefixKey ∉ factoryKeys := by decide

/-- A valid factory entry has the key of its place. -/
theorem factoryKeys_get_of_valid (n : EntryNo) (h : (factoryHotkey n).valid = true) :
    factoryKeys[n.val]? = some (factoryHotkey n).key := by
  unfold factoryHotkey at *
  rw [factoryKeys, List.getElem?_map]
  cases place : factoryHotkeyActions[n.val]? with
  | none => simp [place] at h
  | some ka => simp

/-- No two factory entries conflict, since no two have one key; and the key that begins a sequence is none of theirs. -/
theorem factoryTables_hotkeysLegal : HotkeysLegal factoryTables := by
  have get (n : EntryNo) : factoryTables.hotkeys.get n = factoryHotkey n := Tab.get_make _ n
  refine ⟨fun a b ne => ?_, fun n valid key => ?_⟩
  · rw [get, get, ← Bool.not_eq_true]
    intro conflict
    obtain ⟨va, vb, key⟩ := valid_key_of_entriesConflict _ _ conflict
    have pa := factoryKeys_get_of_valid a va
    have pb := factoryKeys_get_of_valid b vb
    have inside : a.val < factoryKeys.length := (List.getElem?_eq_some_iff.mp pa).1
    exact ne (Fin.ext ((List.getElem?_inj inside factoryKeys_nodup).mp (by rw [pa, pb, key])))
  · rw [get] at valid key
    have place := factoryKeys_get_of_valid n valid
    rw [key] at place
    exact prefixKey_notMem_factoryKeys (List.mem_of_getElem? place)

/-- The factory screens are the eight cells of a grid. -/
theorem factoryTables_screensLegal : ScreensLegal factoryTables := by
  have get (sc : Screen) : factoryTables.screens.get sc = factoryScreen sc := Tab.get_make _ sc
  refine ⟨fun sc => ?_, fun a b ne _ _ => ?_, 0, by rw [get]; rfl⟩
  · simp only [get, factoryScreen]
    omega
  · have cells : a.val % 4 ≠ b.val % 4 ∨ a.val / 4 ≠ b.val / 4 := by
      have : a.val ≠ b.val := fun same => ne (Fin.ext same)
      omega
    simp only [get, overlap, factoryScreen, Bool.and_eq_false_iff, decide_eq_false_iff_not]
    omega

/-! ## The invariants right after reset -/

theorem reset_hotkeysSound : HotkeysSound State.reset :=
  ⟨factoryTables_hotkeysLegal, fun _ => factoryTables_hotkeysLegal, fun _ save => nomatch save⟩

theorem reset_cursorPlaced : CursorPlaced State.reset := by
  have first : State.reset.screenEntry State.reset.glu.screen = factoryScreen 0 := Tab.get_make _ 0
  rw [CursorPlaced, first]
  decide

theorem reset_monitorsSound : MonitorsSound State.reset := by
  intro v
  rw [reset_fmn]
  exact ⟨Nat.zero_le _, rfl⟩

/-- Settles O60, one invariant after the other. -/
theorem resetIsSound : Obligations.ResetIsSound :=
  ⟨fun p => by simp [Cpe.reset],
    ⟨rfl, rfl, rfl, rfl, rfl, rfl⟩,
    reset_hotkeysSound,
    ⟨factoryTables_screensLegal, fun _ => factoryTables_screensLegal, trivial, reset_cursorPlaced⟩,
    fun sc p pending => by simp [Xpc.reset] at pending,
    fun _ hold => (nomatch hold),
    fun o => by simp [ShareRecord.reset, ShareRecord.wanted, State.isPrivate],
    reset_monitorsSound,
    fun p _ => by simp [WakeRecord.reset],
    fun sc _ => by simp,
    fun loaded => nomatch loaded⟩

end Sys2Proof.Machine

/-!
SUPPORT. What a command and a step keep, said once each: the frame of every command, and the package of an invariant.
-/

namespace Sys2Proof.Machine

theorem exec_next (c : Instr) (s : State) : ∃ t, exec c s = .next t := by
  cases c <;> exact ⟨_, rfl⟩

/-- A frame of the answer is a frame of the state answered. -/
theorem Keeps.of_next {m : List StateField} {s t u : State} (h : (.next u : Result) = .next t) (k : Keeps m s u) :
    Keeps m s t := by
  cases h
  exact k

/-- A command changes no field but those listed for it: the frame of its meaning, command by command. -/
theorem exec_keeps (c : Instr) (s t : State) (h : exec c s = .next t) : Keeps (touches c) s t := by
  cases c
  all_goals refine Keeps.of_next h ?_
  case reset => intro f outside; cases f <;> simp_all [touches, StateField.same, resetPart]
  case readEntry | readState => simp only [touches]; split <;> simp [keeps_serve]
  case writeDeskRecord | writePortEntry | writeSourceEntry | writeScreenEntry | writeLayoutEntry | writeHotkeyEntry =>
    exact (keeps_serve (by simp [touches]) (fun y => keeps_writeEntry (fun i e z => by simp [touches]) _ y) _ _ _).mpr
      (Keeps.refl _ s)
  case routeScreen | recallLayout | setFocus | setShareOff | setShareFollow | setShareFixed | wake =>
    exact (keeps_serve (by simp [touches]) (fun y => keeps_withArgs (fun a z => by simp [touches]) _ y) _ _ _).mpr
      (Keeps.refl _ s)
  case readNotices => simp [touches, readNoticesNow, keeps_serve]
  all_goals simp [touches, State.onLink, keeps_serve]

/-- What every command and the Console Input Port going on keep, and what does not look at the queue, the choices and the timebase,
every step keeps. -/
theorem step_invariant (P : State → Prop) (command : ∀ (c : Instr) (s t : State), P s → exec c s = .next t → P t)
    (console : ∀ s : State, P s → P (consoleGoesOn s)) (queue : ∀ (s : State) (l : List Instr), P s → P { s with pending := l })
    (choice : ∀ (s : State) (n : Nat), P s → P { s with choices := n })
    (time : ∀ (s : State) (n : Nat), P s → P { s with timebase := n }) (s t : State) (h : P s) (next : step s = .next t) : P t := by
  have move (m : Option Instr) (s : State) (h : P s) (next : makeMove m s = .next t) : P t := by
    cases m with
    | some c => exact command c s t h next
    | none => cases next; exact console s h
  unfold step at next
  split at next
  · unfold goOn at next
    split at next
    · cases next; exact time s _ h
    · exact move _ s h next
    · exact move _ _ (choice s _ h) next
  · exact command _ _ t (queue s _ h) next

section
variable (P : State → Prop) (cip : ∀ (s : State) (f : Cip → Cip), P s → P (s.modCip f))
  (work : ∀ (w : ConsoleWork) (s : State), P s → P (takeWork w s))
include cip work

/-- What the Console Input Port's work keeps piece by piece, the work settled keeps. -/
theorem consoleSettles_invariant (s : State) (h : P s) : P (consoleSettles s) := by
  have run (n : Nat) (s : State) (h : P s) : P (consoleRun n s) := by
    induction n generalizing s with
    | zero => exact h
    | succ n ih =>
      rcases consoleSettled_or_work s with settled | ⟨w, ws, free, hw, he⟩
      · rwa [consoleRun_settled _ s settled]
      · rw [consoleRun_step n w ws s free hw he]
        exact ih _ (work w _ (cip s _ h))
  exact run _ s h

/-- What the Console Input Port's work keeps piece by piece, and what handing a command keeps, the Console Input Port going on keeps. -/
theorem consoleGoesOn_invariant (handed : ∀ (s : State) (b : Block) (c : Instr), P s → P (s.hand b c)) (s : State) (h : P s) :
    P (consoleGoesOn s) := by
  have emit (k : Key) (press : Bool) (s : State) (h : P s) : P (emitKeyEvent k press s) := by
    cases press with
    | false => exact handed _ _ _ (cip s _ h)
    | true =>
      simp only [emitKeyEvent, if_true, Bool.true_and]
      split
      · exact handed _ _ _ (cip s _ h)
      · exact handed _ _ _ (cip s _ h)
  have next (s : State) (h : P s) : P (emitNext s) := by
    unfold emitNext
    split
    · exact h
    · split
      · exact emit _ _ _ (cip s _ h)
      · exact h
  exact consoleSettles_invariant P cip work _ (next _ (consoleSettles_invariant P cip work s h))

end

end Sys2Proof.Machine

/-!
PROOFS. The matcher's parts fit its state (section 2.3, R20).
-/

namespace Sys2Proof.Machine

/-! ## What the matcher's moves do to the matcher -/

@[simp] theorem fireAction_hkm (n : EntryNo) (held : Bool) (a : Action) (s : State) : (fireAction n held a s).hkm = s.hkm := by
  rw [fireAction_eq]

@[simp] theorem revertAction_hkm (n : EntryNo) (a : Action) (s : State) : (revertAction n a s).hkm = s.hkm := by
  rw [revertAction_eq]

@[simp] theorem passEvent_hkm (k : Key) (press : Bool) (s : State) : (passEvent k press s).hkm = s.hkm := rfl

@[simp] theorem deliverBuffer_hkm (s : State) : (deliverBuffer s).hkm = { s.hkm with buffer := [] } := by
  rw [deliverBuffer_eq]

/-! ## The parts that go with each state -/

theorem MatcherSound.congr {s t : State} (h : MatcherSound s) (same : t.hkm = s.hkm) : MatcherSound t := by
  rw [MatcherSound, same]
  exact h

/-- Outside Counting nothing is withheld. -/
theorem MatcherSound.buffer_eq_nil {s : State} (h : MatcherSound s) (state : s.hkm.state ≠ .counting) : s.hkm.buffer = [] := by
  unfold MatcherSound MatcherFits at h
  split at h
  · exact h.1
  · contradiction
  · exact h.1
  · exact h.1
  · exact h.1

/-- The consumed set and the misses are no part of what a state asks for. -/
theorem MatcherSound.consumed {s : State} (h : MatcherSound s) (keys : KeySet) (n : Nat) :
    MatcherSound (s.modHkm (fun h => { h with consumed := keys, misses := n })) := h

theorem matcherSound_matcherIdle (s : State) (empty : s.hkm.buffer = []) : MatcherSound (matcherIdle s) :=
  ⟨empty, rfl, rfl, rfl, rfl, rfl⟩

theorem matcherSound_matcherDetached (s : State) : MatcherSound (matcherDetached s) := ⟨rfl, rfl, rfl, rfl, rfl, rfl⟩

theorem matcherSound_matcherRestart (held : KeySet) (s : State) : MatcherSound (matcherRestart held s) :=
  ⟨rfl, rfl, rfl, rfl, rfl, rfl⟩

theorem matcherSound_deliver (s : State) : MatcherSound (matcherIdle (deliverBuffer s)) :=
  matcherSound_matcherIdle _ (by rw [deliverBuffer_hkm])

theorem matcherSound_enterSequence (s : State) (hold : s.hkm.hold = none) (holding : s.hkm.holding = none) :
    MatcherSound (enterSequence s) :=
  ⟨rfl, rfl, rfl, Option.some_ne_none _, hold, holding⟩

theorem matcherSound_enterHolding (n : EntryNo) (e : HotkeyEntry) (s : State) (empty : s.hkm.buffer = []) :
    MatcherSound (enterHolding n e s) :=
  ⟨empty, rfl, rfl, rfl, Option.some_ne_none _, Option.some_ne_none _⟩

theorem matcherSound_matchedPress (n : EntryNo) (k : Key) (s : State) (empty : s.hkm.buffer = []) :
    MatcherSound (matchedPress n k s) := by
  unfold matchedPress
  dsimp only
  split
  · exact matcherSound_matcherIdle _ (by simpa [consumeKey] using empty)
  · exact matcherSound_enterHolding n _ _ empty

/-! ## A press and a release, by state -/

section
variable {s : State} (sound : MatcherSound s)
include sound

theorem matcherSound_pressIdle (k : Key) (held : KeySet) (state : s.hkm.state = .idle) : MatcherSound (pressIdle k held s) := by
  have parts := sound
  rw [MatcherSound, MatcherFits, state] at parts
  obtain ⟨empty, -, -, sequence, hold, holding⟩ := parts
  unfold pressIdle
  split
  · split
    · exact matcherSound_enterSequence _ hold holding
    · exact ⟨List.append_ne_nil_of_right_ne_nil _ (List.cons_ne_nil _ _), Nat.one_ne_zero, Option.some_ne_none _, sequence, hold,
        holding⟩
  · split
    · exact matcherSound_matchedPress _ k s empty
    · exact sound.congr rfl

theorem matcherSound_pressCounting (k : Key) (held : KeySet) (state : s.hkm.state = .counting) :
    MatcherSound (pressCounting k held s) := by
  have parts := sound
  rw [MatcherSound, MatcherFits, state] at parts
  obtain ⟨-, -, window, sequence, hold, holding⟩ := parts
  unfold pressCounting
  split
  · split
    · exact matcherSound_enterSequence _ hold holding
    · rw [MatcherSound, MatcherFits, modHkm_hkm, state]
      exact ⟨List.append_ne_nil_of_right_ne_nil _ (List.cons_ne_nil _ _), Nat.succ_ne_zero _, window, sequence, hold, holding⟩
  · split
    · exact sound.congr rfl
    · exact matcherSound_pressIdle (matcherSound_deliver s) k held rfl

theorem matcherSound_pressSequence (k : Key) (held : KeySet) (state : s.hkm.state = .sequence) :
    MatcherSound (pressSequence k held s) := by
  have empty := sound.buffer_eq_nil (by simp [state])
  unfold pressSequence
  split
  · exact matcherSound_matcherIdle _ empty
  · split
    · exact sound.congr rfl
    · split
      · exact matcherSound_matchedPress _ k s empty
      · exact matcherSound_matcherIdle _ empty

theorem matcherSound_fireHoldingTap (state : s.hkm.state ≠ .counting) : MatcherSound (fireHoldingTap s) := by
  have empty := sound.buffer_eq_nil state
  unfold fireHoldingTap
  split
  · exact matcherSound_matcherIdle _ (by rwa [fireAction_hkm])
  · exact matcherSound_matcherIdle _ empty

theorem matcherSound_takePress (k : Key) (held : KeySet) : MatcherSound (takePress k held s) := by
  unfold takePress
  split
  · next state => exact matcherSound_pressIdle sound k held state
  · next state => exact matcherSound_pressCounting sound k held state
  · next state => exact matcherSound_pressSequence sound k held state
  · next state =>
    have idle : (fireHoldingTap s).hkm.state = .idle := by unfold fireHoldingTap; split <;> rfl
    unfold pressHolding
    split
    · exact sound.congr rfl
    · exact matcherSound_pressIdle (matcherSound_fireHoldingTap sound (by simp [state])) k held idle
  · exact sound.congr rfl

theorem matcherSound_endHold (k : Key) : MatcherSound (endHold k s) := by
  unfold endHold
  split
  · exact sound
  · split
    · exact sound
    · split
      · next state => exact matcherSound_fireHoldingTap sound (by simp [state])
      · next state =>
        have empty := sound.buffer_eq_nil (by simp [state])
        split
        · exact matcherSound_matcherIdle _ (by rwa [revertAction_hkm])
        · exact matcherSound_matcherIdle _ empty
      · exact sound
      · exact sound
      · exact sound

theorem matcherSound_takeRelease (k : Key) : MatcherSound (takeRelease k s) := by
  unfold takeRelease
  split
  · exact matcherSound_endHold (sound.consumed (keyErase k s.hkm.consumed) s.hkm.misses) k
  · split
    · next counting =>
      have parts := sound
      rw [MatcherSound, MatcherFits, counting.1] at parts
      rw [MatcherSound, MatcherFits, modHkm_hkm, counting.1]
      exact ⟨List.append_ne_nil_of_right_ne_nil _ (List.cons_ne_nil _ _), parts.2⟩
    · exact sound.congr rfl

theorem matcherSound_takeKeyEvent (e : KeyEvent) : MatcherSound (takeKeyEvent e s) := by
  unfold takeKeyEvent
  split
  · exact matcherSound_takePress sound e.key e.held
  · exact matcherSound_takeRelease sound e.key

/-! ## The timers (R24, R27, R28) -/

theorem matcherSound_tapWindowExpires (running : s.hkm.tapWindow ≠ none) : MatcherSound (tapWindowExpires s) := by
  have counting : s.hkm.state = .counting := by
    have parts := sound
    unfold MatcherSound MatcherFits at parts
    split at parts <;> tauto
  rw [tapWindowExpires, if_pos counting]
  exact matcherSound_deliver s

theorem matcherSound_sequenceExpires (running : s.hkm.sequence ≠ none) : MatcherSound (sequenceExpires s) := by
  have sequence : s.hkm.state = .sequence := by
    have parts := sound
    unfold MatcherSound MatcherFits at parts
    split at parts <;> tauto
  rw [sequenceExpires, if_pos sequence]
  exact matcherSound_matcherIdle s (sound.buffer_eq_nil (by simp [sequence]))

theorem matcherSound_holdExpires (running : s.hkm.hold ≠ none) : MatcherSound (holdExpires s) := by
  have parts := sound
  have state : s.hkm.state = .holding := by
    unfold MatcherSound MatcherFits at parts
    split at parts <;> tauto
  rw [MatcherSound, MatcherFits, state] at parts
  obtain ⟨empty, taps, window, sequence, -, holding⟩ := parts
  have fits : MatcherFits { s.hkm with state := .held, hold := none } := ⟨empty, taps, window, sequence, rfl, holding⟩
  rw [holdExpires, if_pos state]
  dsimp only
  split
  · rwa [MatcherSound, fireAction_hkm]
  · exact fits

/-- An expiry keeps what its effect keeps while its timer runs. -/
theorem onExpiry_matcherSound {f : State → State} (t : Timer)
    (effect : ∀ e, t = some e → MatcherSound (f (s.reach e))) : MatcherSound (s.onExpiry t f) := by
  cases t with
  | none => exact sound
  | some e => exact effect e rfl

/-! ## The work of the Console Input Port (R13, R35) -/

theorem matcherSound_takeIndications : MatcherSound (takeIndications s) := by
  unfold takeIndications
  split
  · exact matcherSound_matcherDetached _
  · exact sound

theorem matcherSound_takeWork (w : ConsoleWork) : MatcherSound (takeWork w s) := by
  cases w with
  | event k press => exact sound
  | indication => exact sound.congr rfl
  | report r =>
    rw [takeWork, compareReport]
    split
    · exact sound
    · split
      · exact (matcherSound_takeIndications sound).consumed (newHeldSet r) _
      · exact sound.congr rfl
  | detach =>
    rw [takeWork, takeDetach]
    split
    · exact sound.congr rfl
    · exact sound
  | attach =>
    rw [takeWork, takeAttach]
    split
    · exact sound
    · exact sound.congr rfl

theorem matcherSound_consoleSettles : MatcherSound (consoleSettles s) :=
  consoleSettles_invariant MatcherSound (fun _ _ h => h.congr rfl) (fun w _ h => matcherSound_takeWork h w) s sound

theorem matcherSound_consoleGoesOn : MatcherSound (consoleGoesOn s) :=
  consoleGoesOn_invariant MatcherSound (fun _ _ h => h.congr rfl) (fun w _ h => matcherSound_takeWork h w)
    (fun _ _ _ h => h.congr rfl) s sound

theorem matcherSound_consoleAdd (w : ConsoleWork) : MatcherSound (consoleAdd w s) :=
  matcherSound_consoleGoesOn (sound.congr rfl)

end

end Sys2Proof.Machine

/-!
SUPPORT. What a served request and a checked table write do, said once each (R174 to R177), and what each stored entry leaves.
-/

namespace Sys2Proof.Machine

/-! ## Fields that a frame keeps -/

theorem Keeps.hkm {m : List StateField} {s t : State} (k : Keeps m s t) (out : .hkm ∉ m := by decide) : t.hkm = s.hkm := k .hkm out

theorem Keeps.tables {m : List StateField} {s t : State} (k : Keeps m s t) (out : .tables ∉ m := by decide) : t.tables = s.tables :=
  k .tables out

theorem Keeps.memory {m : List StateField} {s t : State} (k : Keeps m s t) (out : .memory ∉ m := by decide) : t.memory = s.memory :=
  k .memory out

theorem Keeps.mfe {m : List StateField} {s t : State} (k : Keeps m s t) (out : .mfe ∉ m := by decide) : t.mfe = s.mfe := k .mfe out

/-! ## A request served (R174, R175) -/

section
variable (kind : Nat) (q : Request) (f : State → State × Reply) (s : State)

theorem serve_busy (managed : s.managed q.port = true) (busy : s.mfe.inFlight.get q.port ≠ none) :
    serve kind q f s = sendReply kind q (plainReply .busy) s := by
  rw [serve, if_pos managed, if_pos (Option.isSome_iff_ne_none.mpr busy)]

theorem serve_free (managed : s.managed q.port = true) (free : s.mfe.inFlight.get q.port = none) :
    serve kind q f s = sendReply kind q (f s).2 (f s).1 := by
  rw [serve, if_pos managed, free]
  rfl

/-- What sending keeps and the effect of a request gives, the request served keeps. -/
theorem serve_invariant (P : State → Prop) (send : ∀ (s : State) (o : Sent), P s → P (s.send o)) (h : P s) (effect : P (f s).1) :
    P (serve kind q f s) := by
  have reply (r : Reply) (s : State) (h : P s) : P (sendReply kind q r s) := by
    unfold sendReply State.sendFrame
    split
    · exact send s _ h
    · exact h
  unfold serve
  split
  · split
    · exact reply _ _ h
    · exact reply _ _ effect
  · exact h

end

/-! ## A checked write (R177) -/

section
variable {k : Nat} {α : Type} (q : Request) (checked : Option (α × Bool)) (denied conflict : Fin k → α → Bool)
  (store : Fin k → α → State → State) (s : State)

theorem writeEntry_busy (busy : s.mfe.save ≠ none) :
    writeEntry q checked denied conflict store s = (s, plainReply .busy) := by
  unfold writeEntry
  rw [if_pos (Option.isSome_iff_ne_none.mpr busy)]

theorem writeEntry_range (free : s.mfe.save = none) (bad : numbered k q.arg2 = none ∨ checked = none) :
    writeEntry q checked denied conflict store s = (s, plainReply .range) := by
  unfold writeEntry
  rw [free, Option.isSome_none, if_neg Bool.false_ne_true]
  rcases bad with bad | bad
  · rw [bad]
  · rw [bad]
    cases numbered k q.arg2 <;> rfl

section
variable (free : s.mfe.save = none) (i : Fin k) (e : α) (clamped : Bool) (hi : numbered k q.arg2 = some i)
  (he : checked = some (e, clamped))
include free hi he

theorem writeEntry_denied (no : denied i e = true) :
    writeEntry q checked denied conflict store s = (s, plainReply .denied) := by
  simp [writeEntry, free, hi, he, no]

theorem writeEntry_conflict (ok : denied i e = false) (no : conflict i e = true) :
    writeEntry q checked denied conflict store s = (s, plainReply .conflict) := by
  simp [writeEntry, free, hi, he, ok, no]

theorem writeEntry_stored (ok : denied i e = false) (fits : conflict i e = false) :
    writeEntry q checked denied conflict store s =
      (store i e s, { status := .ok, clamped := clamped, saveFailed := false, payload := [] }) := by
  simp [writeEntry, free, hi, he, ok, fits]

end

/-- What a state has and every stored entry that passes the checks keeps, a write keeps. -/
theorem writeEntry_invariant (P : State → Prop) (h : P s) (stored : ∀ (i : Fin k) (e : α) (clamped : Bool), numbered k q.arg2 = some i →
    checked = some (e, clamped) → denied i e = false → conflict i e = false → P (store i e s)) :
    P (writeEntry q checked denied conflict store s).1 := by
  unfold writeEntry
  split
  · exact h
  · split
    · next i e clamped hi =>
      split
      · exact h
      · next ok =>
        split
        · exact h
        · next fits => exact stored i e clamped hi rfl (Bool.eq_false_iff.mpr ok) (Bool.eq_false_iff.mpr fits)
    · exact h
    · exact h

end

/-! ## What a table write does to the matcher (R34) -/

/-- The matcher back in Idle, with the buffer as it is (section 2.3). -/
def Hkm.stopped (h : Hkm) : Hkm :=
  { h with state := .idle, tapCounter := 0, tapWindow := none, sequence := none, hold := none, holding := none }

/-- The matcher after a table write that concerns it: Counting and Sequence end in Idle (R34). -/
def Hkm.written (h : Hkm) : Hkm :=
  match h.state with
  | .counting => { h.stopped with buffer := [] }
  | .sequence => h.stopped
  | .idle | .holding | .held => h

theorem matcherIdle_eq (s : State) : matcherIdle s = { s with hkm := s.hkm.stopped } := rfl

theorem matcherTablesChanged_eq (s : State) : matcherTablesChanged s = { s with
    handoffs := s.handoffs ++ (if s.hkm.state = .counting then withheld s else [])
    hkm := s.hkm.written } := by
  unfold matcherTablesChanged Hkm.written
  cases state : s.hkm.state with
  | counting => simp [matcherIdle_eq, deliverBuffer_eq, Hkm.stopped]
  | sequence => simp [matcherIdle_eq]
  | idle | holding | held => simp

@[simp] theorem matcherTablesChanged_hkm (s : State) : (matcherTablesChanged s).hkm = s.hkm.written := by
  rw [matcherTablesChanged_eq]

theorem matcherFits_written {h : Hkm} (fits : MatcherFits h) : MatcherFits h.written := by
  unfold Hkm.written
  split
  · exact ⟨rfl, rfl, rfl, rfl, rfl, rfl⟩
  · next state =>
    rw [MatcherFits, state] at fits
    exact ⟨fits.1, rfl, rfl, rfl, rfl, rfl⟩
  · exact fits
  · exact fits
  · exact fits

/-! ## What the stored entries leave (R177) -/

/-- Does a desk record change what the matcher counts by (R34)? -/
def DeskRecord.CountsAnew (e old : DeskRecord) : Prop :=
  e.prefixKey ≠ old.prefixKey ∨ e.tapCount ≠ old.tapCount ∨ e.tapWindow ≠ old.tapWindow

theorem keeps_storeDesk_stored (e : DeskRecord) (s : State) :
    Keeps [.handoffs, .hkm, .xpc, .dms, .sou, .mfe] (s.modTables (fun t => { t with desk := e })) (storeDesk e s) := by
  unfold storeDesk
  dsimp only
  (repeat' split) <;> simp

theorem storeDesk_tables (e : DeskRecord) (s : State) : (storeDesk e s).tables = { s.tables with desk := e } :=
  (keeps_storeDesk_stored e s).tables

theorem storePort_tables (p : Port) (e : PortEntry) (s : State) :
    (storePort p e s).tables = { s.tables with ports := s.tables.ports.set p e } := by
  have keeps : Keeps [.handoffs, .sent, .cpe] (s.modTables (fun t => { t with ports := t.ports.set p e })) (storePort p e s) := by
    simp [storePort]
  exact keeps.tables

theorem storeSource_tables (v : Source) (e : SourceEntry) (s : State) :
    (storeSource v e s).tables = { s.tables with sources := s.tables.sources.set v e } := by
  have keeps : Keeps [.handoffs, .fcu, .cpe, .sou] (s.modTables (fun t => { t with sources := t.sources.set v e }))
      (storeSource v e s) := by
    unfold storeSource
    dsimp only
    (repeat' split) <;> simp
  exact keeps.tables

theorem storeScreen_tables (sc : Screen) (e : ScreenEntry) (s : State) :
    (storeScreen sc e s).tables = { s.tables with screens := s.tables.screens.set sc e } := by
  have keeps : Keeps [.handoffs, .glu, .fcu, .cpe, .xpc, .dms, .sou] (s.modTables (fun t => { t with screens := t.screens.set sc e }))
      (storeScreen sc e s) := by
    unfold storeScreen
    dsimp only
    (repeat' split) <;> simp
  exact keeps.tables

theorem storeHotkey_eq (n : EntryNo) (e : HotkeyEntry) (s : State) : storeHotkey n e s = { s with
    tables := { s.tables with hotkeys := s.tables.hotkeys.set n e }
    handoffs := s.handoffs ++ (if s.hkm.state = .counting then withheld s else [])
    hkm := s.hkm.written } := by
  rw [storeHotkey, matcherTablesChanged_eq]
  rfl

end Sys2Proof.Machine

/-!
PROOFS. The matcher fits its state, and the hotkey table is legal, after every step (section 2.3, R15 to R17, R20).
-/

namespace Sys2Proof.Machine

/-! ## The matcher after every command -/

theorem storeDesk_hkm (e : DeskRecord) (s : State) :
    (storeDesk e s).hkm = if e.prefixKey ≠ s.tables.desk.prefixKey ∨ e.tapCount ≠ s.tables.desk.tapCount
      ∨ e.tapWindow ≠ s.tables.desk.tapWindow then s.hkm.written else s.hkm := by
  have base : (refreshDims (leaveJoin s (s.modTables (fun t => { t with desk := e })))).hkm = s.hkm := by
    rw [refreshDims_eq, leaveJoin_eq]; rfl
  have keeps : Keeps [.handoffs, .xpc, .dms, .sou, .mfe]
      (if e.prefixKey ≠ s.tables.desk.prefixKey ∨ e.tapCount ≠ s.tables.desk.tapCount ∨ e.tapWindow ≠ s.tables.desk.tapWindow then
        matcherTablesChanged (refreshDims (leaveJoin s (s.modTables (fun t => { t with desk := e }))))
      else refreshDims (leaveJoin s (s.modTables (fun t => { t with desk := e })))) (storeDesk e s) := by
    unfold storeDesk
    dsimp only
    (repeat' split) <;> simp
  rw [keeps.hkm]
  split
  · rw [matcherTablesChanged_hkm, base]
  · exact base

@[simp] theorem clearCounters_hkm (s : State) : s.clearCounters.hkm = { s.hkm with misses := 0 } := by
  have keeps : Keeps [.cpe] s (allPorts.foldl (fun s p => s.modCounters p (fun _ =>
      { keysCoalesced := 0, clicksCoalesced := 0, keysDiscarded := 0, stalls := 0 })) s) := by simp
  rw [State.clearCounters, modXpc_hkm, modHkm_hkm, keeps.hkm]

theorem loadEnds_matcherSound (answers keyboard pointer : Bool) {s : State} (sound : MatcherSound s) :
    MatcherSound (loadEnds answers keyboard pointer s) := by
  have loaded : MatcherSound { loadTables answers s with loading := false } :=
    sound.congr (show Keeps [.tables, .mfe] s (loadTables answers s) by simp).hkm
  have rest (t : State) (h : MatcherSound t) : MatcherSound (settleScreens (restartRouting t)) :=
    h.congr (show Keeps [.handoffs, .glu, .xpc, .dms, .sou, .wkc] t (settleScreens (restartRouting t)) by simp).hkm
  have attached (t : State) (h : MatcherSound t) : MatcherSound (attachPointer t) :=
    h.congr (show Keeps [.cip] t (attachPointer t) by simp).hkm
  unfold loadEnds
  dsimp only
  (repeat' split)
  · exact rest _ (attached _ (matcherSound_consoleAdd loaded .attach))
  · exact rest _ (attached _ loaded)
  · exact rest _ (matcherSound_consoleAdd loaded .attach)
  · exact rest _ loaded
  · exact sound

/-- What the matcher is after the input path's part of a Desk Restart (R37). -/
theorem restartInput_hkm (s : State) :
    (restartInput s).hkm = { (takeBeforeRestart s).hkm.stopped with buffer := [], consumed := (takeBeforeRestart s).cip.held } := by
  let t := takeBeforeRestart s
  have keeps : Keeps [.handoffs, .sent, .cpe, .fcu]
      (matcherRestart t.cip.held { t with handoffs := t.handoffs.filter (fun h => outlivesRestart h.cmd) }) (restartInput s) := by
    unfold restartInput
    dsimp only
    rw [keeps_notePorts (by simp), keeps_quietly (by simp) (fun y => by simp), keeps_focusRestart (by simp),
      keeps_quietly (by simp) (fun y => by simp)]
    exact Keeps.refl _ _
  exact keeps.hkm

theorem deskRestarts_eq (s : State) : deskRestarts s =
    consoleGoesOn (settleScreens (restartRouting (sharesOff (dimRestart ((restartInput s).modWkc (fun _ => Wkc.reset)))))) := rfl

theorem deskRestarts_matcherSound (s t : State) (h : deskRestarts s = t) : MatcherSound t := by
  have keeps (t : State) : Keeps [.handoffs, .glu, .xpc, .dms, .sou, .wkc] t (settleScreens (restartRouting (sharesOff (dimRestart t)))) := by
    simp
  have settled := (keeps ((restartInput s).modWkc (fun _ => Wkc.reset))).hkm
  rw [modWkc_hkm, restartInput_hkm] at settled
  rw [deskRestarts_eq] at h
  generalize settleScreens _ = u at settled h
  have idle : MatcherSound u := by
    rw [MatcherSound, settled]
    exact ⟨rfl, rfl, rfl, rfl, rfl, rfl⟩
  exact h ▸ matcherSound_consoleGoesOn idle

theorem takeRestart_matcherSound (q : Request) {s : State} (sound : MatcherSound s) : MatcherSound (takeRestart q s) := by
  unfold takeRestart
  generalize h : deskRestarts _ = t
  split
  · split
    · exact sound.congr (show Keeps [.sent] s (sendReply 16 q (plainReply .busy) s) by simp).hkm
    · exact (deskRestarts_matcherSound _ t h).congr (hand_hkm _ _ _)
  · exact sound

/-- A command that touches the matcher leaves it fit for its state, as every other does. -/
theorem exec_matcherSound (c : Instr) (s t : State) (sound : MatcherSound s) (h : exec c s = .next t) : MatcherSound t := by
  cases c
  case reset => cases h; exact ⟨rfl, rfl, rfl, rfl, rfl, rfl⟩
  case settingsLoadEnd a k p => cases h; exact loadEnds_matcherSound a k p sound
  case keyboardAttach =>
    cases h
    split
    · exact sound
    · exact matcherSound_consoleAdd sound .attach
  case keyboardDetach =>
    cases h
    exact matcherSound_consoleAdd ((matcherSound_consoleSettles sound).congr (modCip_hkm _ _)) .detach
  case keyboardReport r => cases h; exact matcherSound_consoleAdd sound (.report r)
  case keyEvent e =>
    cases h
    exact matcherSound_consoleGoesOn (matcherSound_takeKeyEvent (s := s.taking (.keyEvent e)) sound e)
  case tapWindowExpiry =>
    cases h
    exact onExpiry_matcherSound sound _ fun e running => matcherSound_tapWindowExpires (s := s.reach e) sound (by simp [running])
  case sequenceTimerExpiry =>
    cases h
    exact onExpiry_matcherSound sound _ fun e running => matcherSound_sequenceExpires (s := s.reach e) sound (by simp [running])
  case holdTimerExpiry =>
    cases h
    exact onExpiry_matcherSound sound _ fun e running => matcherSound_holdExpires (s := s.reach e) sound (by simp [running])
  case keyboardDetachedIndication => cases h; exact matcherSound_matcherDetached _
  case consumeRequest k =>
    cases h
    unfold takeConsume
    split
    · exact MatcherSound.consumed (s := s.taking (.consumeRequest k)) sound (keyInsert k s.hkm.consumed) s.hkm.misses
    · exact sound
  case writeDeskRecord q e =>
    cases h
    refine serve_invariant _ _ _ _ MatcherSound (fun _ _ h => h.congr rfl) sound
      (writeEntry_invariant _ _ _ _ _ _ MatcherSound sound fun _ e _ _ _ _ _ => ?_)
    rw [MatcherSound, storeDesk_hkm]
    split
    · exact matcherFits_written sound
    · exact sound
  case writeHotkeyEntry q e =>
    cases h
    refine serve_invariant _ _ _ _ MatcherSound (fun _ _ h => h.congr rfl) sound
      (writeEntry_invariant _ _ _ _ _ _ MatcherSound sound fun n e _ _ _ _ _ => ?_)
    rw [MatcherSound, storeHotkey_eq]
    exact matcherFits_written sound
  case readCountersLatchAndClear q =>
    cases h
    refine serve_invariant _ _ _ _ MatcherSound (fun _ _ h => h.congr rfl) sound ?_
    rw [MatcherSound, clearCounters_hkm]
    exact sound
  case deskRestart q => cases h; exact takeRestart_matcherSound q sound
  all_goals exact sound.congr ((exec_keeps _ s t h).hkm (by simp [touches]))

theorem step_matcherSound (s t : State) (sound : MatcherSound s) (next : step s = .next t) : MatcherSound t :=
  step_invariant MatcherSound exec_matcherSound (fun _ h => matcherSound_consoleGoesOn h) (fun _ _ h => h) (fun _ _ h => h)
    (fun _ _ h => h) s t sound next

end Sys2Proof.Machine

namespace Sys2Proof.Machine

/-! ## Conflicts of hotkey entries (R15 to R17) -/

theorem compatible_comm (a b : Condition) : compatible a b = compatible b a := by
  cases a <;> cases b <;> rfl

/-- Two conditions are compatible unless one is Held and the other NotHeld (R17). -/
theorem compatible_iff (a b : Condition) :
    compatible a b = true ↔ ¬(a = .held ∧ b = .notHeld) ∧ ¬(a = .notHeld ∧ b = .held) := by
  cases a <;> cases b <;> decide

theorem all_cells_iff {n : Nat} (t : Tab n Bool) : t.cells.all id = true ↔ ∀ i, t.get i = true := by
  obtain ⟨cells, size⟩ := t
  subst size
  simp only [List.all_eq_true, id, List.forall_mem_iff_forall_getElem, Tab.get, Fin.forall_iff]

theorem entriesConflict_iff (a b : HotkeyEntry) : entriesConflict a b = true ↔
    a.valid = true ∧ b.valid = true ∧ a.path = b.path ∧ a.key = b.key
    ∧ ∀ i : Fin 4, compatible (a.conditions.get i) (b.conditions.get i) = true := by
  simp only [entriesConflict, Bool.and_eq_true, decide_eq_true_eq, all_cells_iff, Tab.get_zip, and_assoc]

theorem entriesConflict_comm (a b : HotkeyEntry) : entriesConflict a b = entriesConflict b a := by
  rw [Bool.eq_iff_iff, entriesConflict_iff, entriesConflict_iff]
  simp only [compatible_comm (a.conditions.get _), eq_comm (a := a.path), eq_comm (a := a.key)]
  tauto

theorem hotkeyConflict_iff (t : Tables) (n : EntryNo) (e : HotkeyEntry) : hotkeyConflict t n e = true ↔
    e.valid = true ∧ (e.key = t.desk.prefixKey ∨ ∃ m : EntryNo, m ≠ n ∧ entriesConflict e (t.hotkeys.get m) = true) := by
  simp [hotkeyConflict, allEntries]

theorem deskConflict_iff (t : Tables) (e : DeskRecord) : deskConflict t e = true ↔
    ∃ n : EntryNo, (t.hotkeys.get n).valid = true ∧ (t.hotkeys.get n).key = e.prefixKey := by
  simp [deskConflict, allEntries]

/-! ## Legal hotkey tables -/

/-- A desk record that passes its CONFLICT check keeps the table legal (R15). -/
theorem HotkeysLegal.desk {t : Tables} (legal : HotkeysLegal t) (e : DeskRecord) (fits : deskConflict t e = false) :
    HotkeysLegal { t with desk := e } := by
  refine ⟨legal.1, fun n valid key => ?_⟩
  rw [← Bool.not_eq_true, deskConflict_iff] at fits
  exact fits ⟨n, valid, key⟩

/-- A hotkey entry that passes its CONFLICT checks keeps the table legal (R16, R17). -/
theorem HotkeysLegal.hotkey {t : Tables} (legal : HotkeysLegal t) (n : EntryNo) (e : HotkeyEntry) (fits : hotkeyConflict t n e = false) :
    HotkeysLegal { t with hotkeys := t.hotkeys.set n e } := by
  rw [← Bool.not_eq_true, hotkeyConflict_iff] at fits
  have apart (m : EntryNo) (ne : m ≠ n) : entriesConflict e (t.hotkeys.get m) = false := by
    rw [← Bool.not_eq_true]
    exact fun c => fits ⟨((entriesConflict_iff _ _).mp c).1, .inr ⟨m, ne, c⟩⟩
  refine ⟨fun a b ne => ?_, fun m => ?_⟩
  · by_cases ha : a = n
    · subst ha
      rw [Tab.get_set_self, Tab.get_set_other _ ne.symm]
      exact apart b ne.symm
    · by_cases hb : b = n
      · subst hb
        rw [Tab.get_set_self, Tab.get_set_other _ ha, entriesConflict_comm]
        exact apart a ha
      · rw [Tab.get_set_other _ ha, Tab.get_set_other _ hb]
        exact legal.1 a b ne
  · by_cases hm : m = n
    · subst hm
      rw [Tab.get_set_self]
      exact fun valid key => fits ⟨valid, .inl key⟩
    · rw [Tab.get_set_other _ hm]
      exact legal.2 m

/-! ## Every table that can become the running one -/

theorem HotkeysSound.congr {s t : State} (h : HotkeysSound s) (tables : t.tables = s.tables) (memory : t.memory = s.memory)
    (save : t.mfe.save = s.mfe.save) : HotkeysSound t := by
  rw [HotkeysSound, tables, memory, save]
  exact h

/-- What changes neither the tables nor the memory nor the Management Frame Engine keeps the hotkey tables sound. -/
theorem HotkeysSound.keeps {m : List StateField} {s t : State} (h : HotkeysSound s) (k : Keeps m s t)
    (tables : .tables ∉ m := by decide) (memory : .memory ∉ m := by decide) (mfe : .mfe ∉ m := by decide) : HotkeysSound t :=
  h.congr (k.tables tables) (k.memory memory) (by rw [k.mfe mfe])

theorem HotkeysSound.modMfe {s : State} (h : HotkeysSound s) (f : Mfe → Mfe) (save : (f s.mfe).save = s.mfe.save) :
    HotkeysSound (s.modMfe f) := h.congr rfl rfl save

/-- A write of a legal table keeps the hotkey tables sound. -/
theorem HotkeysSound.stored {s t : State} (h : HotkeysSound s) (legal : HotkeysLegal t.tables) (memory : t.memory = s.memory)
    (save : t.mfe.save = s.mfe.save) : HotkeysSound t := by
  obtain ⟨-, image, prior⟩ := h
  rw [HotkeysSound, memory, save]
  exact ⟨legal, image, prior⟩

/-! ## The Management Frame Engine -/

theorem storeDesk_save (e : DeskRecord) (s : State) : (storeDesk e s).mfe.save = s.mfe.save := by
  have paced (x : State) (h : x.mfe = s.mfe) :
      (if e.noticePacing = 0 then x.modMfe (fun m => { m with pacing := none }) else x).mfe.save = s.mfe.save := by
    split <;> simp [h]
  unfold storeDesk
  refine paced _ (Keeps.mfe (m := [.handoffs, .tables, .hkm, .xpc, .dms, .sou]) ?_)
  (repeat' split) <;> simp

section
variable {s : State} (sound : HotkeysSound s)
include sound

theorem hotkeysSound_startPacing : HotkeysSound (startPacing s) := by
  unfold startPacing
  split
  · exact sound
  · exact sound.modMfe _ rfl

theorem hotkeysSound_noticeReports : HotkeysSound s.noticeReports :=
  sound.keeps (show Keeps [.sent] s s.noticeReports by simp)

theorem hotkeysSound_takeNotice (k : NoticeKind) : HotkeysSound (takeNotice k s) := by
  have raised : HotkeysSound (s.modMfe (fun m => { m with notices := flagOn (noticeBit k) m.notices })) := sound.modMfe _ rfl
  unfold takeNotice
  split
  · exact sound
  · dsimp only
    split
    · exact hotkeysSound_startPacing (hotkeysSound_noticeReports raised)
    · exact raised

theorem hotkeysSound_pacingExpires : HotkeysSound (pacingExpires s) := by
  have stopped : HotkeysSound (s.modMfe (fun m => { m with pacing := none })) := sound.modMfe _ rfl
  unfold pacingExpires
  dsimp only
  split
  · exact hotkeysSound_startPacing (hotkeysSound_noticeReports stopped)
  · exact stopped

theorem hotkeysSound_sendReply (kind : Nat) (q : Request) (r : Reply) : HotkeysSound (sendReply kind q r s) :=
  sound.keeps (show Keeps [.sent] s (sendReply kind q r s) by simp)

theorem hotkeysSound_finishRequest (p : Port) (r : Reply) : HotkeysSound (finishRequest p r s) := by
  unfold finishRequest
  split
  · exact hotkeysSound_sendReply (sound.modMfe _ rfl) _ _ r
  · exact sound

theorem hotkeysSound_serve (kind : Nat) (q : Request) (f : State → State × Reply) (effect : HotkeysSound (f s).1) :
    HotkeysSound (serve kind q f s) :=
  serve_invariant kind q f s HotkeysSound (fun _ _ h => h.congr rfl rfl rfl) sound effect

/-! ## The save (R184) and the restarts -/

theorem hotkeysSound_startSave (q : Request) : HotkeysSound (startSave q s) := by
  obtain ⟨legal, image, -⟩ := sound
  refine ⟨legal, fun valid => Bool.noConfusion valid, fun v saved valid => ?_⟩
  cases saved
  exact image valid

theorem hotkeysSound_endSave (outcome : SaveOutcome) : HotkeysSound (endSave outcome s) := by
  obtain ⟨legal, image, prior⟩ := id sound
  unfold endSave
  split
  · exact sound
  · next v saved =>
    have ended : HotkeysSound { s with
        memory := savedMemory outcome v.prior s.tables
        mfe := { s.mfe with save := none, lastSave := if outcome = .success then .succeeded else .failed } } := by
      refine ⟨legal, fun valid => ?_, fun _ none => nomatch none⟩
      cases outcome with
      | success => exact legal
      | failedAtClear => exact prior v saved valid
      | failedAtTable k => exact Bool.noConfusion valid
      | failedAtMark => exact Bool.noConfusion valid
    exact (hotkeysSound_finishRequest ended v.port (saveReply outcome)).congr rfl rfl rfl

theorem hotkeysSound_loadTables (answers : Bool) : HotkeysSound (loadTables answers s) := by
  unfold loadTables
  split
  · next h =>
    rw [Bool.and_eq_true] at h
    exact sound.stored (sound.2.1 h.2) rfl rfl
  · exact sound.stored factoryTables_hotkeysLegal rfl rfl

theorem hotkeysSound_loadEnds (answers keyboard pointer : Bool) : HotkeysSound (loadEnds answers keyboard pointer s) := by
  have loaded : HotkeysSound { loadTables answers s with loading := false } := hotkeysSound_loadTables sound answers
  unfold loadEnds
  split
  · refine loaded.keeps (m := [.handoffs, .sent, .cip, .hkm, .glu, .xpc, .dms, .sou, .wkc]) ?_
    dsimp only
    (repeat' split) <;> simp
  · exact sound

theorem hotkeysSound_takeRestart (q : Request) : HotkeysSound (takeRestart q s) := by
  unfold takeRestart
  split
  · split
    · exact hotkeysSound_sendReply sound 16 q _
    · refine HotkeysSound.keeps (m := [.handoffs, .sent, .cip, .hkm, .glu, .fcu, .cpe, .xpc, .dms, .sou, .wkc]) (sound.modMfe (fun m =>
        { m with inFlight := m.inFlight.set q.port (some { kind := 16, request := q }) }) rfl) ?_
      simp
  · exact sound

theorem hotkeysSound_reset : HotkeysSound (resetPart s) :=
  ⟨factoryTables_hotkeysLegal, sound.2.1, fun _ save => nomatch save⟩

theorem hotkeysSound_storeDesk (e : DeskRecord) (fits : deskConflict s.tables e = false) : HotkeysSound (storeDesk e s) := by
  have memory : (storeDesk e s).memory = s.memory := (keeps_storeDesk_stored e s).memory
  exact sound.stored (by rw [storeDesk_tables]; exact sound.1.desk e fits) memory (storeDesk_save e s)

end

/-! ## Every command -/

theorem exec_hotkeysSound (c : Instr) (s t : State) (sound : HotkeysSound s) (h : exec c s = .next t) : HotkeysSound t := by
  cases c
  case reset => cases h; exact hotkeysSound_reset sound
  case settingsLoadEnd a k p => cases h; exact hotkeysSound_loadEnds sound a k p
  case noticeRaise k => cases h; exact hotkeysSound_takeNotice (s := s.taking (.noticeRaise k)) sound k
  case deskRestartCompletion p =>
    cases h
    unfold restartDone
    split
    · split
      · exact hotkeysSound_finishRequest (s := s.taking (.deskRestartCompletion p)) sound p _
      · exact sound
    · exact sound
  case pacingTimerExpiry =>
    cases h
    unfold State.onExpiry
    split
    · exact sound
    · next e _ => exact hotkeysSound_pacingExpires (s := s.reach e) sound
  case writeDeskRecord q w =>
    cases h
    exact hotkeysSound_serve sound _ _ _ (writeEntry_invariant _ _ _ _ _ _ HotkeysSound sound fun _ e _ _ _ _ fits =>
      hotkeysSound_storeDesk sound e fits)
  case writePortEntry q w =>
    cases h
    refine hotkeysSound_serve sound _ _ _ (writeEntry_invariant _ _ _ _ _ _ HotkeysSound sound fun p e _ _ _ _ _ => ?_)
    have keeps : Keeps [.handoffs, .sent, .tables, .cpe] s (storePort p e s) := by simp
    exact sound.stored (by rw [storePort_tables]; exact sound.1) keeps.memory (by rw [keeps.mfe])
  case writeSourceEntry q w =>
    cases h
    refine hotkeysSound_serve sound _ _ _ (writeEntry_invariant _ _ _ _ _ _ HotkeysSound sound fun v e _ _ _ _ _ => ?_)
    have keeps : Keeps [.handoffs, .tables, .fcu, .cpe, .sou] s (storeSource v e s) := by simp
    exact sound.stored (by rw [storeSource_tables]; exact sound.1) keeps.memory (by rw [keeps.mfe])
  case writeScreenEntry q w =>
    cases h
    refine hotkeysSound_serve sound _ _ _ (writeEntry_invariant _ _ _ _ _ _ HotkeysSound sound fun sc e _ _ _ _ _ => ?_)
    have keeps : Keeps [.handoffs, .tables, .glu, .fcu, .cpe, .xpc, .dms, .sou] s (storeScreen sc e s) := by simp
    exact sound.stored (by rw [storeScreen_tables]; exact sound.1) keeps.memory (by rw [keeps.mfe])
  case writeLayoutEntry q w =>
    cases h
    exact hotkeysSound_serve sound _ _ _ (writeEntry_invariant _ _ _ _ _ _ HotkeysSound sound fun _ _ _ _ _ _ _ =>
      sound.stored sound.1 rfl rfl)
  case writeHotkeyEntry q w =>
    cases h
    refine hotkeysSound_serve sound _ _ _ (writeEntry_invariant _ _ _ _ _ _ HotkeysSound sound fun n e _ _ _ _ fits => ?_)
    rw [storeHotkey_eq]
    exact sound.stored (sound.1.hotkey n e fits) rfl rfl
  case readNotices q => cases h; exact hotkeysSound_serve sound _ _ _ (sound.modMfe _ rfl)
  case setNoticeMask q mask => cases h; exact hotkeysSound_serve sound _ _ _ (sound.modMfe _ rfl)
  case readCountersLatch q => cases h; exact hotkeysSound_serve sound _ _ _ (sound.modMfe _ rfl)
  case readCountersLatchAndClear q =>
    cases h
    have latched : HotkeysSound (latchCounters s) := sound.modMfe _ rfl
    exact hotkeysSound_serve sound _ _ _ (latched.keeps (m := [.cpe, .hkm, .xpc]) (by simp))
  case saveSettings q =>
    cases h
    unfold takeSave
    split
    · split
      · exact hotkeysSound_sendReply sound 15 q _
      · exact hotkeysSound_startSave sound q
    · exact sound
  case saveEnd outcome => cases h; exact hotkeysSound_endSave sound outcome
  case deskRestart q => cases h; exact hotkeysSound_takeRestart sound q
  all_goals exact sound.keeps (exec_keeps _ s t h) (by simp [touches]) (by simp [touches]) (by simp [touches])

theorem step_hotkeysSound (s t : State) (sound : HotkeysSound s) (next : step s = .next t) : HotkeysSound t :=
  step_invariant HotkeysSound exec_hotkeysSound
    (fun s h => h.keeps (show Keeps [.handoffs, .sent, .cip, .hkm] s (consoleGoesOn s) by simp)) (fun _ _ h => h) (fun _ _ h => h)
    (fun _ _ h => h) s t sound next

/-- Settles O56. -/
theorem matcherStaysSound : Obligations.MatcherStaysSound := ⟨step_matcherSound, step_hotkeysSound⟩

end Sys2Proof.Machine

/-!
PROOFS. Key events taken by the matcher, state by state (R21 to R33), and a press that matches at most one entry (R17, R19).
-/

namespace Sys2Proof.Machine

/-! ## Matching (R17, R19) -/

theorem entryMatches_iff (path : HotkeyPath) (k : Key) (held : KeySet) (e : HotkeyEntry) : entryMatches path k held e = true ↔
    e.valid = true ∧ e.path = path ∧ e.key = k
    ∧ ∀ i : Fin 4, conditionMet (e.conditions.get i) (logicalHeld i.val held) = true := by
  simp [entryMatches, and_assoc]

/-- Conditions that one held set meets are compatible (R17, R19). -/
theorem compatible_of_met (a b : Condition) (isHeld : Bool) (ha : conditionMet a isHeld = true) (hb : conditionMet b isHeld = true) :
    compatible a b = true := by
  rw [compatible_iff]
  constructor
  · rintro ⟨rfl, rfl⟩
    cases isHeld <;> contradiction
  · rintro ⟨rfl, rfl⟩
    cases isHeld <;> contradiction

/-- Settles O15: two entries that one press matches have its path, its key and compatible conditions, so they conflict. -/
theorem oneEntryMatches : Obligations.OneEntryMatches := by
  intro path k held a b apart ha
  rw [← Bool.not_eq_true] at apart ⊢
  intro hb
  obtain ⟨va, pa, ka, ca⟩ := (entryMatches_iff path k held a).mp ha
  obtain ⟨vb, pb, kb, cb⟩ := (entryMatches_iff path k held b).mp hb
  exact apart ((entriesConflict_iff a b).mpr
    ⟨va, vb, pa.trans pb.symm, ka.trans kb.symm, fun i => compatible_of_met _ _ _ (ca i) (cb i)⟩)

theorem findEntry_eq_none (path : HotkeyPath) (k : Key) (held : KeySet) (s : State)
    (h : ∀ n : EntryNo, entryMatches path k held (s.tables.hotkeys.get n) = false) : s.findEntry path k held = none :=
  List.find?_eq_none.mpr fun n _ => by simp [h n]

/-! ## Taking a key event while later ones wait -/

/-- A command that the later hand-offs do not hold is taken from the earlier ones. -/
theorem withoutFirst_append (c : Instr) (a b : List Handoff) (h : ∀ x ∈ b, x.cmd ≠ c) :
    withoutFirst c (a ++ b) = withoutFirst c a ++ b := by
  induction a with
  | nil => exact withoutFirst_of_notMem c b h
  | cons x a ih =>
    rw [List.cons_append, withoutFirst, withoutFirst, ih]
    split <;> rfl

theorem withheld_ne_keyEvent (s : State) (e : KeyEvent) : ∀ x ∈ withheld s, x.cmd ≠ .keyEvent e := by
  intro x mem
  obtain ⟨y, -, rfl⟩ := List.mem_map.mp mem
  exact nofun

theorem handedByAction_ne_keyEvent (s : State) (n : EntryNo) (held : Bool) (a : Action) (e : KeyEvent) :
    ∀ x ∈ handedByAction s n held a, x.cmd ≠ .keyEvent e := by
  cases a with
  | wake c => cases c <;> simp [handedByAction]
  | focus c => cases held <;> simp [handedByAction]
  | dimOverride => cases held <;> simp [handedByAction]
  | wakeAll => simp [handedByAction, allPorts]
  | focusNext | focusPrevious | layout | route | share | shareOff | peek | lock | broadcast | deskSleep => simp [handedByAction]

/-- With no work in hand at the Console Input Port, a key event is taken by the matcher and nothing else happens (R4, R20). -/
theorem exec_keyEvent_noWork (e : KeyEvent) (s : State) (w : s.cip.work = []) :
    exec (.keyEvent e) s = .next (takeKeyEvent e (s.taking (.keyEvent e))) := by
  have work : (takeKeyEvent e (s.taking (.keyEvent e))).cip.work = [] := by rw [(takeKeyEvent_keeps e _).1]; exact w
  rw [exec_keyEvent, consoleGoesOn_idle _ work]

section
variable (k : Key) (held : KeySet) (s : State) (w : s.cip.work = [])
include w

theorem exec_press : exec (.keyEvent { key := k, press := true, held := held }) s =
    .next (takePress k held (s.taking (.keyEvent { key := k, press := true, held := held }))) :=
  exec_keyEvent_noWork _ s w

theorem exec_release : exec (.keyEvent { key := k, press := false, held := held }) s =
    .next (takeRelease k (s.taking (.keyEvent { key := k, press := false, held := held }))) :=
  exec_keyEvent_noWork _ s w

end

/-! ## A press that matches an entry (R22, R26, R31, R32) -/

theorem matchedPress_tap (n : EntryNo) (k : Key) (s : State) (h : (s.tables.hotkeys.get n).hold = none) :
    matchedPress n k s = { s with
      handoffs := s.handoffs ++ handedByAction s n false (s.tables.hotkeys.get n).tap
      hkm := { s.hkm.stopped with consumed := keyInsert k s.hkm.consumed } } := by
  simp only [matchedPress, h]
  rw [fireAction_eq]
  rfl

theorem matchedPress_hold (n : EntryNo) (k : Key) (s : State) (a : Action) (h : (s.tables.hotkeys.get n).hold = some a) :
    matchedPress n k s = { s with
      hkm := { s.hkm with
        state := .holding, consumed := keyInsert k s.hkm.consumed, tapCounter := 0, tapWindow := none, sequence := none
        hold := some (s.timebase + s.tables.desk.holdThreshold * 1000)
        holding := some
          { entry := n, key := (s.tables.hotkeys.get n).key, tap := (s.tables.hotkeys.get n).tap, hold := some a } } } := by
  simp only [matchedPress, h]
  rw [← h]
  rfl

/-! ## A press in Idle (R22) -/

section
variable (k : Key) (held : KeySet) (s : State)

theorem pressIdle_counts (prefixed : k = s.tables.desk.prefixKey) (more : s.tables.desk.tapCount ≠ 1) :
    pressIdle k held s = enterCounting k s := by
  rw [pressIdle, if_pos prefixed, if_neg more]

theorem pressIdle_opens (prefixed : k = s.tables.desk.prefixKey) (one : s.tables.desk.tapCount = 1) :
    pressIdle k held s = enterSequence (consumeKey k s) := by
  rw [pressIdle, if_pos prefixed, if_pos one]

theorem pressIdle_matched (n : EntryNo) (other : k ≠ s.tables.desk.prefixKey) (found : s.findEntry .direct k held = some n) :
    pressIdle k held s = matchedPress n k s := by
  rw [pressIdle, if_neg other, found]

theorem pressIdle_passed (other : k ≠ s.tables.desk.prefixKey) (none : s.findEntry .direct k held = none) :
    pressIdle k held s = passEvent k true s := by
  rw [pressIdle, if_neg other, none]

end

theorem exec_press_idle (k : Key) (held : KeySet) (s : State) (state : s.hkm.state = .idle) (w : s.cip.work = []) :
    exec (.keyEvent { key := k, press := true, held := held }) s =
      .next (pressIdle k held (s.taking (.keyEvent { key := k, press := true, held := held }))) := by
  rw [exec_press k held s w, takePress, taking_hkm, state]

/-! ## A press or a release in Counting (R23, R25) -/

section
variable (k : Key) (held : KeySet) (s : State) (state : s.hkm.state = .counting) (w : s.cip.work = [])
include state w

theorem exec_press_counting : exec (.keyEvent { key := k, press := true, held := held }) s =
    .next (pressCounting k held (s.taking (.keyEvent { key := k, press := true, held := held }))) := by
  rw [exec_press k held s w, takePress, taking_hkm, state]

/-- The press that completes the count (R23). -/
theorem exec_press_counting_completes (prefixed : k = s.tables.desk.prefixKey) (last : s.hkm.tapCounter + 1 = s.tables.desk.tapCount) :
    exec (.keyEvent { key := k, press := true, held := held }) s =
      .next (enterSequence (consumeKey k (s.taking (.keyEvent { key := k, press := true, held := held })))) := by
  rw [exec_press_counting k held s state w, pressCounting, taking_tables, taking_hkm, if_pos prefixed, if_pos last]

theorem exec_press_counting_withheld (prefixed : k = s.tables.desk.prefixKey) (more : s.hkm.tapCounter + 1 ≠ s.tables.desk.tapCount) :
    exec (.keyEvent { key := k, press := true, held := held }) s = .next { s with
      handoffs := withoutFirst (.keyEvent { key := k, press := true, held := held }) s.handoffs
      hkm := { s.hkm with tapCounter := s.hkm.tapCounter + 1, buffer := s.hkm.buffer ++ [(k, true)] } } := by
  rw [exec_press_counting k held s state w, pressCounting, taking_tables, taking_hkm, if_pos prefixed, if_neg more]
  rfl

theorem exec_press_counting_modifier (other : k ≠ s.tables.desk.prefixKey) (modifier : isModifier k = true) :
    exec (.keyEvent { key := k, press := true, held := held }) s = .next { s with
      handoffs := withoutFirst (.keyEvent { key := k, press := true, held := held }) s.handoffs
        ++ [{ src := .hkm, cmd := .passedEvent k true }] } := by
  rw [exec_press_counting k held s state w, pressCounting, taking_tables, if_neg other, if_pos modifier]
  rfl

/-- Another ordinary key has the withheld events delivered, and is then taken as in Idle (R25). -/
theorem exec_press_counting_ordinary (other : k ≠ s.tables.desk.prefixKey) (ordinary : isModifier k = false) :
    exec (.keyEvent { key := k, press := true, held := held }) s =
      exec (.keyEvent { key := k, press := true, held := held }) { s with
        handoffs := s.handoffs ++ withheld s
        hkm := { s.hkm with
          state := .idle, buffer := [], tapCounter := 0, tapWindow := none, sequence := none, hold := none, holding := none } } := by
  have taken : withoutFirst (.keyEvent { key := k, press := true, held := held }) (s.handoffs ++ withheld s)
      = withoutFirst (.keyEvent { key := k, press := true, held := held }) s.handoffs ++ withheld s :=
    withoutFirst_append _ _ _ (withheld_ne_keyEvent s _)
  rw [exec_press_counting k held s state w, pressCounting, taking_tables, if_neg other, if_neg (by simp [ordinary]),
    deliverBuffer_eq, exec_press_idle k held _ rfl (by exact w), State.taking, State.taking, taken]
  rfl

theorem exec_release_counting (free : k ∉ s.hkm.consumed) :
    exec (.keyEvent { key := k, press := false, held := held }) s = .next
      (if k = s.tables.desk.prefixKey then { s with
        handoffs := withoutFirst (.keyEvent { key := k, press := false, held := held }) s.handoffs
        hkm := { s.hkm with buffer := s.hkm.buffer ++ [(k, false)] } }
      else { s with
        handoffs := withoutFirst (.keyEvent { key := k, press := false, held := held }) s.handoffs
          ++ [{ src := .hkm, cmd := .passedEvent k false }] }) := by
  rw [exec_release k held s w, takeRelease, taking_hkm, taking_tables, if_neg free]
  by_cases prefixed : k = s.tables.desk.prefixKey
  · rw [if_pos ⟨state, prefixed⟩, if_pos prefixed]
    rfl
  · rw [if_neg fun h => prefixed h.2, if_neg prefixed]
    rfl

end

/-- Settles O11: a press in Idle by the branches of `pressIdle`, and the events in Counting. -/
theorem prefixCounted : Obligations.PrefixCounted := by
  refine ⟨fun k held s state w => ?_, fun held s state last w => ?_, fun k held s state w =>
    ⟨exec_press_counting_withheld k held s state w, exec_press_counting_modifier k held s state w,
      exec_press_counting_ordinary k held s state w, exec_release_counting k held s state w⟩⟩
  · let t := s.taking (.keyEvent { key := k, press := true, held := held })
    have taken := exec_press_idle k held s state w
    refine ⟨fun prefixed more => ?_, fun prefixed one => ?_, fun other no => ?_, fun n other found => ⟨fun tap => ?_, fun a hold => ?_⟩⟩
    · rw [taken, pressIdle_counts k held t prefixed more]
      rfl
    · rw [taken, pressIdle_opens k held t prefixed one]
      rfl
    · rw [taken, pressIdle_passed k held t other (findEntry_eq_none .direct k held t no)]
      rfl
    · rw [taken, pressIdle_matched k held t n other found, matchedPress_tap n k t tap]
      rfl
    · rw [taken, pressIdle_matched k held t n other found, matchedPress_hold n k t a hold]
      rfl
  · dsimp only
    rw [exec_press_counting_completes _ held s state w rfl last]
    rfl

/-! ## A press in Sequence (R26) -/

theorem exec_press_sequence (k : Key) (held : KeySet) (s : State) (state : s.hkm.state = .sequence) (w : s.cip.work = []) :
    exec (.keyEvent { key := k, press := true, held := held }) s =
      .next (pressSequence k held (s.taking (.keyEvent { key := k, press := true, held := held }))) := by
  rw [exec_press k held s w, takePress, taking_hkm, state]

section
variable (k : Key) (held : KeySet) (s : State)

theorem pressSequence_literal (prefixed : k = s.tables.desk.prefixKey) :
    pressSequence k held s = matcherIdle (passEvent k true s) := by
  rw [pressSequence, if_pos prefixed]

section
variable (other : k ≠ s.tables.desk.prefixKey)
include other

theorem pressSequence_modifier (modifier : isModifier k = true) : pressSequence k held s = passEvent k true s := by
  rw [pressSequence, if_neg other, if_pos modifier]

theorem pressSequence_matched (ordinary : isModifier k = false) (n : EntryNo) (found : s.findEntry .prefixed k held = some n) :
    pressSequence k held s = matchedPress n k s := by
  rw [pressSequence, if_neg other, if_neg (by simp [ordinary]), found]

theorem pressSequence_missed (ordinary : isModifier k = false) (none : s.findEntry .prefixed k held = none) :
    pressSequence k held s = matcherIdle ((consumeKey k s).modHkm (fun h => { h with misses := bump h.misses })) := by
  rw [pressSequence, if_neg other, if_neg (by simp [ordinary]), none]

end

end

/-- Settles O12, by the branches of `pressSequence`. -/
theorem sequencePress : Obligations.SequencePress := by
  intro k held s state w
  let t := s.taking (.keyEvent { key := k, press := true, held := held })
  have taken := exec_press_sequence k held s state w
  refine ⟨fun prefixed => ?_, fun other modifier => ?_, fun other ordinary no => ?_,
    fun n other ordinary found => ⟨fun tap => ?_, fun a hold => ?_⟩⟩
  · rw [taken, pressSequence_literal k held t prefixed]
    rfl
  · rw [taken, pressSequence_modifier k held t other modifier]
    rfl
  · rw [taken, pressSequence_missed k held t other ordinary (findEntry_eq_none .prefixed k held t no)]
    rfl
  · rw [taken, pressSequence_matched k held t other ordinary n found, matchedPress_tap n k t tap]
    rfl
  · rw [taken, pressSequence_matched k held t other ordinary n found, matchedPress_hold n k t a hold]
    rfl

/-! ## Releases (R21, R28, R29) -/

section
variable (k : Key) (held : KeySet) (s : State) (w : s.cip.work = [])
include w

theorem exec_release_consumed (consumed : k ∈ s.hkm.consumed) : exec (.keyEvent { key := k, press := false, held := held }) s =
    .next (endHold k { s with
      handoffs := withoutFirst (.keyEvent { key := k, press := false, held := held }) s.handoffs
      hkm := { s.hkm with consumed := keyErase k s.hkm.consumed } }) := by
  rw [exec_release k held s w, takeRelease, if_pos (by exact consumed)]
  rfl

theorem exec_release_passed (free : k ∉ s.hkm.consumed) (state : s.hkm.state ≠ .counting) :
    exec (.keyEvent { key := k, press := false, held := held }) s = .next { s with
      handoffs := withoutFirst (.keyEvent { key := k, press := false, held := held }) s.handoffs
        ++ [{ src := .hkm, cmd := .passedEvent k false }] } := by
  rw [exec_release k held s w, takeRelease, if_neg (by exact free), if_neg fun h => state h.1]
  rfl

end

/-- The release of a key that is not that of the holding entry ends no hold. -/
theorem endHold_other (k : Key) (s : State) (other : ∀ e : HoldingEntry, s.hkm.holding = some e → e.key ≠ k) : endHold k s = s := by
  unfold endHold
  split
  · rfl
  · next e holding => rw [if_pos (other e holding)]

section
variable (s : State) (e : HoldingEntry) (holding : s.hkm.holding = some e)
include holding

theorem fireHoldingTap_eq : fireHoldingTap s = { s with
    handoffs := s.handoffs ++ handedByAction s e.entry false e.tap
    hkm := s.hkm.stopped } := by
  simp only [fireHoldingTap, holding]
  rw [fireAction_eq]
  rfl

theorem endHold_holding (state : s.hkm.state = .holding) : endHold e.key s = { s with
    handoffs := s.handoffs ++ handedByAction s e.entry false e.tap
    hkm := s.hkm.stopped } := by
  simp only [endHold, holding, ne_eq, not_true_eq_false, if_false, state]
  exact fireHoldingTap_eq s e holding

theorem endHold_held (state : s.hkm.state = .held) (a : Action) (hold : e.hold = some a) : endHold e.key s = { s with
    handoffs := s.handoffs ++ handedByRevert e.entry a
    hkm := s.hkm.stopped } := by
  simp only [endHold, holding, ne_eq, not_true_eq_false, if_false, state, hold]
  rw [revertAction_eq]
  rfl

end

/-! ## A press in Holding and in Held (R28, R29) -/

section
variable (k : Key) (held : KeySet) (s : State) (w : s.cip.work = [])
include w

theorem exec_press_passed (state : (s.hkm.state = .holding ∧ isModifier k = true) ∨ s.hkm.state = .held) :
    exec (.keyEvent { key := k, press := true, held := held }) s = .next { s with
      handoffs := withoutFirst (.keyEvent { key := k, press := true, held := held }) s.handoffs
        ++ [{ src := .hkm, cmd := .passedEvent k true }] } := by
  rw [exec_press k held s w, takePress, taking_hkm]
  rcases state with ⟨state, modifier⟩ | state
  · rw [state, pressHolding, if_pos modifier]
    rfl
  · rw [state]
    rfl

theorem exec_press_holding (e : HoldingEntry) (state : s.hkm.state = .holding) (holding : s.hkm.holding = some e)
    (ordinary : isModifier k = false) :
    exec (.keyEvent { key := k, press := true, held := held }) s =
      exec (.keyEvent { key := k, press := true, held := held }) { s with
        handoffs := s.handoffs ++ handedByAction s e.entry false e.tap
        hkm := { s.hkm with
          state := .idle, tapCounter := 0, tapWindow := none, sequence := none, hold := none, holding := none } } := by
  have taken : withoutFirst (.keyEvent { key := k, press := true, held := held }) (s.handoffs ++ handedByAction s e.entry false e.tap)
      = withoutFirst (.keyEvent { key := k, press := true, held := held }) s.handoffs ++ handedByAction s e.entry false e.tap :=
    withoutFirst_append _ _ _ (handedByAction_ne_keyEvent s _ _ _ _)
  rw [exec_press k held s w, takePress, taking_hkm, state, exec_press_idle k held _ rfl (by exact w)]
  dsimp only
  rw [pressHolding, if_neg (by simp [ordinary]), fireHoldingTap_eq _ e (by exact holding), State.taking, State.taking, taken]
  rfl

end

/-- Settles O13: releases of consumed and of other keys, the holding entry's release, presses in Holding and Held, the detach and the
consume request. -/
theorem keysConsumed : Obligations.KeysConsumed := by
  refine ⟨fun k held s w => ⟨fun consumed other => ?_, exec_release_passed k held s w⟩,
    fun held s w e holding consumed => ⟨fun state => ?_, fun a state hold => ?_⟩,
    fun k held s w => ⟨exec_press_passed k held s w, fun e state holding ordinary =>
      exec_press_holding k held s w e state holding ordinary⟩,
    fun s => rfl, fun k s => ?_⟩
  · exact (exec_release_consumed k held s w consumed).trans (congrArg Host.Outcome.next (endHold_other k _ (by exact other)))
  · exact (exec_release_consumed _ held s w consumed).trans
      (congrArg Host.Outcome.next (endHold_holding _ e (by exact holding) (by exact state)))
  · exact (exec_release_consumed _ held s w consumed).trans
      (congrArg Host.Outcome.next (endHold_held _ e (by exact holding) (by exact state) a hold))
  · by_cases down : k ∈ s.cip.held
    · rw [if_pos down]
      exact congrArg Host.Outcome.next (if_pos down)
    · rw [if_neg down]
      exact congrArg Host.Outcome.next (if_neg down)

end Sys2Proof.Machine

/-!
SUPPORT. The readers of fields: which numbers each accepts, and what it reads (R187, "Named values").
-/

namespace Sys2Proof.Machine

/-! ## One field -/

theorem readBool_eq_some (n : Nat) (b : Bool) : readBool n = some b ↔ n = if b then 1 else 0 := by
  unfold readBool
  rcases n with _ | _ | n <;> cases b <;> simp

theorem readBool_eq_none (n : Nat) : readBool n = none ↔ ¬n ≤ 1 := by
  unfold readBool
  rcases n with _ | _ | n <;> simp

theorem inRange_eq_some (lo hi n m : Nat) : inRange lo hi n = some m ↔ (lo ≤ n ∧ n ≤ hi) ∧ n = m := by
  simp [inRange]

theorem inRange_eq_none (lo hi n : Nat) : inRange lo hi n = none ↔ ¬(lo ≤ n ∧ n ≤ hi) := by
  simp [inRange]

theorem numbered_eq_some (k n : Nat) (i : Fin k) : numbered k n = some i ↔ n = i.val + 1 := by
  have bound := i.isLt
  unfold numbered
  split
  · rw [Option.some.injEq, Fin.ext_iff]
    dsimp only
    omega
  · simp only [reduceCtorEq, false_iff]
    omega

theorem numbered_eq_none (k n : Nat) : numbered k n = none ↔ ¬(1 ≤ n ∧ n ≤ k) := by
  simp [numbered]

@[simp] theorem numbered_succ (k : Nat) (i : Fin k) : numbered k (i.val + 1) = some i := (numbered_eq_some k _ i).mpr rfl

theorem noneOrNumbered_eq_some (k n : Nat) (o : Option (Fin k)) :
    noneOrNumbered k n = some o ↔ n = (o.map (·.val + 1)).getD 0 := by
  unfold noneOrNumbered
  cases o with
  | none => by_cases h : n = 0 <;> simp [h]
  | some i => by_cases h : n = 0 <;> simp [h, numbered_eq_some]

theorem noneOrNumbered_eq_none (k n : Nat) : noneOrNumbered k n = none ↔ ¬n ≤ k := by
  unfold noneOrNumbered
  by_cases h : n = 0
  · simp [h]
  · simp [h, numbered_eq_none, Nat.one_le_iff_ne_zero]

theorem clampNat_eq (lo hi n : Nat) (h : lo ≤ hi) : clampNat lo hi n = max lo (min hi n) := by
  unfold clampNat
  split
  · omega
  · split <;> omega

/-- A clamped number is not clamped again. -/
theorem clampNat_of_inside (lo hi n : Nat) (h : lo ≤ n ∧ n ≤ hi) : clampNat lo hi n = n := by
  unfold clampNat
  split
  · omega
  · split <;> omega

/-! ## Fields of numbered members (R187) -/

theorem readSwitchMode_eq_some (n : Nat) (m : SwitchMode) : readSwitchMode n = some m ↔ n = switchModeNum m := by
  unfold readSwitchMode
  rcases n with _ | _ | n <;> cases m <;> simp [switchModeNum]

theorem readSwitchMode_eq_none (n : Nat) : readSwitchMode n = none ↔ ¬n ≤ 1 := by
  unfold readSwitchMode
  rcases n with _ | _ | n <;> simp

theorem readPath_eq_some (n : Nat) (p : HotkeyPath) : readPath n = some p ↔ n = pathNum p := by
  unfold readPath
  rcases n with _ | _ | n <;> cases p <;> simp [pathNum]

theorem readPath_eq_none (n : Nat) : readPath n = none ↔ ¬n ≤ 1 := by
  unfold readPath
  rcases n with _ | _ | n <;> simp

theorem readCondition_eq_some (n : Nat) (c : Condition) : readCondition n = some c ↔ n = conditionNum c := by
  unfold readCondition
  rcases n with _ | _ | _ | n <;> cases c <;> simp [conditionNum]

theorem readCondition_eq_none (n : Nat) : readCondition n = none ↔ ¬n ≤ 2 := by
  unfold readCondition
  rcases n with _ | _ | _ | n <;> simp

theorem readRouteField_eq_some (n : Nat) (f : RouteField) : readRouteField n = some f ↔ n = routeFieldNum f := by
  unfold readRouteField
  rcases n with _ | _ | n <;> rcases f with _ | _ | v <;> simp [routeFieldNum, numbered_eq_some]

theorem readRouteField_eq_none (n : Nat) : readRouteField n = none ↔ ¬n ≤ 17 := by
  unfold readRouteField
  rcases n with _ | _ | n <;> simp [numbered_eq_none]

theorem readFocusField_eq_some (n : Nat) (f : FocusField) : readFocusField n = some f ↔ n = focusFieldNum f := by
  unfold readFocusField
  rcases n with _ | _ | n <;> cases f <;> simp [focusFieldNum, numbered_eq_some]

theorem readFocusField_eq_none (n : Nat) : readFocusField n = none ↔ ¬n ≤ 7 := by
  unfold readFocusField
  rcases n with _ | _ | n <;> simp [numbered_eq_none]

/-! ## A table of fields -/

theorem all_isSome_iff {n : Nat} {α : Type} (t : Tab n (Option α)) : t.cells.all Option.isSome = true ↔ ∀ i, (t.get i).isSome = true := by
  obtain ⟨cells, size⟩ := t
  subst size
  simp only [List.all_eq_true, List.forall_mem_iff_forall_getElem, Tab.get, Fin.forall_iff]

theorem allRead_eq_some {n : Nat} {α : Type} (a : α) (t : Tab n (Option α)) (u : Tab n α) :
    allRead a t = some u ↔ ∀ i, t.get i = some (u.get i) := by
  unfold allRead
  split
  · next all =>
    rw [all_isSome_iff] at all
    rw [Option.some.injEq]
    constructor
    · rintro rfl i
      obtain ⟨x, hx⟩ := Option.isSome_iff_exists.mp (all i)
      rw [Tab.get_map, hx, Option.getD_some]
    · intro h
      exact Tab.ext_get fun i => by rw [Tab.get_map, h i, Option.getD_some]
  · next some =>
    rw [all_isSome_iff] at some
    simp only [reduceCtorEq, false_iff]
    exact fun h => some fun i => by rw [h i, Option.isSome_some]

theorem allRead_eq_none {n : Nat} {α : Type} (a : α) (t : Tab n (Option α)) : allRead a t = none ↔ ∃ i, t.get i = none := by
  have all := all_isSome_iff t
  simp only [Option.isSome_iff_ne_none] at all
  unfold allRead
  split
  · next h => simpa using all.mp h
  · next h => simpa [all] using h

/-! ## Actions (R31) -/

theorem noneOrNum_eq {n : Nat} (o : Option (Fin n)) : noneOrNum o = (o.map (·.val + 1)).getD 0 := by
  cases o <;> rfl

@[simp] theorem noneOrNumbered_noneOrNum {k : Nat} (o : Option (Fin k)) : noneOrNumbered k (noneOrNum o) = some o :=
  (noneOrNumbered_eq_some k _ o).mpr (noneOrNum_eq o)

/-- What is accepted as an action is exactly its kind and its arguments. -/
theorem checkAction_eq_some (r : RawAction) (a : Action) : checkAction r = some a ↔ r = actionRaw a := by
  constructor
  · intro h
    obtain ⟨kind, x, y⟩ := r
    unfold checkAction at h
    dsimp only at h
    split at h <;>
      simp [-Fin.exists_fin_two, Option.bind_eq_some_iff, numbered_eq_some, noneOrNumbered_eq_some, ← noneOrNum_eq] at h
    case h_2 | h_3 | h_10 | h_11 | h_12 | h_13 | h_14 =>
      obtain ⟨⟨rfl, rfl⟩, rfl⟩ := h
      rfl
    case h_1 | h_4 | h_7 | h_9 =>
      obtain ⟨rfl, _, rfl, rfl⟩ := h
      rfl
    case h_5 | h_6 | h_8 =>
      obtain ⟨_, rfl, _, rfl, rfl⟩ := h
      rfl
  · rintro rfl
    cases a <;> simp [checkAction, actionRaw]

theorem holdAllowed_iff (a : Action) : holdAllowed a = true ↔
    (∃ c : Computer, a = .focus c) ∨ (∃ (v : Source) (sc : Option Screen), a = .peek v sc) ∨ a = .dimOverride := by
  cases a <;> simp [holdAllowed]

end Sys2Proof.Machine

/-!
SUPPORT. The checks of the six entries, each by its fields: what is accepted, and what is out of range (R15, R16, R39, R41, R80, R103,
R117, R126, R127, R135, R160, R180).
-/

namespace Sys2Proof.Machine

/-! ## Fields read one after another -/

/-- Fields read one after another are out of range unless each is in its range. -/
theorem bind_eq_none_of {α β : Type} {o : Option α} {f : α → Option β} {p q : Prop} (ho : o = none ↔ ¬p)
    (hf : ∀ a, o = some a → (f a = none ↔ ¬q)) : (o >>= f) = none ↔ ¬(p ∧ q) := by
  cases o with
  | none => simp [ho.mp rfl]
  | some a =>
    have inside : p := by simpa using ho
    simpa [inside] using hf a rfl

theorem pure_eq_none {α : Type} (a : α) : (pure a : Option α) = none ↔ ¬True := by simp

theorem inRange_value {lo hi n m : Nat} (h : inRange lo hi n = some m) : m = n := ((inRange_eq_some lo hi n m).mp h).2.symm

/-! ## The desk record -/

/-- Has a desk record a field that is not as written (R177)? -/
def clampedFrom (w : RawDesk) (e : DeskRecord) : Bool :=
  decide (e.tapWindow ≠ w.tapWindow) || decide (e.sequenceTimeout ≠ w.sequenceTimeout)
  || decide (e.holdThreshold ≠ w.holdThreshold) || decide (e.pressureHold ≠ w.pressureHold)
  || decide (e.routeHoldLimit ≠ w.routeHoldLimit) || decide (e.dimFloor ≠ w.dimFloor)
  || decide (e.unfocusedLevel ≠ w.unfocusedLevel) || decide (e.rampRate ≠ w.rampRate)
  || decide (e.screenSleepDelay ≠ w.screenSleepDelay) || decide (e.wakeTimeout ≠ w.wakeTimeout)
  || decide (e.wakeRetries ≠ w.wakeRetries) || decide (e.recoveryTime ≠ w.recoveryTime)
  || decide (e.noticePacing ≠ w.noticePacing)

/-- The ranges of a desk record as written (R15, R41, R75, R126, R160). -/
structure DeskInRange (w : RawDesk) : Prop where
  prefixKey : 4 ≤ w.prefixKey ∧ w.prefixKey ≤ 221
  tapCount : 1 ≤ w.tapCount ∧ w.tapCount ≤ 3
  glideGain : 16 ≤ w.glideGain ∧ w.glideGain ≤ 4096
  crossingResistance : w.crossingResistance ≤ 4095
  broadcastMask : w.broadcastMask ≤ 63
  startLayout : 1 ≤ w.startLayout ∧ w.startLayout ≤ 16
  deskWakeWakes : w.deskWakeWakes ≤ 1

/-- The fields of the entry that a desk record as written is, clamped where it is clamped (R15, R41, R126, R135, R160, R180). -/
structure DeskFields (w : RawDesk) (e : DeskRecord) : Prop where
  prefixKey : e.prefixKey = w.prefixKey
  tapCount : e.tapCount = w.tapCount
  tapWindow : e.tapWindow = clampNat 100 1000 w.tapWindow
  sequenceTimeout : e.sequenceTimeout = clampNat 500 5000 w.sequenceTimeout
  holdThreshold : e.holdThreshold = clampNat 200 2000 w.holdThreshold
  glideGain : e.glideGain = w.glideGain
  crossingResistance : e.crossingResistance = w.crossingResistance
  pressureHold : e.pressureHold = clampNat 50 2000 w.pressureHold
  broadcastMask : e.broadcastMask = natFlags 6 w.broadcastMask
  routeHoldLimit : e.routeHoldLimit = clampNat 100 5000 w.routeHoldLimit
  startLayout : w.startLayout = e.startLayout.val + 1
  dimFloor : e.dimFloor = clampNat 0 255 w.dimFloor
  unfocusedLevel : e.unfocusedLevel = clampNat 0 255 w.unfocusedLevel
  rampRate : e.rampRate = clampNat 1 255 w.rampRate
  screenSleepDelay : e.screenSleepDelay = clampNat 1 60 w.screenSleepDelay
  wakeTimeout : e.wakeTimeout = clampNat 500 10000 w.wakeTimeout
  wakeRetries : e.wakeRetries = clampNat 0 3 w.wakeRetries
  recoveryTime : e.recoveryTime = clampNat 5 200 w.recoveryTime
  deskWakeWakes : w.deskWakeWakes = if e.deskWakeWakes then 1 else 0
  noticePacing : e.noticePacing = clampPacing w.noticePacing

theorem checkDesk_eq_some (w : RawDesk) (e : DeskRecord) (b : Bool) :
    checkDesk w = some (e, b) ↔ DeskInRange w ∧ DeskFields w e ∧ b = clampedFrom w e := by
  simp only [checkDesk, Option.bind_eq_bind, Option.bind_eq_some_iff, Option.pure_def, Option.some.injEq, Prod.mk.injEq,
    inRange_eq_some, numbered_eq_some, readBool_eq_some]
  constructor
  · rintro ⟨_, ⟨prefixKey, rfl⟩, _, ⟨tapCount, rfl⟩, _, ⟨glideGain, rfl⟩, _, ⟨crossing, rfl⟩, _, ⟨mask, rfl⟩, layout, hl, wakes, hw, rfl, rfl⟩
    have := layout.isLt
    refine ⟨⟨prefixKey, tapCount, glideGain, crossing.2, mask.2, by omega, by split at hw <;> omega⟩,
      ⟨rfl, rfl, rfl, rfl, rfl, rfl, rfl, rfl, rfl, rfl, hl, rfl, rfl, rfl, rfl, rfl, rfl, rfl, hw, rfl⟩, rfl⟩
  · rintro ⟨range, fields, rfl⟩
    obtain ⟨prefixKey, tapCount, glideGain, crossing, mask, layout, wakes⟩ := range
    obtain ⟨h1, h2, h3, h4, h5, h6, h7, h8, h9, h10, h11, h12, h13, h14, h15, h16, h17, h18, h19, h20⟩ := fields
    obtain ⟨⟩ := e
    dsimp only at *
    subst h1 h2 h3 h4 h5 h6 h7 h8 h9 h10 h12 h13 h14 h15 h16 h17 h18 h20
    exact ⟨_, ⟨prefixKey, rfl⟩, _, ⟨tapCount, rfl⟩, _, ⟨glideGain, rfl⟩, _, ⟨⟨Nat.zero_le _, crossing⟩, rfl⟩, _,
      ⟨⟨Nat.zero_le _, mask⟩, rfl⟩, _, h11, _, h19, rfl, rfl⟩

/-- A desk record in its ranges is an entry. -/
theorem deskFields_of_inRange (w : RawDesk) (range : DeskInRange w) : ∃ e : DeskRecord, DeskFields w e := by
  obtain ⟨-, -, -, -, -, layout, wakes⟩ := range
  refine ⟨
    { prefixKey := w.prefixKey, tapCount := w.tapCount, tapWindow := clampNat 100 1000 w.tapWindow
      sequenceTimeout := clampNat 500 5000 w.sequenceTimeout, holdThreshold := clampNat 200 2000 w.holdThreshold
      glideGain := w.glideGain, crossingResistance := w.crossingResistance, pressureHold := clampNat 50 2000 w.pressureHold
      broadcastMask := natFlags 6 w.broadcastMask, routeHoldLimit := clampNat 100 5000 w.routeHoldLimit
      startLayout := ⟨w.startLayout - 1, by omega⟩, dimFloor := clampNat 0 255 w.dimFloor
      unfocusedLevel := clampNat 0 255 w.unfocusedLevel, rampRate := clampNat 1 255 w.rampRate
      screenSleepDelay := clampNat 1 60 w.screenSleepDelay, wakeTimeout := clampNat 500 10000 w.wakeTimeout
      wakeRetries := clampNat 0 3 w.wakeRetries, recoveryTime := clampNat 5 200 w.recoveryTime
      deskWakeWakes := decide (w.deskWakeWakes = 1), noticePacing := clampPacing w.noticePacing },
    rfl, rfl, rfl, rfl, rfl, rfl, rfl, rfl, rfl, rfl, ?_, rfl, rfl, rfl, rfl, rfl, rfl, rfl, ?_, rfl⟩
  · dsimp only
    omega
  · simp only [decide_eq_true_eq]
    split <;> omega

theorem checkDesk_eq_none (w : RawDesk) : checkDesk w = none ↔ ¬DeskInRange w := by
  rw [Option.eq_none_iff_forall_ne_some]
  constructor
  · intro none range
    obtain ⟨e, fields⟩ := deskFields_of_inRange w range
    exact none _ ((checkDesk_eq_some w e _).mpr ⟨range, fields, rfl⟩)
  · exact fun out p some => out ((checkDesk_eq_some w p.1 p.2).mp some).1

/-! ## A port entry -/

theorem checkPort_eq_some (w : RawPort) (e : PortEntry) (b : Bool) : checkPort w = some (e, b) ↔
    readBool w.enabled = some e.enabled ∧ readBool w.managementAllowed = some e.managementAllowed
    ∧ readBool w.wakeOnGlide = some e.wakeOnGlide ∧ readBool w.wakeOnKey = some e.wakeOnKey
    ∧ inRange 0 15 w.settlePolls = some e.settlePolls ∧ e.stallTimeout = clampNat 100 5000 w.stallTimeout
    ∧ b = decide (e.stallTimeout ≠ w.stallTimeout) := by
  obtain ⟨⟩ := e
  simp only [checkPort, Option.bind_eq_bind, Option.bind_eq_some_iff, Option.pure_def, Option.some.injEq, Prod.mk.injEq,
    PortEntry.mk.injEq]
  constructor
  · rintro ⟨_, h1, _, h2, _, h3, _, h4, _, h5, ⟨rfl, rfl, rfl, rfl, rfl, rfl⟩, rfl⟩
    exact ⟨h1, h2, h3, h4, h5, rfl, rfl⟩
  · rintro ⟨h1, h2, h3, h4, h5, rfl, rfl⟩
    exact ⟨_, h1, _, h2, _, h3, _, h4, _, h5, ⟨rfl, rfl, rfl, rfl, rfl, rfl⟩, rfl⟩

theorem checkPort_eq_none (w : RawPort) : checkPort w = none ↔
    ¬(w.enabled ≤ 1 ∧ w.managementAllowed ≤ 1 ∧ w.wakeOnGlide ≤ 1 ∧ w.wakeOnKey ≤ 1 ∧ w.settlePolls ≤ 15) := by
  have fields : checkPort w = none ↔ _ :=
    bind_eq_none_of (readBool_eq_none w.enabled) fun _ _ => bind_eq_none_of (readBool_eq_none w.managementAllowed) fun _ _ =>
    bind_eq_none_of (readBool_eq_none w.wakeOnGlide) fun _ _ => bind_eq_none_of (readBool_eq_none w.wakeOnKey) fun _ _ =>
    bind_eq_none_of (inRange_eq_none 0 15 w.settlePolls) fun _ _ => pure_eq_none _
  simpa using fields

/-! ## A source entry -/

theorem checkSource_eq_some (w : RawSource) (e : SourceEntry) : checkSource w = some e ↔
    noneOrNumbered 6 w.owner = some e.owner ∧ inRange 0 32767 w.x0 = some e.x0 ∧ inRange 0 32767 w.y0 = some e.y0
    ∧ inRange 1 32768 w.w = some e.w ∧ inRange 1 32768 w.h = some e.h ∧ e.x0 + e.w ≤ 32768 ∧ e.y0 + e.h ≤ 32768
    ∧ readBool w.priv = some e.priv := by
  obtain ⟨⟩ := e
  simp only [checkSource, Option.bind_eq_bind, Option.bind_eq_some_iff, Option.pure_def, Option.some.injEq, SourceEntry.mk.injEq]
  constructor
  · rintro ⟨_, h1, _, h2, _, h3, _, h4, _, h5, _, h6, _, h7, _, h8, rfl, rfl, rfl, rfl, rfl, rfl⟩
    rw [inRange_eq_some] at h6 h7
    exact ⟨h1, h2, h3, h4, h5, h6.1.2, h7.1.2, h8⟩
  · rintro ⟨h1, h2, h3, h4, h5, h6, h7, h8⟩
    exact ⟨_, h1, _, h2, _, h3, _, h4, _, h5, _, (inRange_eq_some _ _ _ _).mpr ⟨⟨Nat.zero_le _, h6⟩, rfl⟩, _,
      (inRange_eq_some _ _ _ _).mpr ⟨⟨Nat.zero_le _, h7⟩, rfl⟩, _, h8, rfl, rfl, rfl, rfl, rfl, rfl⟩

theorem checkSource_eq_none (w : RawSource) : checkSource w = none ↔
    ¬(w.owner ≤ 6 ∧ w.x0 ≤ 32767 ∧ w.y0 ≤ 32767 ∧ 1 ≤ w.w ∧ w.w ≤ 32768 ∧ 1 ≤ w.h ∧ w.h ≤ 32768
      ∧ w.x0 + w.w ≤ 32768 ∧ w.y0 + w.h ≤ 32768 ∧ w.priv ≤ 1) := by
  have fields : checkSource w = none ↔ _ :=
    bind_eq_none_of (noneOrNumbered_eq_none 6 w.owner) fun _ _ => bind_eq_none_of (inRange_eq_none 0 32767 w.x0) fun x0 hx =>
    bind_eq_none_of (inRange_eq_none 0 32767 w.y0) fun y0 hy => bind_eq_none_of (inRange_eq_none 1 32768 w.w) fun width hw =>
    bind_eq_none_of (inRange_eq_none 1 32768 w.h) fun height hh =>
    bind_eq_none_of (p := 0 ≤ w.x0 + w.w ∧ w.x0 + w.w ≤ 32768)
      (by rw [inRange_value hx, inRange_value hw]; exact inRange_eq_none 0 32768 _) fun _ _ =>
    bind_eq_none_of (p := 0 ≤ w.y0 + w.h ∧ w.y0 + w.h ≤ 32768)
      (by rw [inRange_value hy, inRange_value hh]; exact inRange_eq_none 0 32768 _) fun _ _ =>
    bind_eq_none_of (readBool_eq_none w.priv) fun _ _ => pure_eq_none _
  rw [fields]
  simp only [Nat.zero_le, true_and, and_true, and_assoc]

/-! ## A screen entry -/

theorem checkScreen_eq_some (w : RawScreen) (e : ScreenEntry) : checkScreen w = some e ↔
    readBool w.placed = some e.placed ∧ inRange 64 65535 w.w = some e.w ∧ inRange 64 65535 w.h = some e.h ∧ w.x = e.x ∧ w.y = e.y
    ∧ e.x + e.w ≤ 65536 ∧ e.y + e.h ≤ 65536 ∧ inRange 0 4095 w.switchLine = some e.switchLine
    ∧ readSwitchMode w.switchMode = some e.switchMode ∧ readBool w.fade = some e.fade := by
  obtain ⟨⟩ := e
  simp only [checkScreen, Option.bind_eq_bind, Option.bind_eq_some_iff, Option.pure_def, Option.some.injEq, ScreenEntry.mk.injEq]
  constructor
  · rintro ⟨_, h1, _, h2, _, h3, _, h4, _, h5, _, h6, _, h7, _, h8, rfl, rfl, rfl, rfl, rfl, rfl, rfl, rfl⟩
    rw [inRange_eq_some] at h4 h5
    exact ⟨h1, h2, h3, rfl, rfl, h4.1.2, h5.1.2, h6, h7, h8⟩
  · rintro ⟨h1, h2, h3, rfl, rfl, h4, h5, h6, h7, h8⟩
    exact ⟨_, h1, _, h2, _, h3, _, (inRange_eq_some _ _ _ _).mpr ⟨⟨Nat.zero_le _, h4⟩, rfl⟩, _,
      (inRange_eq_some _ _ _ _).mpr ⟨⟨Nat.zero_le _, h5⟩, rfl⟩, _, h6, _, h7, _, h8, rfl, rfl, rfl, rfl, rfl, rfl, rfl, rfl⟩

theorem checkScreen_eq_none (w : RawScreen) : checkScreen w = none ↔
    ¬(w.placed ≤ 1 ∧ 64 ≤ w.w ∧ w.w ≤ 65535 ∧ 64 ≤ w.h ∧ w.h ≤ 65535 ∧ w.x + w.w ≤ 65536 ∧ w.y + w.h ≤ 65536
      ∧ w.switchLine ≤ 4095 ∧ w.switchMode ≤ 1 ∧ w.fade ≤ 1) := by
  have fields : checkScreen w = none ↔ _ :=
    bind_eq_none_of (readBool_eq_none w.placed) fun _ _ => bind_eq_none_of (inRange_eq_none 64 65535 w.w) fun width hw =>
    bind_eq_none_of (inRange_eq_none 64 65535 w.h) fun height hh =>
    bind_eq_none_of (p := 0 ≤ w.x + w.w ∧ w.x + w.w ≤ 65536) (by rw [inRange_value hw]; exact inRange_eq_none 0 65536 _) fun _ _ =>
    bind_eq_none_of (p := 0 ≤ w.y + w.h ∧ w.y + w.h ≤ 65536) (by rw [inRange_value hh]; exact inRange_eq_none 0 65536 _) fun _ _ =>
    bind_eq_none_of (inRange_eq_none 0 4095 w.switchLine) fun _ _ => bind_eq_none_of (readSwitchMode_eq_none w.switchMode) fun _ _ =>
    bind_eq_none_of (readBool_eq_none w.fade) fun _ _ => pure_eq_none _
  rw [fields]
  simp only [Nat.zero_le, true_and, and_true, and_assoc]

/-! ## A layout entry -/

theorem checkLayout_eq_some (w : RawLayout) (e : LayoutEntry) : checkLayout w = some e ↔
    (∀ sc : Screen, readRouteField (w.routes.get sc) = some (e.routes.get sc)) ∧ readFocusField w.focus = some e.focus := by
  obtain ⟨routes, focus⟩ := e
  simp only [checkLayout, Option.bind_eq_bind, Option.bind_eq_some_iff, Option.pure_def, Option.some.injEq, LayoutEntry.mk.injEq,
    allRead_eq_some, Tab.get_map]
  constructor
  · rintro ⟨_, h1, _, h2, rfl, rfl⟩
    exact ⟨h1, h2⟩
  · rintro ⟨h1, h2⟩
    exact ⟨_, h1, _, h2, rfl, rfl⟩

theorem checkLayout_eq_none (w : RawLayout) :
    checkLayout w = none ↔ ¬((∀ sc : Screen, w.routes.get sc ≤ 17) ∧ w.focus ≤ 7) := by
  have routes : allRead .keep (w.routes.map readRouteField) = none ↔ ¬∀ sc : Screen, w.routes.get sc ≤ 17 := by
    simp only [allRead_eq_none, Tab.get_map, readRouteField_eq_none, not_forall]
  have fields : checkLayout w = none ↔ _ :=
    bind_eq_none_of routes fun _ _ => bind_eq_none_of (readFocusField_eq_none w.focus) fun _ _ => pure_eq_none _
  simpa using fields

/-! ## A hotkey entry -/

theorem checkHold_eq_some (w : RawHotkey) (o : Option Action) : checkHold w = some o ↔
    (w.holdPresent = 0 ∧ o = none) ∨ (w.holdPresent = 1 ∧ ∃ a, checkAction w.hold = some a ∧ holdAllowed a = true ∧ o = some a) := by
  have tail (o' : Option Action) : ((checkAction w.hold).bind fun a => if holdAllowed a then some (some a) else none) = some o'
      ↔ ∃ a, checkAction w.hold = some a ∧ holdAllowed a = true ∧ o' = some a := by
    simp only [Option.bind_eq_some_iff, Option.ite_none_right_eq_some, Option.some.injEq, eq_comm (a := o')]
  unfold checkHold
  rcases w.holdPresent with _ | _ | n
  · simp [readBool, eq_comm (a := none)]
  · simpa [readBool] using tail o
  · simp [readBool]

theorem checkHold_eq_none (w : RawHotkey) : checkHold w = none ↔
    ¬(w.holdPresent = 0 ∨ (w.holdPresent = 1 ∧ ∃ a : Action, checkAction w.hold = some a ∧ holdAllowed a = true)) := by
  rw [Option.eq_none_iff_forall_ne_some]
  simp only [ne_eq, checkHold_eq_some]
  constructor
  · rintro none (absent | ⟨present, a, ha, allowed⟩)
    · exact none _ (.inl ⟨absent, rfl⟩)
    · exact none _ (.inr ⟨present, a, ha, allowed, rfl⟩)
  · rintro out o (⟨absent, -⟩ | ⟨present, a, ha, allowed, -⟩)
    · exact out (.inl absent)
    · exact out (.inr ⟨present, a, ha, allowed⟩)

theorem checkHotkey_eq_some (w : RawHotkey) (e : HotkeyEntry) : checkHotkey w = some e ↔
    readBool w.valid = some e.valid ∧ readPath w.path = some e.path ∧ inRange 4 221 w.key = some e.key
    ∧ (∀ i : Fin 4, readCondition (w.conditions.get i) = some (e.conditions.get i)) ∧ checkAction w.tap = some e.tap
    ∧ checkHold w = some e.hold := by
  obtain ⟨⟩ := e
  simp only [checkHotkey, Option.bind_eq_bind, Option.bind_eq_some_iff, Option.pure_def, Option.some.injEq, HotkeyEntry.mk.injEq,
    allRead_eq_some, Tab.get_map]
  constructor
  · rintro ⟨_, h1, _, h2, _, h3, _, h4, _, h5, _, h6, rfl, rfl, rfl, rfl, rfl, rfl⟩
    exact ⟨h1, h2, h3, h4, h5, h6⟩
  · rintro ⟨h1, h2, h3, h4, h5, h6⟩
    exact ⟨_, h1, _, h2, _, h3, _, h4, _, h5, _, h6, rfl, rfl, rfl, rfl, rfl, rfl⟩

theorem checkHotkey_eq_none (w : RawHotkey) : checkHotkey w = none ↔
    ¬(w.valid ≤ 1 ∧ w.path ≤ 1 ∧ 4 ≤ w.key ∧ w.key ≤ 221 ∧ (∀ i : Fin 4, w.conditions.get i ≤ 2)
      ∧ checkAction w.tap ≠ none
      ∧ (w.holdPresent = 0 ∨ (w.holdPresent = 1 ∧ ∃ a : Action, checkAction w.hold = some a ∧ holdAllowed a = true))) := by
  have conditions : allRead .any (w.conditions.map readCondition) = none ↔ ¬∀ i : Fin 4, w.conditions.get i ≤ 2 := by
    simp only [allRead_eq_none, Tab.get_map, readCondition_eq_none, not_forall]
  have fields : checkHotkey w = none ↔ _ :=
    bind_eq_none_of (readBool_eq_none w.valid) fun _ _ => bind_eq_none_of (readPath_eq_none w.path) fun _ _ =>
    bind_eq_none_of (inRange_eq_none 4 221 w.key) fun _ _ => bind_eq_none_of conditions fun _ _ =>
    bind_eq_none_of (p := checkAction w.tap ≠ none) not_not.symm fun _ _ => bind_eq_none_of (checkHold_eq_none w) fun _ _ => pure_eq_none _
  rw [fields]
  simp only [and_true, and_assoc]

end Sys2Proof.Machine

/-!
SUPPORT. What an operation hands, said once as a growth of the hand-offs: those waiting stay in front, and every new one is of a kind.
-/

namespace Sys2Proof.Machine

/-! ## The hand-offs only grow -/

/-- From one state to another the waiting hand-offs stay in front, and each new one is a command of a kind. -/
def Hands (kind : Instr → Bool) (s t : State) : Prop := ∃ new : List Handoff, t.handoffs = s.handoffs ++ new ∧ ∀ h ∈ new, kind h.cmd = true

section
variable {kind : Instr → Bool} {s t u : State}

theorem Hands.of_eq (same : t.handoffs = s.handoffs) : Hands kind s t := ⟨[], by simp [same]⟩

theorem Hands.refl (s : State) : Hands kind s s := .of_eq rfl

theorem Hands.of_keeps {m : List StateField} (k : Keeps m s t) (out : .handoffs ∉ m := by decide) : Hands kind s t :=
  .of_eq (k .handoffs out)

theorem Hands.trans (a : Hands kind s t) (b : Hands kind t u) : Hands kind s u := by
  obtain ⟨x, hx, ox⟩ := a
  obtain ⟨y, hy, oy⟩ := b
  refine ⟨x ++ y, by rw [hy, hx, List.append_assoc], fun h m => ?_⟩
  rcases List.mem_append.mp m with m | m
  · exact ox h m
  · exact oy h m

theorem Hands.keeps {m : List StateField} (a : Hands kind s t) (k : Keeps m t u) (out : .handoffs ∉ m := by decide) :
    Hands kind s u := a.trans (.of_keeps k out)

theorem Hands.hand (a : Hands kind s t) (src : Block) {c : Instr} (ok : kind c = true) : Hands kind s (t.hand src c) :=
  a.trans ⟨[{ src := src, cmd := c }], rfl, fun h m => by rw [List.mem_singleton.mp m]; exact ok⟩

theorem Hands.ite {p : Prop} [Decidable p] {a b : State} (ha : p → Hands kind s a) (hb : ¬p → Hands kind s b) :
    Hands kind s (if p then a else b) := by
  split
  · next h => exact ha h
  · next h => exact hb h

theorem Hands.foldl {α : Type} (f : State → α → State) (step : ∀ s a, Hands kind s (f s a)) (l : List α) (s : State) :
    Hands kind s (l.foldl f s) := by
  induction l generalizing s with
  | nil => exact .refl s
  | cons a l ih => exact (step s a).trans (ih (f s a))

/-- A waiting hand-off goes on waiting. -/
theorem Hands.mem (a : Hands kind s t) {h : Handoff} (m : h ∈ s.handoffs) : h ∈ t.handoffs := by
  obtain ⟨new, e, -⟩ := a
  rw [e]
  exact List.mem_append_left _ m

/-- What each waiting hand-off is, and no new one is not, they all are. -/
theorem Hands.all (a : Hands kind s t) {p : Handoff → Prop} (old : ∀ h ∈ s.handoffs, p h)
    (new : ∀ h : Handoff, kind h.cmd = true → p h) : ∀ h ∈ t.handoffs, p h := by
  obtain ⟨l, e, ok⟩ := a
  rw [e]
  intro h m
  rcases List.mem_append.mp m with m | m
  · exact old h m
  · exact new h (ok h m)

end

/-! ## What the routing and the dimming hand -/

/-- The commands that the later parts of a Desk Restart, and the routing in general, hand on. -/
def routed : Instr → Bool
  | .noticeRaise _ | .ledTrigger _ | .targetRefresh _ | .layoutCompletion _ _ | .switchNotice _ | .switchAtDimStage _ _
  | .switchAtWakeController _ _ | .cursorScreenChange _ => true
  | _ => false

theorem hands_recomputeBlanked (o : ShareOut) (s : State) : Hands routed s (recomputeBlanked o s) := by
  unfold recomputeBlanked
  exact .ite (fun _ => (Hands.of_eq rfl).hand _ rfl) (fun _ => .of_eq rfl)

theorem hands_setShareMode (o : ShareOut) (m : ShareMode) (s : State) : Hands routed s (setShareMode o m s) :=
  (Hands.of_eq (t := s.modSou o (fun r => { r with mode := m })) rfl).trans (hands_recomputeBlanked o _)

theorem hands_recomputeAllBlanked (s : State) : Hands routed s (recomputeAllBlanked s) :=
  .foldl _ (fun s o => hands_recomputeBlanked o s) _ s

theorem hands_followSwitch (sc : Screen) (v : Option Source) (s : State) : Hands routed s (followSwitch sc v s) :=
  .foldl _ (fun s o => Hands.ite (p := follows (s.sou.get o) sc = true) (fun _ => hands_setShareMode o _ s) (fun _ => .refl s)) _ s

theorem hands_handSwitch (sc : Screen) (v : Option Source) (s : State) : Hands routed s (handSwitch sc v s) :=
  ((((Hands.refl s).hand _ rfl).hand _ rfl).trans (hands_followSwitch sc v _)).hand _ rfl

theorem hands_leaveLayout (sc : Screen) (s : State) : Hands routed s (leaveLayout sc s) := by
  unfold leaveLayout
  split
  · exact .refl s
  · exact .ite (fun _ => .ite (fun _ => .of_eq rfl) (fun _ => ((Hands.of_eq rfl).hand _ rfl).hand _ rfl)) (fun _ => .refl s)

theorem hands_takeEffect (sc : Screen) (p : Pending) (k : NoticeKind) (s : State) : Hands routed s (takeEffect sc p k s) := by
  have switched : Hands routed s (handSwitch sc p.target (s.modRoute sc (fun _ => { active := p.target, pending := none }))) :=
    (Hands.of_eq rfl).trans (hands_handSwitch _ _ _)
  have left : Hands routed s
      (leaveIfLayout sc p.cause (handSwitch sc p.target (s.modRoute sc (fun _ => { active := p.target, pending := none })))) :=
    .ite (fun _ => switched.trans (hands_leaveLayout sc _)) (fun _ => switched)
  exact .ite (fun _ => left) (fun _ => left.hand _ rfl)

theorem hands_testPending (sc : Screen) (s : State) : Hands routed s (testPending sc s) := by
  unfold testPending
  (repeat' split)
  case h_1 => exact .refl s
  case isFalse => exact .refl s
  case h_2 => exact .refl s
  all_goals exact hands_takeEffect sc _ _ s

theorem hands_testAll (s : State) : Hands routed s (testAll s) := .foldl _ (fun s sc => hands_testPending sc s) _ s

theorem hands_holdExpired (s : State) : Hands routed s (holdExpired s) := by
  have raised : Hands routed s ((s.modXpc (fun x => { x with hold := none })).raise .xpc .holdExpired) := (Hands.of_eq rfl).hand _ rfl
  unfold holdExpired
  exact raised.trans (hands_testAll _)

theorem hands_holdLimitWritten (s : State) : Hands routed s (holdLimitWritten s) := by
  unfold holdLimitWritten
  split
  · exact .refl s
  · exact .ite (fun _ => hands_holdExpired s) (fun _ => .of_eq rfl)

/-! ## A request that is served replies -/

theorem sendReply_eq (kind : Nat) (q : Request) (r : Reply) (s : State) (enabled : (s.portEntry q.port).enabled = true)
    (up : (s.cpe.get q.port).link = .up) : sendReply kind q r s = s.send (.frame q.port (replyFrame kind q r)) :=
  if_pos ⟨enabled, up⟩

theorem numbered_val {k n : Nat} (i : Fin k) (h : n = i.val + 1) : numbered k n = some i := h ▸ numbered_succ k i

end Sys2Proof.Machine

/-!
PROOFS. The matcher's three timers, and what table writes do to it (section 2.3, R24, R27, R28, R33, R34).
-/

namespace Sys2Proof.Machine

theorem exec_tapWindowExpiry (s : State) (e : Nat) (counting : s.hkm.state = .counting) (running : s.hkm.tapWindow = some e) :
    exec .tapWindowExpiry s = .next { s with
      timebase := max s.timebase e, handoffs := s.handoffs ++ withheld s, hkm := { s.hkm.stopped with buffer := [] } } := by
  refine congrArg Host.Outcome.next (show s.onExpiry s.hkm.tapWindow tapWindowExpires = _ from ?_)
  rw [running, onExpiry_running, tapWindowExpires]
  simp [State.reach, counting, matcherIdle_eq, deliverBuffer_eq, Hkm.stopped, withheld]

theorem exec_sequenceTimerExpiry (s : State) (e : Nat) (sequence : s.hkm.state = .sequence) (running : s.hkm.sequence = some e) :
    exec .sequenceTimerExpiry s = .next { s with timebase := max s.timebase e, hkm := s.hkm.stopped } := by
  refine congrArg Host.Outcome.next (show s.onExpiry s.hkm.sequence sequenceExpires = _ from ?_)
  rw [running, onExpiry_running, sequenceExpires]
  simp [State.reach, sequence, matcherIdle_eq]

theorem exec_holdTimerExpiry (s : State) (e : Nat) (h : HoldingEntry) (a : Action) (holding : s.hkm.state = .holding)
    (running : s.hkm.hold = some e) (entry : s.hkm.holding = some h) (action : h.hold = some a) :
    exec .holdTimerExpiry s = .next { s with
      timebase := max s.timebase e
      handoffs := s.handoffs ++ handedByAction s h.entry true a
      hkm := { s.hkm with state := .held, hold := none } } := by
  refine congrArg Host.Outcome.next (show s.onExpiry s.hkm.hold holdExpires = _ from ?_)
  rw [running, onExpiry_running, holdExpires]
  simp [State.reach, holding, entry, action, fireAction_eq, State.modHkm]
  cases a <;> rfl

/-- A hotkey entry written by a served request is stored, and answered OK. -/
theorem exec_writeHotkeyEntry_stored (q : Request) (w : RawHotkey) (n : EntryNo) (s : State) (served : Served s q)
    (index : q.arg2 = n.val + 1) (e : HotkeyEntry) (ok : checkHotkey w = some e) (fits : hotkeyConflict s.tables n e = false) :
    exec (.writeHotkeyEntry q w) s = .next (sendReply 2 q (plainReply .ok) (storeHotkey n e s)) := by
  obtain ⟨managed, free, noSave, -, -⟩ := served
  refine congrArg Host.Outcome.next (show serve 2 q _ s = _ from ?_)
  rw [serve_free 2 q _ s managed free, writeEntry_stored q _ _ _ _ s noSave n e false (numbered_val n index)
    (by rw [ok]; rfl) rfl fits]
  rfl

/-- The desk record written by a served request is stored, and answered OK with its clamp flag. -/
theorem exec_writeDeskRecord_stored (q : Request) (w : RawDesk) (s : State) (served : Served s q) (index : q.arg2 = 1)
    (e : DeskRecord × Bool) (ok : checkDesk w = some e) (fits : deskConflict s.tables e.1 = false) :
    exec (.writeDeskRecord q w) s =
      .next (sendReply 2 q { status := .ok, clamped := e.2, saveFailed := false, payload := [] } (storeDesk e.1 s)) := by
  obtain ⟨managed, free, noSave, -, -⟩ := served
  refine congrArg Host.Outcome.next (show serve 2 q _ s = _ from ?_)
  rw [serve_free 2 q _ s managed free, writeEntry_stored q _ _ _ _ s noSave (0 : Fin 1) e.1 e.2 (numbered_val 0 index) ok rfl fits]

section
variable (e : DeskRecord) (s : State)

/-- After the matcher's part of a stored desk record, the other parts only hand on. -/
theorem hands_storeDesk (anew : e.prefixKey ≠ s.tables.desk.prefixKey ∨ e.tapCount ≠ s.tables.desk.tapCount
    ∨ e.tapWindow ≠ s.tables.desk.tapWindow) :
    Hands routed (matcherTablesChanged (refreshDims (leaveJoin s (s.modTables (fun t => { t with desk := e }))))) (storeDesk e s) := by
  unfold storeDesk
  dsimp only
  rw [if_pos anew]
  generalize matcherTablesChanged _ = m
  have held : Hands routed m (if e.routeHoldLimit ≠ s.tables.desk.routeHoldLimit then holdLimitWritten m else m) :=
    .ite (fun _ => hands_holdLimitWritten m) (fun _ => .refl m)
  generalize (if e.routeHoldLimit ≠ s.tables.desk.routeHoldLimit then holdLimitWritten m else m) = h at held
  have dimmed : Hands routed m (if e.dimFloor ≠ s.tables.desk.dimFloor ∨ e.unfocusedLevel ≠ s.tables.desk.unfocusedLevel then
      retargetAll h else h) :=
    .ite (fun _ => held.keeps (show Keeps [.dms] h (retargetAll h) by simp)) (fun _ => held)
  exact .ite (fun _ => dimmed.trans (.of_eq rfl)) (fun _ => dimmed)

/-- A write that changes what the matcher counts by delivers the withheld events (R34). -/
theorem withheld_mem_storeDesk (anew : e.prefixKey ≠ s.tables.desk.prefixKey ∨ e.tapCount ≠ s.tables.desk.tapCount
    ∨ e.tapWindow ≠ s.tables.desk.tapWindow) (counting : s.hkm.state = .counting) (x : Handoff) (m : x ∈ withheld s) :
    x ∈ (storeDesk e s).handoffs := by
  refine (hands_storeDesk e s anew).mem ?_
  have same : (refreshDims (leaveJoin s (s.modTables (fun t => { t with desk := e })))).hkm = s.hkm := by
    rw [refreshDims_eq, leaveJoin_eq]; rfl
  rw [matcherTablesChanged_eq]
  refine List.mem_append_right _ ?_
  rw [if_pos (by rw [same, counting]), withheld, same]
  exact m

end

/-- Settles O14: each timer by its expiry, each write by what the stored entry does to the matcher. -/
theorem matcherTimers : Obligations.MatcherTimers := by
  unfold Obligations.MatcherTimers
  refine ⟨fun e s => ⟨exec_tapWindowExpiry s e, exec_sequenceTimerExpiry s e, exec_holdTimerExpiry s e⟩, ?_, ?_⟩
  · intro q w n s served index e ok fits
    refine ⟨_, exec_writeHotkeyEntry_stored q w n s served index e ok fits, ?_⟩
    have keeps : Keeps [.sent] (storeHotkey n e s) (sendReply 2 q (plainReply .ok) (storeHotkey n e s)) := by simp
    have handed : (sendReply 2 q (plainReply .ok) (storeHotkey n e s)).handoffs = (storeHotkey n e s).handoffs := keeps .handoffs (by decide)
    rw [keeps.hkm, handed, storeHotkey_eq]
    exact ⟨rfl, rfl⟩
  · intro q w s served index e ok fits
    refine ⟨_, exec_writeDeskRecord_stored q w s served index e ok fits, ?_⟩
    generalize hr : ({ status := .ok, clamped := e.2, saveFailed := false, payload := [] } : Reply) = r
    have keeps : Keeps [.sent] (storeDesk e.1 s) (sendReply 2 q r (storeDesk e.1 s)) := by simp
    have handed : (sendReply 2 q r (storeDesk e.1 s)).handoffs = (storeDesk e.1 s).handoffs := keeps .handoffs (by decide)
    rw [keeps.hkm, handed, storeDesk_hkm]
    refine ⟨fun ⟨h1, h2, h3⟩ => if_neg (by simp [h1, h2, h3]), fun anew => ⟨?_, withheld_mem_storeDesk e.1 s anew⟩⟩
    rw [if_pos anew]
    rfl

end Sys2Proof.Machine

/-!
SUPPORT. Numbers, sets and entries as bytes, and the same read back from their bytes (R177, R186, R187).
-/

namespace Sys2Proof.Machine

/-! ## A set as a number -/

theorem bitsNat_lt (l : List Bool) : bitsNat l < 2 ^ l.length := by
  induction l with
  | nil => decide
  | cons b l ih =>
    rw [bitsNat, List.length_cons, pow_succ]
    cases b <;> simp <;> omega

theorem testBit_bitsNat (l : List Bool) (i : Nat) : (bitsNat l).testBit i = l[i]?.getD false := by
  induction l generalizing i with
  | nil => simp [bitsNat]
  | cons b l ih =>
    have half : ((if b then 1 else 0) + 2 * bitsNat l) / 2 = bitsNat l := by
      cases b
      · simp
      · simp; omega
    cases i with
    | zero => cases b <;> simp [bitsNat, Nat.testBit_zero, Nat.add_mod]
    | succ i => rw [bitsNat, Nat.testBit_succ, half, ih]; rfl

theorem flagsNat_lt {n : Nat} (f : Flags n) : flagsNat f < 2 ^ n := by
  have bound := bitsNat_lt f.cells
  rwa [f.size] at bound

theorem testBit_flagsNat {n : Nat} (f : Flags n) (i : Fin n) : (flagsNat f).testBit i.val = f.get i := by
  have bound : i.val < f.cells.length := f.size.symm ▸ i.isLt
  rw [flagsNat, testBit_bitsNat, List.getElem?_eq_getElem bound]
  rfl

/-- The set that the number of a set carries is that set. -/
theorem natFlags_flagsNat {n : Nat} (f : Flags n) : natFlags n (flagsNat f) = f :=
  Tab.ext_get fun i => by rw [natFlags, Tab.get_make, testBit_flagsNat]

/-! ## Reading bytes -/

theorem byteAt_lt (b : List Byte) (i : Nat) : byteAt b i < 256 := (b[i]?.getD 0).isLt

theorem wordAt_lt (b : List Byte) (i : Nat) : wordAt b i < 65536 := by
  have low := byteAt_lt b i
  have high := byteAt_lt b (i + 1)
  unfold wordAt
  omega

theorem byteAt_drop (b : List Byte) (k i : Nat) : byteAt (b.drop k) i = byteAt b (k + i) := by
  rw [byteAt, byteAt, List.getElem?_drop]

theorem wordAt_drop (b : List Byte) (k i : Nat) : wordAt (b.drop k) i = byteAt b (k + i) + 256 * byteAt b (k + i + 1) := by
  rw [wordAt, byteAt_drop, byteAt_drop, Nat.add_assoc]

@[simp] theorem byteAt_nil (i : Nat) : byteAt [] i = 0 := rfl

@[simp] theorem byteAt_cons_zero (x : Byte) (b : List Byte) : byteAt (x :: b) 0 = x.toNat := rfl

@[simp] theorem byteAt_cons_succ (x : Byte) (b : List Byte) (i : Nat) : byteAt (x :: b) (i + 1) = byteAt b i := rfl

theorem byteAt_append_left (a b : List Byte) (i : Nat) (h : i < a.length) : byteAt (a ++ b) i = byteAt a i := by
  rw [byteAt, byteAt, List.getElem?_append_left h]

theorem byteAt_append_right (a b : List Byte) (i : Nat) : byteAt (a ++ b) (a.length + i) = byteAt b i := by
  rw [byteAt, byteAt, List.getElem?_append_right (Nat.le_add_right _ _), Nat.add_sub_cancel_left]

/-- A list filled with zeros reads as the list, up to the length it is cut at. -/
theorem byteAt_padTo (n : Nat) (b : List Byte) (i : Nat) (h : i < n) : byteAt (padTo n b) i = byteAt b i := by
  unfold padTo
  by_cases inside : i < b.length
  · rw [byteAt_append_left _ _ _ (by rw [List.length_take]; omega), byteAt, byteAt, List.getElem?_take_of_lt h]
  · have past : byteAt b i = 0 := by rw [byteAt, List.getElem?_eq_none (by omega)]; rfl
    rw [past, byteAt, List.getElem?_append_right (by rw [List.length_take]; omega), List.getElem?_replicate]
    split <;> rfl

theorem length_padTo (n : Nat) (b : List Byte) : (padTo n b).length = n := by
  rw [padTo, List.length_append, List.length_take, List.length_replicate]
  omega

/-! ## The numbers of an entry -/

/-- The fields of a desk record as they are written. -/
def deskRaw (e : DeskRecord) : RawDesk where
  prefixKey := e.prefixKey
  tapCount := e.tapCount
  tapWindow := e.tapWindow
  sequenceTimeout := e.sequenceTimeout
  holdThreshold := e.holdThreshold
  glideGain := e.glideGain
  crossingResistance := e.crossingResistance
  pressureHold := e.pressureHold
  broadcastMask := flagsNat e.broadcastMask
  routeHoldLimit := e.routeHoldLimit
  startLayout := e.startLayout.val + 1
  dimFloor := e.dimFloor
  unfocusedLevel := e.unfocusedLevel
  rampRate := e.rampRate
  screenSleepDelay := e.screenSleepDelay
  wakeTimeout := e.wakeTimeout
  wakeRetries := e.wakeRetries
  recoveryTime := e.recoveryTime
  deskWakeWakes := if e.deskWakeWakes then 1 else 0
  noticePacing := e.noticePacing

theorem clampNat_bounds (lo hi n : Nat) (h : lo ≤ hi) : lo ≤ clampNat lo hi n ∧ clampNat lo hi n ≤ hi := by
  rw [clampNat_eq lo hi n h]
  omega

theorem clampPacing_idem (n : Nat) : clampPacing (clampPacing n) = clampPacing n := by
  have bounds := clampNat_bounds 10 2550 n (by decide)
  unfold clampPacing
  split
  · rfl
  · rw [if_neg (by omega), clampNat_of_inside _ _ _ bounds]

theorem clampPacing_le (n : Nat) : clampPacing n ≤ 2550 := by
  unfold clampPacing
  split
  · decide
  · exact (clampNat_bounds 10 2550 n (by decide)).2

/-! ## The numbers in a payload, read back -/

section
variable (n : Nat) (b : List Byte) (i : Nat)

@[simp] theorem byteAt_num1 : byteAt (num1 n) 0 = n % 256 := BitVec.toNat_ofNat n 8

@[simp] theorem byteAt_num1_append : byteAt (num1 n ++ b) 0 = n % 256 := BitVec.toNat_ofNat n 8

@[simp] theorem byteAt_num1_succ : byteAt (num1 n ++ b) (i + 1) = byteAt b i := rfl

@[simp] theorem byteAt_num2_succ : byteAt (num2 n ++ b) (i + 2) = byteAt b i := rfl

@[simp] theorem wordAt_num1_succ : wordAt (num1 n ++ b) (i + 1) = wordAt b i := rfl

@[simp] theorem wordAt_num2_succ : wordAt (num2 n ++ b) (i + 2) = wordAt b i := rfl

@[simp] theorem wordAt_num2_append : wordAt (num2 n ++ b) 0 = n % 65536 := by
  have bytes : wordAt (num2 n ++ b) 0 = (BitVec.ofNat 8 n).toNat + 256 * (BitVec.ofNat 8 (n / 256)).toNat := rfl
  rw [bytes, BitVec.toNat_ofNat, BitVec.toNat_ofNat]
  omega

@[simp] theorem wordAt_num2 : wordAt (num2 n) 0 = n % 65536 := by
  rw [← List.append_nil (num2 n), wordAt_num2_append]

end

end Sys2Proof.Machine

/-!
PROOFS. The entries of the six tables survive their bytes (R177, R186, R187).
-/

namespace Sys2Proof.Machine

theorem flagNum_lt (b : Bool) : (if b then 1 else 0) < 256 := by cases b <;> decide

theorem memberNum_lt {k : Nat} (i : Fin k) (small : k < 256 := by decide) : i.val + 1 < 256 := by omega

/-! ## The desk record -/

/-- The numbers of a desk record fit the bytes that carry them. -/
structure DeskFits (e : DeskRecord) : Prop where
  prefixKey : e.prefixKey < 256
  tapCount : e.tapCount < 256
  tapWindow : e.tapWindow < 65536
  sequenceTimeout : e.sequenceTimeout < 65536
  holdThreshold : e.holdThreshold < 65536
  glideGain : e.glideGain < 65536
  crossingResistance : e.crossingResistance < 65536
  pressureHold : e.pressureHold < 65536
  routeHoldLimit : e.routeHoldLimit < 65536
  dimFloor : e.dimFloor < 256
  unfocusedLevel : e.unfocusedLevel < 256
  rampRate : e.rampRate < 256
  screenSleepDelay : e.screenSleepDelay < 256
  wakeTimeout : e.wakeTimeout < 65536
  wakeRetries : e.wakeRetries < 256
  recoveryTime : e.recoveryTime < 256
  noticePacing : e.noticePacing < 65536

/-- The bytes of a desk record, field after field. -/
theorem deskBytes_eq (e : DeskRecord) : deskBytes e =
    num1 e.prefixKey ++ (num1 e.tapCount ++ (num2 e.tapWindow ++ (num2 e.sequenceTimeout ++ (num2 e.holdThreshold
    ++ (num2 e.glideGain ++ (num2 e.crossingResistance ++ (num2 e.pressureHold ++ (num1 (flagsNat e.broadcastMask)
    ++ (num2 e.routeHoldLimit ++ (numberByte e.startLayout ++ (num1 e.dimFloor ++ (num1 e.unfocusedLevel ++ (num1 e.rampRate
    ++ (num1 e.screenSleepDelay ++ (num2 e.wakeTimeout ++ (num1 e.wakeRetries ++ (num1 e.recoveryTime
    ++ (flagByte e.deskWakeWakes ++ num2 e.noticePacing)))))))))))))))))) := by
  delta deskBytes
  simp only [List.append_assoc]

theorem readRawDesk_deskBytes (e : DeskRecord) (fits : DeskFits e) : readRawDesk (deskBytes e) = deskRaw e := by
  obtain ⟨h1, h2, h3, h4, h5, h6, h7, h8, h9, h10, h11, h12, h13, h14, h15, h16, h17⟩ := fits
  have mask : flagsNat e.broadcastMask < 256 := (flagsNat_lt _).trans (by decide)
  have layout := memberNum_lt e.startLayout
  have wakes := flagNum_lt e.deskWakeWakes
  simp only [deskBytes_eq, numberByte, flagByte, readRawDesk, byteAt_num1_append, byteAt_num1_succ, byteAt_num2_succ, wordAt_num1_succ,
    wordAt_num2_succ, wordAt_num2_append, wordAt_num2, deskRaw, Nat.mod_eq_of_lt, *]

theorem clampNat_idem (lo hi n : Nat) (h : lo ≤ hi) : clampNat lo hi (clampNat lo hi n) = clampNat lo hi n :=
  clampNat_of_inside _ _ _ (clampNat_bounds lo hi n h)

theorem DeskFields.fits {w : RawDesk} {e : DeskRecord} (range : DeskInRange w) (f : DeskFields w e) : DeskFits e := by
  obtain ⟨h1, h2, h6, h7, -, -, -⟩ := range
  have le (lo hi n : Nat) (h : lo ≤ hi) : clampNat lo hi n ≤ hi := (clampNat_bounds lo hi n h).2
  constructor
  case prefixKey => rw [f.prefixKey]; exact lt_of_le_of_lt h1.2 (by decide)
  case tapCount => rw [f.tapCount]; omega
  case glideGain => rw [f.glideGain]; omega
  case crossingResistance => rw [f.crossingResistance]; omega
  case noticePacing => rw [f.noticePacing]; exact (clampPacing_le _).trans_lt (by decide)
  case tapWindow => rw [f.tapWindow]; exact (le _ _ _ (by decide)).trans_lt (by decide)
  case sequenceTimeout => rw [f.sequenceTimeout]; exact (le _ _ _ (by decide)).trans_lt (by decide)
  case holdThreshold => rw [f.holdThreshold]; exact (le _ _ _ (by decide)).trans_lt (by decide)
  case pressureHold => rw [f.pressureHold]; exact (le _ _ _ (by decide)).trans_lt (by decide)
  case routeHoldLimit => rw [f.routeHoldLimit]; exact (le _ _ _ (by decide)).trans_lt (by decide)
  case dimFloor => rw [f.dimFloor]; exact (le _ _ _ (by decide)).trans_lt (by decide)
  case unfocusedLevel => rw [f.unfocusedLevel]; exact (le _ _ _ (by decide)).trans_lt (by decide)
  case rampRate => rw [f.rampRate]; exact (le _ _ _ (by decide)).trans_lt (by decide)
  case screenSleepDelay => rw [f.screenSleepDelay]; exact (le _ _ _ (by decide)).trans_lt (by decide)
  case wakeTimeout => rw [f.wakeTimeout]; exact (le _ _ _ (by decide)).trans_lt (by decide)
  case wakeRetries => rw [f.wakeRetries]; exact (le _ _ _ (by decide)).trans_lt (by decide)
  case recoveryTime => rw [f.recoveryTime]; exact (le _ _ _ (by decide)).trans_lt (by decide)

/-- The fields of an accepted desk record are accepted as they are. -/
theorem DeskFields.again {w : RawDesk} {e : DeskRecord} (range : DeskInRange w) (f : DeskFields w e) : checkDesk (deskRaw e) = some (e, false) := by
  have fields : DeskFields (deskRaw e) e := by
    constructor
    case prefixKey | tapCount | glideGain | crossingResistance | startLayout | deskWakeWakes => rfl
    case broadcastMask => exact (natFlags_flagsNat _).symm
    case noticePacing => exact (by rw [f.noticePacing, clampPacing_idem] : e.noticePacing = clampPacing e.noticePacing)
    case tapWindow => exact (by rw [f.tapWindow, clampNat_idem _ _ _ (by decide)] : e.tapWindow = clampNat 100 1000 e.tapWindow)
    case sequenceTimeout =>
      exact (by rw [f.sequenceTimeout, clampNat_idem _ _ _ (by decide)] : e.sequenceTimeout = clampNat 500 5000 e.sequenceTimeout)
    case holdThreshold =>
      exact (by rw [f.holdThreshold, clampNat_idem _ _ _ (by decide)] : e.holdThreshold = clampNat 200 2000 e.holdThreshold)
    case pressureHold => exact (by rw [f.pressureHold, clampNat_idem _ _ _ (by decide)] : e.pressureHold = clampNat 50 2000 e.pressureHold)
    case routeHoldLimit =>
      exact (by rw [f.routeHoldLimit, clampNat_idem _ _ _ (by decide)] : e.routeHoldLimit = clampNat 100 5000 e.routeHoldLimit)
    case dimFloor => exact (by rw [f.dimFloor, clampNat_idem _ _ _ (by decide)] : e.dimFloor = clampNat 0 255 e.dimFloor)
    case unfocusedLevel => exact (by rw [f.unfocusedLevel, clampNat_idem _ _ _ (by decide)] : e.unfocusedLevel = clampNat 0 255 e.unfocusedLevel)
    case rampRate => exact (by rw [f.rampRate, clampNat_idem _ _ _ (by decide)] : e.rampRate = clampNat 1 255 e.rampRate)
    case screenSleepDelay => exact (by rw [f.screenSleepDelay, clampNat_idem _ _ _ (by decide)] : e.screenSleepDelay = clampNat 1 60 e.screenSleepDelay)
    case wakeTimeout => exact (by rw [f.wakeTimeout, clampNat_idem _ _ _ (by decide)] : e.wakeTimeout = clampNat 500 10000 e.wakeTimeout)
    case wakeRetries => exact (by rw [f.wakeRetries, clampNat_idem _ _ _ (by decide)] : e.wakeRetries = clampNat 0 3 e.wakeRetries)
    case recoveryTime => exact (by rw [f.recoveryTime, clampNat_idem _ _ _ (by decide)] : e.recoveryTime = clampNat 5 200 e.recoveryTime)
  obtain ⟨h1, h2, h6, h7, -, -, -⟩ := range
  have mask := flagsNat_lt e.broadcastMask
  refine (checkDesk_eq_some _ e false).mpr ⟨⟨?_, ?_, ?_, ?_, ?_, ?_, ?_⟩, fields, ?_⟩
  · rwa [← f.prefixKey] at h1
  · rwa [← f.tapCount] at h2
  · rwa [← f.glideGain] at h6
  · rwa [← f.crossingResistance] at h7
  · exact Nat.le_of_lt_succ mask
  · exact ⟨Nat.succ_pos _, e.startLayout.isLt⟩
  · exact Nat.le_of_lt_succ (by cases h : e.deskWakeWakes <;> simp [deskRaw, h])
  · simp [clampedFrom, deskRaw]

theorem checkDesk_bytes (w : RawDesk) (e : DeskRecord) (b : Bool) (h : checkDesk w = some (e, b)) :
    checkDesk (readRawDesk (deskBytes e)) = some (e, false) := by
  obtain ⟨range, fields, -⟩ := (checkDesk_eq_some w e b).mp h
  rw [readRawDesk_deskBytes e (fields.fits range), fields.again range]

/-! ## The other entries -/

theorem readBool_num (b : Bool) : readBool (if b then 1 else 0) = some b := (readBool_eq_some _ b).mpr rfl

theorem checkPort_bytes (w : RawPort) (e : PortEntry) (b : Bool) (h : checkPort w = some (e, b)) :
    checkPort (readRawPort (portBytes e)) = some (e, false) := by
  obtain ⟨-, -, -, -, polls, stall, -⟩ := (checkPort_eq_some w e b).mp h
  have settle : e.settlePolls ≤ 15 := by obtain ⟨⟨-, le⟩, same⟩ := (inRange_eq_some _ _ _ _).mp polls; omega
  have clamp := clampNat_bounds 100 5000 w.stallTimeout (by decide)
  rw [← stall] at clamp
  have read : readRawPort (portBytes e) = ⟨if e.enabled then 1 else 0, if e.managementAllowed then 1 else 0,
      if e.wakeOnGlide then 1 else 0, if e.wakeOnKey then 1 else 0, e.settlePolls, e.stallTimeout⟩ := by
    have polls : e.settlePolls < 256 := by omega
    have stall : e.stallTimeout < 65536 := by omega
    simp [portBytes, flagByte, readRawPort, Nat.mod_eq_of_lt, flagNum_lt, polls, stall]
  rw [read]
  exact (checkPort_eq_some _ e false).mpr ⟨readBool_num _, readBool_num _, readBool_num _, readBool_num _,
    (inRange_eq_some _ _ _ _).mpr ⟨⟨Nat.zero_le _, settle⟩, rfl⟩, (clampNat_of_inside _ _ _ clamp).symm, by simp⟩

theorem noneOrNum_le {k : Nat} (o : Option (Fin k)) : noneOrNum o ≤ k := by
  cases o with
  | none => exact Nat.zero_le k
  | some i => exact i.isLt

theorem noneOrByte_eq {k : Nat} (o : Option (Fin k)) : noneOrByte o = num1 (noneOrNum o) := by
  cases o <;> rfl

theorem checkSource_bytes (w : RawSource) (e : SourceEntry) (h : checkSource w = some e) :
    checkSource (readRawSource (sourceBytes e)) = some e := by
  obtain ⟨-, x0, y0, width, height, right, bottom, -⟩ := (checkSource_eq_some w e).mp h
  obtain ⟨⟨wide, -⟩, sameW⟩ := (inRange_eq_some _ _ _ _).mp width
  obtain ⟨⟨high, -⟩, sameH⟩ := (inRange_eq_some _ _ _ _).mp height
  have owner := noneOrNum_le e.owner
  have read : readRawSource (sourceBytes e) = ⟨noneOrNum e.owner, e.x0, e.y0, e.w, e.h, if e.priv then 1 else 0⟩ := by
    rw [sourceBytes, noneOrByte_eq]
    have owner : noneOrNum e.owner < 256 := by omega
    have words : e.x0 < 65536 ∧ e.y0 < 65536 ∧ e.w < 65536 ∧ e.h < 65536 := by omega
    simp [flagByte, readRawSource, Nat.mod_eq_of_lt, flagNum_lt, owner, words]
  have inside (lo hi n : Nat) (h : lo ≤ n ∧ n ≤ hi) : inRange lo hi n = some n := (inRange_eq_some _ _ _ _).mpr ⟨h, rfl⟩
  rw [read]
  exact (checkSource_eq_some _ e).mpr ⟨noneOrNumbered_noneOrNum _, inside 0 32767 e.x0 (by omega), inside 0 32767 e.y0 (by omega),
    inside 1 32768 e.w (by omega), inside 1 32768 e.h (by omega), right, bottom, readBool_num _⟩

theorem checkScreen_bytes (w : RawScreen) (e : ScreenEntry) (h : checkScreen w = some e) :
    checkScreen (readRawScreen (screenBytes e)) = some e := by
  obtain ⟨-, width, height, -, -, right, bottom, line, -, -⟩ := (checkScreen_eq_some w e).mp h
  obtain ⟨⟨wide, wide'⟩, sameW⟩ := (inRange_eq_some _ _ _ _).mp width
  obtain ⟨⟨high, high'⟩, sameH⟩ := (inRange_eq_some _ _ _ _).mp height
  obtain ⟨⟨-, low⟩, sameL⟩ := (inRange_eq_some _ _ _ _).mp line
  have mode : switchModeNum e.switchMode < 256 := by cases e.switchMode <;> decide
  have read : readRawScreen (screenBytes e) = ⟨if e.placed then 1 else 0, e.x, e.y, e.w, e.h, e.switchLine,
      switchModeNum e.switchMode, if e.fade then 1 else 0⟩ := by
    have words : e.x < 65536 ∧ e.y < 65536 ∧ e.w < 65536 ∧ e.h < 65536 ∧ e.switchLine < 65536 := by omega
    simp [screenBytes, flagByte, readRawScreen, Nat.mod_eq_of_lt, flagNum_lt, mode, words]
  have inside (lo hi n : Nat) (h : lo ≤ n ∧ n ≤ hi) : inRange lo hi n = some n := (inRange_eq_some _ _ _ _).mpr ⟨h, rfl⟩
  rw [read]
  exact (checkScreen_eq_some _ e).mpr ⟨readBool_num _, inside 64 65535 e.w (by omega), inside 64 65535 e.h (by omega), rfl, rfl, right,
    bottom, inside 0 4095 e.switchLine (by omega), (readSwitchMode_eq_some _ _).mpr rfl, readBool_num _⟩

end Sys2Proof.Machine

/-!
PROOFS. Layout and hotkey entries survive their bytes; the commands that frames are; replies and notice reports byte by byte (R127,
R174, R177, R186, R187).
-/

namespace Sys2Proof.Machine

/-! ## A table of numbers as bytes -/

section
variable {n : Nat} {α : Type} (t : Tab n α) (f : α → Nat) (b : List Byte)

theorem byteAt_cells (i : Fin n) : byteAt (t.cells.flatMap (fun x => num1 (f x)) ++ b) i.val = f (t.get i) % 256 := by
  have bound : i.val < t.cells.length := t.size.symm ▸ i.isLt
  have bytes : t.cells.flatMap (fun x => num1 (f x)) = t.cells.map (fun x => BitVec.ofNat 8 (f x)) := List.map_eq_flatMap.symm
  rw [bytes, byteAt_append_left _ _ _ (by rwa [List.length_map]), byteAt, List.getElem?_eq_getElem (by rwa [List.length_map]),
    List.getElem_map]
  exact BitVec.toNat_ofNat _ _

theorem byteAt_past_cells (i : Nat) : byteAt (t.cells.flatMap (fun x => num1 (f x)) ++ b) (n + i) = byteAt b i := by
  have length : (t.cells.flatMap (fun x => num1 (f x))).length = n := by simp [num1, t.size]
  have past := byteAt_append_right (t.cells.flatMap (fun x => num1 (f x))) b i
  rwa [length] at past

end

/-! ## Layout and hotkey entries -/

theorem routeFieldNum_le (f : RouteField) : routeFieldNum f ≤ 17 := by
  rcases f with _ | _ | v
  · decide
  · decide
  · simp only [routeFieldNum]; omega

theorem focusFieldNum_le (f : FocusField) : focusFieldNum f ≤ 7 := by
  cases f with
  | keep => decide
  | follow => decide
  | computer c => simp only [focusFieldNum]; omega

/-- A layout entry has no number out of range. -/
theorem checkLayout_bytes (e : LayoutEntry) : checkLayout (readRawLayout (layoutBytes e)) = some e := by
  refine (checkLayout_eq_some _ e).mpr ⟨fun sc => ?_, ?_⟩
  · have small := routeFieldNum_le (e.routes.get sc)
    rw [readRawLayout, Tab.get_make, layoutBytes, byteAt_cells, Nat.mod_eq_of_lt (by omega)]
    exact (readRouteField_eq_some _ _).mpr rfl
  · have small := focusFieldNum_le e.focus
    have last : byteAt (layoutBytes e) (8 + 0) = focusFieldNum e.focus := by
      rw [layoutBytes, byteAt_past_cells, byteAt_num1, Nat.mod_eq_of_lt (by omega)]
    exact (congrArg readFocusField last).trans ((readFocusField_eq_some _ _).mpr rfl)

theorem actionRaw_small (a : Action) : (actionRaw a).kind < 256 ∧ (actionRaw a).arg1 < 256 ∧ (actionRaw a).arg2 < 256 := by
  have optional {k : Nat} (o : Option (Fin k)) (small : k < 256) : noneOrNum o < 256 := (noneOrNum_le o).trans_lt small
  have none : 0 < 256 := by decide
  have kind : (actionRaw a).kind < 256 := by cases a <;> simp [actionRaw]
  refine ⟨kind, ?_⟩
  cases a with
  | focusNext | focusPrevious | wakeAll | lock | broadcast | dimOverride | deskSleep => exact ⟨none, none⟩
  | focus c | layout c | shareOff c => exact ⟨memberNum_lt c, none⟩
  | route sc v => exact ⟨optional sc (by decide), optional v (by decide)⟩
  | share o sc | peek o sc => exact ⟨memberNum_lt o, optional sc (by decide)⟩
  | wake c => exact ⟨optional c (by decide), none⟩

section
variable (a : Action) (b : List Byte)

@[simp] theorem byteAt_action_kind : byteAt (actionBytes a ++ b) 0 = (actionRaw a).kind := by
  simp [actionBytes, Nat.mod_eq_of_lt (actionRaw_small a).1]

@[simp] theorem byteAt_action_arg1 : byteAt (actionBytes a ++ b) 1 = (actionRaw a).arg1 := by
  simp [actionBytes, Nat.mod_eq_of_lt (actionRaw_small a).2.1]

@[simp] theorem byteAt_action_arg2 : byteAt (actionBytes a ++ b) 2 = (actionRaw a).arg2 := by
  simp [actionBytes, Nat.mod_eq_of_lt (actionRaw_small a).2.2]

@[simp] theorem byteAt_action_succ (i : Nat) : byteAt (actionBytes a ++ b) (i + 3) = byteAt b i := rfl

end

section
variable (e : HotkeyEntry)

theorem hotkeyBytes_conditions (i : Fin 4) : byteAt (hotkeyBytes e) (3 + i.val) = conditionNum (e.conditions.get i) := by
  have small : conditionNum (e.conditions.get i) < 256 := by cases e.conditions.get i <;> decide
  rw [hotkeyBytes, flagByte, Nat.add_comm]
  simp only [List.append_assoc, byteAt_num1_succ]
  rw [byteAt_cells, Nat.mod_eq_of_lt small]

theorem hotkeyBytes_actions (i : Nat) : byteAt (hotkeyBytes e) (7 + i) = byteAt (actionBytes e.tap ++ optionalBytes actionBytes e.hold) i := by
  rw [hotkeyBytes, flagByte, show 7 + i = (4 + i) + 3 by omega]
  simp only [List.append_assoc, byteAt_num1_succ]
  rw [byteAt_past_cells]

theorem readRawHotkey_tap : (readRawHotkey (hotkeyBytes e)).tap = actionRaw e.tap := by
  have kind : byteAt (hotkeyBytes e) 7 = (actionRaw e.tap).kind := (hotkeyBytes_actions e 0).trans (byteAt_action_kind _ _)
  have arg1 : byteAt (hotkeyBytes e) 8 = (actionRaw e.tap).arg1 := (hotkeyBytes_actions e 1).trans (byteAt_action_arg1 _ _)
  have arg2 : byteAt (hotkeyBytes e) 9 = (actionRaw e.tap).arg2 := (hotkeyBytes_actions e 2).trans (byteAt_action_arg2 _ _)
  rw [readRawHotkey, kind, arg1, arg2]

/-- The hold action of an entry, absent or of an allowed kind, is read back. -/
theorem checkHold_bytes (allowed : ∀ a, e.hold = some a → holdAllowed a = true) :
    checkHold (readRawHotkey (hotkeyBytes e)) = some e.hold := by
  have past (i : Nat) : byteAt (hotkeyBytes e) (7 + (i + 3)) = byteAt (optionalBytes actionBytes e.hold) i := by
    rw [hotkeyBytes_actions, byteAt_action_succ]
  refine (checkHold_eq_some _ _).mpr ?_
  cases hold : e.hold with
  | none => exact .inl ⟨(past 0).trans (by rw [hold]; rfl), rfl⟩
  | some a =>
    have byte (i : Nat) : byteAt (hotkeyBytes e) (7 + (i + 1 + 3)) = byteAt (actionBytes a ++ []) i := by
      rw [past, hold, List.append_nil]; rfl
    have kind : byteAt (hotkeyBytes e) 11 = (actionRaw a).kind := (byte 0).trans (byteAt_action_kind _ _)
    have arg1 : byteAt (hotkeyBytes e) 12 = (actionRaw a).arg1 := (byte 1).trans (byteAt_action_arg1 _ _)
    have arg2 : byteAt (hotkeyBytes e) 13 = (actionRaw a).arg2 := (byte 2).trans (byteAt_action_arg2 _ _)
    refine .inr ⟨(past 0).trans (by rw [hold]; rfl), a, (checkAction_eq_some _ _).mpr ?_, allowed a hold, rfl⟩
    rw [readRawHotkey, kind, arg1, arg2]

end

theorem checkHotkey_bytes (w : RawHotkey) (e : HotkeyEntry) (h : checkHotkey w = some e) :
    checkHotkey (readRawHotkey (hotkeyBytes e)) = some e := by
  obtain ⟨-, -, key, -, -, hold⟩ := (checkHotkey_eq_some w e).mp h
  obtain ⟨⟨low, high⟩, same⟩ := (inRange_eq_some _ _ _ _).mp key
  have allowed (a : Action) (ha : e.hold = some a) : holdAllowed a = true := by
    rcases (checkHold_eq_some _ _).mp hold with ⟨-, none⟩ | ⟨-, b, -, ok, some⟩
    · cases ha.symm.trans none
    · cases ha.symm.trans some
      exact ok
  have first : byteAt (hotkeyBytes e) 0 = if e.valid then 1 else 0 := by
    simp [hotkeyBytes, flagByte, Nat.mod_eq_of_lt (flagNum_lt _)]
  have second : byteAt (hotkeyBytes e) 1 = pathNum e.path := by
    have small : pathNum e.path < 256 := by cases e.path <;> decide
    simp [hotkeyBytes, flagByte, Nat.mod_eq_of_lt small]
  have third : byteAt (hotkeyBytes e) 2 = e.key := by
    have small : e.key < 256 := by rw [← same]; exact lt_of_le_of_lt high (by decide)
    simp [hotkeyBytes, flagByte, Nat.mod_eq_of_lt small]
  refine (checkHotkey_eq_some _ e).mpr ⟨?_, ?_, ?_, fun i => ?_, ?_, checkHold_bytes e allowed⟩
  · exact (congrArg readBool first).trans (readBool_num _)
  · exact (congrArg readPath second).trans ((readPath_eq_some _ _).mpr rfl)
  · exact (congrArg (inRange 4 221) third).trans ((inRange_eq_some _ _ _ _).mpr ⟨same ▸ ⟨low, high⟩, rfl⟩)
  · rw [readRawHotkey, Tab.get_make, hotkeyBytes_conditions]
    exact (readCondition_eq_some _ _).mpr rfl
  · rw [readRawHotkey_tap]
    exact (checkAction_eq_some _ _).mpr rfl

end Sys2Proof.Machine

/-!
PROOFS. The commands that frames are, replies and notice reports byte by byte, and the entries' fields and conflicts (R16, R17, R39,
R117, R127, R174, R186, R187).
-/

namespace Sys2Proof.Machine

/-! ## The command that a frame is -/

/-- The request that a frame from a port carries. -/
def frameRequest (p : Port) (b : List Byte) : Request :=
  { port := p, tag := byteAt b 2, arg1 := byteAt b 5, arg2 := byteAt b 6, arg3 := byteAt b 7 }

theorem frameRequest_wf (p : Port) (b : List Byte) : (frameRequest p b).wf = true := by
  simp [frameRequest, Request.wf, oneByte, byteAt_lt]

section
variable (b : List Byte)

theorem readRawDesk_wf : (readRawDesk b).wf = true := by simp [readRawDesk, RawDesk.wf, oneByte, twoBytes, byteAt_lt, wordAt_lt]

theorem readRawPort_wf : (readRawPort b).wf = true := by simp [readRawPort, RawPort.wf, oneByte, twoBytes, byteAt_lt, wordAt_lt]

theorem readRawSource_wf : (readRawSource b).wf = true := by simp [readRawSource, RawSource.wf, oneByte, twoBytes, byteAt_lt, wordAt_lt]

theorem readRawScreen_wf : (readRawScreen b).wf = true := by simp [readRawScreen, RawScreen.wf, oneByte, twoBytes, byteAt_lt, wordAt_lt]

theorem readRawLayout_wf : (readRawLayout b).wf = true := by simp [readRawLayout, RawLayout.wf, oneByte, Tab.make, byteAt_lt]

theorem readRawHotkey_wf : (readRawHotkey b).wf = true := by
  simp [readRawHotkey, RawHotkey.wf, RawAction.wf, oneByte, Tab.make, byteAt_lt]

end

/-- Every command that a frame is, is well-formed. -/
theorem frameCommand_wf (p : Port) (b : List Byte) : (frameCommand p b).wf = true := by
  have request := frameRequest_wf p b
  have bad : (Instr.badReq (frameRequest p b) (byteAt b 1)).wf = true := by simp [Instr.wf, request, oneByte, byteAt_lt]
  rw [frameRequest] at request bad
  unfold frameCommand
  dsimp only
  (repeat' split) <;>
    simp_all [Instr.wf, Request.names, readRawDesk_wf, readRawPort_wf, readRawSource_wf, readRawScreen_wf, readRawLayout_wf, readRawHotkey_wf]
  all_goals omega

/-! ## Replies and notice reports -/

section
variable (kind : Nat) (q : Request) (r : Reply)

theorem length_replyFrame : (replyFrame kind q r).length = 64 := by
  simp [replyFrame, num1, length_padTo]

theorem byteAt_replyFrame_payload (i : Fin 56) : byteAt (replyFrame kind q r) (8 + i.val) = byteAt r.payload i.val := by
  rw [replyFrame, Nat.add_comm 8]
  simp only [List.append_assoc, byteAt_num1_succ]
  exact byteAt_padTo 56 _ _ i.isLt

end

section
variable (n : NoticeSet)

theorem length_noticeFrame : (noticeFrame n).length = 64 := by simp [noticeFrame, num1, length_padTo]

theorem byteAt_noticeFrame (i : Nat) (h : i < 56) : byteAt (noticeFrame n) (8 + i) = byteAt (num2 (flagsNat n)) i := by
  exact (byteAt_append_right (num1 3 ++ List.replicate 7 0) (padTo 56 (num2 (flagsNat n))) i).trans (byteAt_padTo 56 _ i h)

theorem byteAt_num2_past (k i : Nat) (h : 2 ≤ i) : byteAt (num2 k) i = 0 := by
  obtain ⟨j, rfl⟩ := Nat.exists_eq_add_of_le' h
  rfl

theorem noticeFrame_word : byteAt (noticeFrame n) 8 + 256 * byteAt (noticeFrame n) 9 = flagsNat n := by
  have small : flagsNat n < 65536 := flagsNat_lt n
  have low : byteAt (noticeFrame n) 8 = byteAt (num2 (flagsNat n)) 0 := byteAt_noticeFrame n 0 (by decide)
  have high : byteAt (noticeFrame n) 9 = byteAt (num2 (flagsNat n)) 1 := byteAt_noticeFrame n 1 (by decide)
  rw [low, high]
  exact (wordAt_num2 _).trans (Nat.mod_eq_of_lt small)

theorem noticeFrame_zero_before (i : Nat) (h1 : 1 ≤ i) (h7 : i ≤ 7) : byteAt (noticeFrame n) i = 0 := by
  obtain ⟨j, rfl⟩ := Nat.exists_eq_add_of_le' h1
  rw [noticeFrame, List.append_assoc, byteAt_num1_succ, byteAt_append_left _ _ _ (by rw [List.length_replicate]; omega), byteAt,
    List.getElem?_replicate, if_pos (by omega)]
  rfl

theorem noticeFrame_zero_after (i : Nat) (h : 10 ≤ i) : byteAt (noticeFrame n) i = 0 := by
  obtain ⟨j, rfl⟩ := Nat.exists_eq_add_of_le (show 8 ≤ i by omega)
  by_cases inside : j < 56
  · rw [byteAt_noticeFrame n j inside, byteAt_num2_past _ _ (by omega)]
  · rw [byteAt, List.getElem?_eq_none (by rw [length_noticeFrame]; omega)]
    rfl

end

/-! ## Fields and conflicts -/

theorem screenConflict_iff (t : Tables) (sc : Screen) (e : ScreenEntry) : screenConflict t sc e = true ↔
    (e.placed = true ∧ ∃ d : Screen, d ≠ sc ∧ (t.screens.get d).placed = true
      ∧ e.x < (t.screens.get d).x + (t.screens.get d).w ∧ (t.screens.get d).x < e.x + e.w
      ∧ e.y < (t.screens.get d).y + (t.screens.get d).h ∧ (t.screens.get d).y < e.y + e.h)
    ∨ (e.placed = false ∧ ∀ d : Screen, d ≠ sc → (t.screens.get d).placed = false) := by
  unfold screenConflict
  cases e.placed
  · simp [allScreens]
  · simp [allScreens, overlap, and_assoc]

theorem routeFieldNum_keep (f : RouteField) : f = .keep ↔ routeFieldNum f = 0 := by
  rcases f with _ | _ | v <;> simp [routeFieldNum]

theorem routeFieldNum_none (f : RouteField) : f = .to none ↔ routeFieldNum f = 1 := by
  rcases f with _ | _ | v <;> simp [routeFieldNum]

theorem routeFieldNum_source (f : RouteField) (v : Source) : f = .to (some v) ↔ routeFieldNum f = v.val + 2 := by
  rcases f with _ | _ | u
  · simp [routeFieldNum]
  · simp [routeFieldNum]
  · simp [routeFieldNum, Fin.ext_iff (b := v)]

theorem focusFieldNum_keep (f : FocusField) : f = .keep ↔ focusFieldNum f = 0 := by
  cases f <;> simp [focusFieldNum]

theorem focusFieldNum_follow (f : FocusField) : f = .follow ↔ focusFieldNum f = 1 := by
  cases f <;> simp [focusFieldNum]

theorem focusFieldNum_computer (f : FocusField) (c : Computer) : f = .computer c ↔ focusFieldNum f = c.val + 2 := by
  cases f with
  | keep | follow => simp [focusFieldNum]
  | computer d => simp [focusFieldNum, Fin.ext_iff (b := c)]

theorem flagNum_one (b : Bool) : b = true ↔ (if b then 1 else 0) = 1 := by cases b <;> simp

/-- The fields of a screen entry are those written (R39, R117). -/
theorem checkScreen_fields (w : RawScreen) (e : ScreenEntry) (h : checkScreen w = some e) :
    (e.placed = true ↔ w.placed = 1) ∧ e.x = w.x ∧ e.y = w.y ∧ e.w = w.w ∧ e.h = w.h ∧ e.switchLine = w.switchLine
    ∧ (e.switchMode = .frame ↔ w.switchMode = 0) ∧ (e.fade = true ↔ w.fade = 1) := by
  obtain ⟨placed, width, height, x, y, -, -, line, mode, fade⟩ := (checkScreen_eq_some w e).mp h
  rw [readBool_eq_some] at placed fade
  rw [readSwitchMode_eq_some] at mode
  refine ⟨?_, x.symm, y.symm, inRange_value width, inRange_value height, inRange_value line, ?_, ?_⟩
  · rw [placed]; exact flagNum_one _
  · rw [mode]; cases e.switchMode <;> simp [switchModeNum]
  · rw [fade]; exact flagNum_one _

/-- The fields of a layout entry are those written (R127). -/
theorem checkLayout_fields (w : RawLayout) (e : LayoutEntry) (h : checkLayout w = some e) :
    (∀ sc : Screen, (e.routes.get sc = .keep ↔ w.routes.get sc = 0) ∧ (e.routes.get sc = .to none ↔ w.routes.get sc = 1)
      ∧ ∀ v : Source, e.routes.get sc = .to (some v) ↔ w.routes.get sc = v.val + 2)
    ∧ (e.focus = .keep ↔ w.focus = 0) ∧ (e.focus = .follow ↔ w.focus = 1)
    ∧ ∀ c : Computer, e.focus = .computer c ↔ w.focus = c.val + 2 := by
  obtain ⟨routes, focus⟩ := (checkLayout_eq_some w e).mp h
  simp only [readRouteField_eq_some, readFocusField_eq_some] at routes focus
  rw [focus]
  refine ⟨fun sc => ?_, focusFieldNum_keep _, focusFieldNum_follow _, focusFieldNum_computer _⟩
  rw [routes sc]
  exact ⟨routeFieldNum_keep _, routeFieldNum_none _, routeFieldNum_source _⟩

/-- The fields of a hotkey entry are those written (R16). -/
theorem checkHotkey_fields (w : RawHotkey) (e : HotkeyEntry) (h : checkHotkey w = some e) :
    (e.valid = true ↔ w.valid = 1) ∧ (e.path = .prefixed ↔ w.path = 0) ∧ e.key = w.key
    ∧ (∀ i : Fin 4, (e.conditions.get i = .any ↔ w.conditions.get i = 0) ∧ (e.conditions.get i = .held ↔ w.conditions.get i = 1))
    ∧ checkAction w.tap = some e.tap ∧ (w.holdPresent = 0 → e.hold = none)
    ∧ (w.holdPresent = 1 → e.hold = checkAction w.hold) := by
  obtain ⟨valid, path, key, conditions, tap, hold⟩ := (checkHotkey_eq_some w e).mp h
  simp only [readBool_eq_some, readPath_eq_some, readCondition_eq_some] at valid path conditions
  rw [checkHold_eq_some] at hold
  refine ⟨?_, ?_, inRange_value key, fun i => ?_, tap, fun absent => ?_, fun present => ?_⟩
  · rw [valid]; exact flagNum_one _
  · rw [path]; cases e.path <;> simp [pathNum]
  · rw [conditions i]; cases e.conditions.get i <;> simp [conditionNum]
  · rcases hold with ⟨-, none⟩ | ⟨present, -⟩
    · exact none
    · rw [absent] at present; cases present
  · rcases hold with ⟨absent, -⟩ | ⟨-, a, ha, -, some⟩
    · rw [present] at absent; cases absent
    · rw [some, ha]

theorem checkAction_iff (r : RawAction) (a : Action) : checkAction r = some a ↔
    match a with
    | .focus c => r = ⟨0, c.val + 1, 0⟩
    | .focusNext => r = ⟨1, 0, 0⟩
    | .focusPrevious => r = ⟨2, 0, 0⟩
    | .layout l => r = ⟨3, l.val + 1, 0⟩
    | .route sc v => r = ⟨4, (sc.map (·.val + 1)).getD 0, (v.map (·.val + 1)).getD 0⟩
    | .share o sc => r = ⟨5, o.val + 1, (sc.map (·.val + 1)).getD 0⟩
    | .shareOff o => r = ⟨6, o.val + 1, 0⟩
    | .peek v sc => r = ⟨7, v.val + 1, (sc.map (·.val + 1)).getD 0⟩
    | .wake c => r = ⟨8, (c.map (·.val + 1)).getD 0, 0⟩
    | .wakeAll => r = ⟨9, 0, 0⟩
    | .lock => r = ⟨10, 0, 0⟩
    | .broadcast => r = ⟨11, 0, 0⟩
    | .dimOverride => r = ⟨12, 0, 0⟩
    | .deskSleep => r = ⟨13, 0, 0⟩ := by
  rw [checkAction_eq_some]
  cases a <;> simp only [actionRaw, noneOrNum_eq]

theorem entriesConflict_iff_conditions (a b : HotkeyEntry) : entriesConflict a b = true ↔
    a.valid = true ∧ b.valid = true ∧ a.path = b.path ∧ a.key = b.key
    ∧ ∀ i : Fin 4, ¬(a.conditions.get i = .held ∧ b.conditions.get i = .notHeld)
      ∧ ¬(a.conditions.get i = .notHeld ∧ b.conditions.get i = .held) := by
  simp only [entriesConflict_iff, compatible_iff]

/-! ## The command of a frame by its kind -/

section
variable (p : Port) (b : List Byte)

/-- The fields of a desk record in a Write Entry frame. -/
theorem readRawDesk_frame :
    let word (i : Nat) : Nat := byteAt b i + 256 * byteAt b (i + 1)
    readRawDesk (b.drop 8) =
      { prefixKey := byteAt b 8, tapCount := byteAt b 9, tapWindow := word 10, sequenceTimeout := word 12
        holdThreshold := word 14, glideGain := word 16, crossingResistance := word 18, pressureHold := word 20
        broadcastMask := byteAt b 22, routeHoldLimit := word 23, startLayout := byteAt b 25, dimFloor := byteAt b 26
        unfocusedLevel := byteAt b 27, rampRate := byteAt b 28, screenSleepDelay := byteAt b 29, wakeTimeout := word 30
        wakeRetries := byteAt b 32, recoveryTime := byteAt b 33, deskWakeWakes := byteAt b 34, noticePacing := word 35 } := by
  simp only [readRawDesk, byteAt_drop, wordAt_drop, Nat.reduceAdd]

theorem readRawPort_frame : readRawPort (b.drop 8) =
    { enabled := byteAt b 8, managementAllowed := byteAt b 9, wakeOnGlide := byteAt b 10, wakeOnKey := byteAt b 11
      settlePolls := byteAt b 12, stallTimeout := byteAt b 13 + 256 * byteAt b (13 + 1) } := by
  simp only [readRawPort, byteAt_drop, wordAt_drop, Nat.reduceAdd]

theorem readRawSource_frame :
    let word (i : Nat) : Nat := byteAt b i + 256 * byteAt b (i + 1)
    readRawSource (b.drop 8) =
      { owner := byteAt b 8, x0 := word 9, y0 := word 11, w := word 13, h := word 15, priv := byteAt b 17 } := by
  simp only [readRawSource, byteAt_drop, wordAt_drop, Nat.reduceAdd]

theorem readRawScreen_frame :
    let word (i : Nat) : Nat := byteAt b i + 256 * byteAt b (i + 1)
    readRawScreen (b.drop 8) =
      { placed := byteAt b 8, x := word 9, y := word 11, w := word 13, h := word 15, switchLine := word 17
        switchMode := byteAt b 19, fade := byteAt b 20 } := by
  simp only [readRawScreen, byteAt_drop, wordAt_drop, Nat.reduceAdd]

theorem readRawLayout_frame : readRawLayout (b.drop 8) =
    { routes := Tab.make (fun sc : Screen => byteAt b (8 + sc.val)), focus := byteAt b 16 } := by
  simp only [readRawLayout, byteAt_drop, Nat.reduceAdd]

theorem readRawHotkey_frame : readRawHotkey (b.drop 8) =
    { valid := byteAt b 8, path := byteAt b 9, key := byteAt b 10
      conditions := Tab.make (fun i : Fin 4 => byteAt b (11 + i.val))
      tap := ⟨byteAt b 15, byteAt b 16, byteAt b 17⟩, holdPresent := byteAt b 18
      hold := ⟨byteAt b 19, byteAt b 20, byteAt b 21⟩ } := by
  simp only [readRawHotkey, byteAt_drop, ← Nat.add_assoc, Nat.reduceAdd]

/-- A frame that is no request, or names none, is BADREQ. -/
theorem frameCommand_bad (h : byteAt b 0 ≠ 1 ∨ byteAt b 1 = 0 ∨ 16 < byteAt b 1) :
    frameCommand p b = .badReq (frameRequest p b) (byteAt b 1) := by
  unfold frameCommand
  dsimp only
  split
  · rfl
  · next request =>
    rcases h with h | none | past
    · exact absurd h request
    · rw [none]; rfl
    · obtain ⟨k, hk⟩ := Nat.exists_eq_add_of_le' past
      rw [hk]; rfl

theorem frameCommand_writeEntry (table : Nat) (request : byteAt b 0 = 1) (kind : byteAt b 1 = 2) (named : byteAt b 5 = table) :
    frameCommand p b =
    match (generalizing := false) table with
    | 1 => .writeDeskRecord (frameRequest p b) (readRawDesk (b.drop 8))
    | 2 => .writePortEntry (frameRequest p b) (readRawPort (b.drop 8))
    | 3 => .writeSourceEntry (frameRequest p b) (readRawSource (b.drop 8))
    | 4 => .writeScreenEntry (frameRequest p b) (readRawScreen (b.drop 8))
    | 5 => .writeLayoutEntry (frameRequest p b) (readRawLayout (b.drop 8))
    | 6 => .writeHotkeyEntry (frameRequest p b) (readRawHotkey (b.drop 8))
    | _ => .badReq (frameRequest p b) (byteAt b 1) := by
  subst named
  simp only [frameCommand, request, kind, ne_eq, not_true_eq_false, if_false]
  rfl

theorem frameCommand_share (request : byteAt b 0 = 1) (kind : byteAt b 1 = 6) : frameCommand p b =
    if byteAt b 6 = 0 then .setShareOff (frameRequest p b)
    else if byteAt b 6 = 1 then .setShareFollow (frameRequest p b) else .setShareFixed (frameRequest p b) := by
  simp only [frameCommand, request, kind, ne_eq, not_true_eq_false, if_false, frameRequest]
  rcases byteAt b 6 with _ | _ | n <;> rfl

theorem frameCommand_counters (request : byteAt b 0 = 1) (kind : byteAt b 1 = 14) : frameCommand p b =
    if byteAt b 5 = 0 then .readCountersLatch (frameRequest p b)
    else if byteAt b 5 = 1 then .readCountersLatchAndClear (frameRequest p b) else .readCountersRepeat (frameRequest p b) := by
  simp only [frameCommand, request, kind, ne_eq, not_true_eq_false, if_false, frameRequest]
  rcases byteAt b 5 with _ | _ | n <;> rfl

theorem frameCommand_mask (request : byteAt b 0 = 1) (kind : byteAt b 1 = 13) : frameCommand p b =
    .setNoticeMask (frameRequest p b) (Tab.make (fun k : Fin 16 => (byteAt b 8 + 256 * byteAt b (8 + 1)).testBit k.val)) := by
  simp only [frameCommand, request, kind, ne_eq, not_true_eq_false, if_false, wordAt_drop]
  rfl

end

/-- Settles O54: each entry by its bytes read back, the checks by their fields, and each frame by its kind. -/
theorem entriesSurviveTheirBytes : Obligations.EntriesSurviveTheirBytes := by
  unfold Obligations.EntriesSurviveTheirBytes
  refine ⟨checkDesk_bytes, checkPort_bytes, checkSource_bytes, checkScreen_bytes, fun _ e _ => checkLayout_bytes e, checkHotkey_bytes,
    frameCommand_wf, fun w => ⟨checkScreen_eq_none w, checkScreen_fields w⟩, screenConflict_iff,
    fun w => ⟨checkLayout_eq_none w, checkLayout_fields w⟩, checkAction_iff, holdAllowed_iff,
    fun w => ⟨checkHotkey_eq_none w, checkHotkey_fields w⟩, entriesConflict_iff_conditions, hotkeyConflict_iff, ?_, rfl, ?_, by decide, ?_⟩
  · intro kind q r
    have status : statusNum r.status % 256 = statusNum r.status := by cases r.status <;> rfl
    have flags : ((if r.clamped = true then 1 else 0) + (if r.saveFailed = true then 2 else 0)) % 256
        = (if r.clamped = true then 1 else 0) + (if r.saveFailed = true then 2 else 0) := by
      cases r.clamped <;> cases r.saveFailed <;> rfl
    refine ⟨length_replyFrame kind q r, ?_, ?_, ?_, ?_, ?_, ?_, ?_, ?_, byteAt_replyFrame_payload kind q r⟩
    all_goals simp only [replyFrame, List.append_assoc, byteAt_num1_append, byteAt_num1_succ, status, flags]
  · intro n
    refine ⟨length_noticeFrame n, rfl, noticeFrame_zero_before n, noticeFrame_zero_after n, fun k => ?_, ?_⟩
    · rw [noticeFrame_word, testBit_flagsNat]
    · have small : flagsNat n < 65536 := flagsNat_lt n
      rw [wordAt_num2, Nat.mod_eq_of_lt small, natFlags_flagsNat]
  · intro p b
    dsimp only
    refine ⟨frameCommand_bad p b, ?_, fun ⟨request, kind⟩ => ?_, ?_, ?_, ?_, fun h => frameCommand_share p b h.1 h.2, ?_, ?_, ?_, ?_, ?_,
      ?_, fun h => frameCommand_mask p b h.1 h.2, fun h => frameCommand_counters p b h.1 h.2, ?_, ?_⟩
    case refine_2 =>
      have write (table : Nat) (h : byteAt b 5 = table) := frameCommand_writeEntry p b table request kind h
      refine ⟨fun h => ?_, fun h => ?_, fun h => ?_, fun h => ?_, fun h => ?_, fun h => ?_, fun h => ?_⟩
      · rcases h with none | past
        · exact write 0 none
        · obtain ⟨k, hk⟩ := Nat.exists_eq_add_of_le' past
          exact write (k + 7) hk
      · exact (write 1 h).trans (congrArg (Instr.writeDeskRecord _) (readRawDesk_frame b))
      · exact (write 2 h).trans (congrArg (Instr.writePortEntry _) (readRawPort_frame b))
      · exact (write 3 h).trans (congrArg (Instr.writeSourceEntry _) (readRawSource_frame b))
      · exact (write 4 h).trans (congrArg (Instr.writeScreenEntry _) (readRawScreen_frame b))
      · exact (write 5 h).trans (congrArg (Instr.writeLayoutEntry _) (readRawLayout_frame b))
      · exact (write 6 h).trans (congrArg (Instr.writeHotkeyEntry _) (readRawHotkey_frame b))
    all_goals
      rintro ⟨request, kind⟩
      simp only [frameCommand, request, kind, ne_eq, not_true_eq_false, if_false]

end Sys2Proof.Machine

/-!
SUPPORT. A port engine that enters Active, that is re-taken, and that a write of its entry acts on: its record, and the notice report
that it is sent (R83 to R85, R88, R181).
-/

namespace Sys2Proof.Machine

/-! ## A port's record under a change of link state -/

/-- The record of a port with the report that stands in front of an empty pointer queue, when the port is the pointer owner (R85). -/
def fronted (owns : Bool) (e : Cpe) : Cpe :=
  match e.lastReport with
  | some r => if owns && e.pointerQueue.isEmpty then { e with pointerQueue := [{ r with wheel := 0 }] } else e
  | none => e

theorem fronted_other (e : Cpe) : fronted false e = e := by
  unfold fronted
  split <;> simp

theorem fronted_keyQueue (owns : Bool) (e : Cpe) : (fronted owns e).keyQueue = e.keyQueue := by
  unfold fronted
  (repeat' split) <;> rfl

theorem fronted_linkState (owns : Bool) (e : Cpe) : (fronted owns e).linkState = e.linkState := by
  unfold fronted
  (repeat' split) <;> rfl

theorem fronted_link (owns : Bool) (e : Cpe) : (fronted owns e).link = e.link := by
  unfold fronted
  (repeat' split) <;> rfl

/-- The record of a port that enters Active (R85). -/
def activated (s : State) (p : Port) : Cpe :=
  let e := s.cpe.get p
  { fronted (decide (s.fcu.owner = some p))
      { e with linkState := .active, keyQueue := if e.keyQueue.isEmpty then [snapshotOf e.reported] else e.keyQueue } with
    stall := s.after (ms (s.portEntry p).stallTimeout) }

@[simp] theorem activated_linkState (s : State) (p : Port) : (activated s p).linkState = .active := fronted_linkState _ _

@[simp] theorem activated_link (s : State) (p : Port) : (activated s p).link = (s.cpe.get p).link := fronted_link _ _

theorem moveLink_cpe (p : Port) (st : LinkState) (s : State) :
    (moveLink p st s).cpe = s.cpe.set p { s.cpe.get p with linkState := st } := by
  rw [moveLink_eq]

@[simp] theorem noticeCatchUp_cpe (p : Port) (s : State) : (s.noticeCatchUp p).cpe = s.cpe :=
  (show Keeps [.sent] s (s.noticeCatchUp p) by simp) .cpe (by decide)

@[simp] theorem noticeCatchUp_handoffs (p : Port) (s : State) : (s.noticeCatchUp p).handoffs = s.handoffs :=
  (show Keeps [.sent] s (s.noticeCatchUp p) by simp) .handoffs (by decide)

theorem modCpe_eq (p : Port) (f : Cpe → Cpe) (s : State) : s.modCpe p f = { s with cpe := s.cpe.set p (f (s.cpe.get p)) } := rfl

theorem frontReport_eq (p : Port) (s : State) : frontReport p s = s.modCpe p (fronted (decide (s.fcu.owner = some p))) := by
  unfold frontReport
  split
  · next owner => rw [decide_eq_true owner]; rfl
  · next other =>
    rw [decide_eq_false other, modCpe_eq, fronted_other, Tab.set_get_self]

/-- Entering Active leaves the port with a snapshot queued and its stall timer running (R85). -/
theorem enterActive_eq (p : Port) (s : State) : enterActive p s = State.noticeCatchUp p { s with
    cpe := s.cpe.set p (activated s p), handoffs := s.handoffs ++ handedByMove p (s.cpe.get p).linkState .active } := by
  have stalls (t : State) (h : (t.cpe.get p).keyQueue ≠ []) : frontStall p t = startStall p t := by
    have busy : queuesEmpty (t.cpe.get p) = false := by simp [queuesEmpty, h]
    rw [frontStall, busy]
    rfl
  have snapshot (e : Cpe) : (if e.keyQueue.isEmpty then { e with keyQueue := [snapshotOf e.reported] } else e) =
      { e with keyQueue := if e.keyQueue.isEmpty then [snapshotOf e.reported] else e.keyQueue } := by
    split <;> rfl
  have queued (e : Cpe) : (if e.keyQueue.isEmpty then [snapshotOf e.reported] else e.keyQueue) ≠ [] := by
    cases h : e.keyQueue <;> simp
  unfold enterActive
  rw [moveLink_eq, frontSnapshot, modCpe_eq, snapshot, frontReport_eq, modCpe_eq, stalls, startStall, modCpe_eq]
  · simp only [Tab.get_set_self, Tab.set_set]
    rfl
  · simp only [Tab.get_set_self, fronted_keyQueue]
    exact queued _

/-! ## The notice report that a port is owed (R181) -/

/-- The notice report that a port is sent when it is owed one: it is Active with management, a wanted notice stands, and it can be
sent. -/
def owedNotice (p : Port) (s : State) : List Sent :=
  if s.managed p = true ∧ s.noticesWanted = true ∧ (s.portEntry p).enabled = true ∧ (s.cpe.get p).link = .up then
    [.frame p (noticeFrame s.mfe.notices)]
  else []

theorem owedNotice_congr (p : Port) {s t : State} (cpe : t.cpe.get p = s.cpe.get p) (tables : t.tables = s.tables) (mfe : t.mfe = s.mfe) :
    owedNotice p t = owedNotice p s := by
  simp only [owedNotice, State.managed, State.portEntry, State.noticesWanted, cpe, tables, mfe]
  exact if_congr Iff.rfl rfl rfl

theorem owedNotice_inactive (p : Port) (s : State) (h : (s.cpe.get p).linkState ≠ .active) : owedNotice p s = [] := by
  simp [owedNotice, State.managed, h]

theorem noticeCatchUp_sent (p : Port) (s : State) : (s.noticeCatchUp p).sent = s.sent ++ owedNotice p s := by
  unfold State.noticeCatchUp State.sendFrame owedNotice
  by_cases wanted : s.managed p = true ∧ s.noticesWanted = true
  · by_cases link : (s.portEntry p).enabled = true ∧ (s.cpe.get p).link = .up
    · simp [wanted, link, State.send]
    · rw [if_pos (by simp [wanted]), if_neg link, if_neg (fun h => link ⟨h.2.2.1, h.2.2.2⟩), List.append_nil]
  · rw [if_neg (by simpa using wanted), if_neg (fun h => wanted ⟨h.1, h.2.1⟩), List.append_nil]

theorem owedNotice_noticeCatchUp (p q : Port) (s : State) : owedNotice q (s.noticeCatchUp p) = owedNotice q s := by
  have keeps : Keeps [.sent] s (s.noticeCatchUp p) := by simp
  exact owedNotice_congr q (by rw [noticeCatchUp_cpe]) keeps.tables keeps.mfe

/-- From one state to another a port may enter Active: an Active port leaves the state as it is, and another is sent what it is then
owed. -/
def Enters (p : Port) (s t : State) : Prop :=
  ((s.cpe.get p).linkState = .active → t = s) ∧ ((s.cpe.get p).linkState ≠ .active → t.sent = s.sent ++ owedNotice p t)

section
variable {p : Port} {s t u : State}

theorem Enters.quiet (before : (s.cpe.get p).linkState ≠ .active) (after : (t.cpe.get p).linkState ≠ .active) (sent : t.sent = s.sent) :
    Enters p s t := ⟨fun active => absurd active before, fun _ => by rw [owedNotice_inactive p t after, List.append_nil, sent]⟩

theorem Enters.refl (p : Port) (s : State) : Enters p s s :=
  ⟨fun _ => rfl, fun h => by rw [owedNotice_inactive p s h, List.append_nil]⟩

theorem Enters.trans (a : Enters p s t) (b : Enters p t u) : Enters p s u := by
  constructor
  · intro active
    have same := a.1 active
    rw [b.1 (same ▸ active), same]
  · intro inactive
    by_cases entered : (t.cpe.get p).linkState = .active
    · rw [b.1 entered]
      exact a.2 inactive
    · rw [b.2 entered, a.2 inactive, owedNotice_inactive p t entered, List.append_nil]

theorem Enters.of_inactive (h : (s.cpe.get p).linkState ≠ .active → Enters p s t) (active : (s.cpe.get p).linkState = .active → t = s) :
    Enters p s t := ⟨active, fun inactive => (h inactive).2 inactive⟩

end

section
variable (p : Port) (s : State)

theorem enters_enterActive (inactive : (s.cpe.get p).linkState ≠ .active) : Enters p s (enterActive p s) := by
  refine ⟨fun active => absurd active inactive, fun _ => ?_⟩
  rw [enterActive_eq, noticeCatchUp_sent, owedNotice_noticeCatchUp]

theorem moveLink_linkState (st : LinkState) : ((moveLink p st s).cpe.get p).linkState = st := by
  rw [moveLink_cpe, Tab.get_set_self]

theorem moveLink_sent (st : LinkState) : (moveLink p st s).sent = s.sent := by rw [moveLink_eq]

theorem enters_enterSettling (inactive : (s.cpe.get p).linkState ≠ .active) : Enters p s (enterSettling p s) := by
  have settling := moveLink_linkState p (s.modCpe p (fun e => { e with settle := 0 })) .settling
  have moved : Enters p s (moveLink p .settling (s.modCpe p (fun e => { e with settle := 0 }))) :=
    .quiet inactive (by rw [settling]; decide) (moveLink_sent p _ _)
  unfold enterSettling
  dsimp only
  split
  · exact moved.trans (enters_enterActive p _ (by rw [settling]; decide))
  · exact moved

theorem enters_retake : Enters p s (retake p s) := by
  unfold retake
  split
  · exact .refl p s
  · next h =>
    obtain ⟨-, detached⟩ := not_or.mp h
    have before : (s.cpe.get p).linkState ≠ .active := by rw [not_not.mp detached]; decide
    have after : ((setUpSets p s).cpe.get p).linkState ≠ .active := by
      rw [setUpSets, modCpe_eq, Tab.get_set_self]
      exact before
    have sets : Enters p s (setUpSets p s) := .quiet before after rfl
    split
    · exact .refl p s
    · exact sets.trans (enters_enterSettling p _ after)
    · exact sets.trans (.quiet after (by rw [moveLink_linkState]; decide) (moveLink_sent p _ _))

end

/-! ## Links stay as they are -/

/-- The links of the ports are as they were. -/
def SameLinks (s t : State) : Prop := ∀ q : Port, (t.cpe.get q).link = (s.cpe.get q).link

section
variable {s t u : State}

theorem SameLinks.refl (s : State) : SameLinks s s := fun _ => rfl

theorem SameLinks.of_cpe (h : t.cpe = s.cpe) : SameLinks s t := fun q => by rw [h]

theorem SameLinks.trans (a : SameLinks s t) (b : SameLinks t u) : SameLinks s u := fun q => (b q).trans (a q)

theorem SameLinks.set (p : Port) {e : Cpe} (cpe : t.cpe = s.cpe.set p e) (h : e.link = (s.cpe.get p).link) : SameLinks s t := by
  intro q
  rw [cpe, Tab.get_set]
  split
  · next same => rw [same, h]
  · rfl

end

section
variable (p : Port) (s : State)

theorem sameLinks_modCpe (f : Cpe → Cpe) (h : ∀ e, (f e).link = e.link) : SameLinks s (s.modCpe p f) := .set p rfl (h _)

theorem sameLinks_moveLink (st : LinkState) : SameLinks s (moveLink p st s) := .set p (moveLink_cpe p st s) rfl

theorem sameLinks_enterActive : SameLinks s (enterActive p s) :=
  .set p (e := activated s p) (by rw [enterActive_eq, noticeCatchUp_cpe]) (activated_link s p)

theorem sameLinks_enterSettling : SameLinks s (enterSettling p s) := by
  have moved : SameLinks s (moveLink p .settling (s.modCpe p (fun e => { e with settle := 0 }))) :=
    (sameLinks_modCpe p s (fun e => { e with settle := 0 }) fun _ => rfl).trans (sameLinks_moveLink p _ _)
  unfold enterSettling
  dsimp only
  split
  · exact moved.trans (sameLinks_enterActive p _)
  · exact moved

theorem sameLinks_retake : SameLinks s (retake p s) := by
  have sets : SameLinks s (setUpSets p s) := sameLinks_modCpe p s _ fun _ => rfl
  unfold retake
  (repeat' split)
  · exact .refl s
  · exact .refl s
  · exact sets.trans (sameLinks_enterSettling p _)
  · exact sets.trans (sameLinks_moveLink p _ _)

theorem sameLinks_detachPort : SameLinks s (detachPort p s) :=
  (sameLinks_modCpe p s emptied fun _ => rfl).trans (sameLinks_moveLink p _ _)

end

/-! ## A port whose entry is written (R80, R181) -/

/-- The port after its re-taking, when the write enables it. -/
def portRetaken (p : Port) (old : PortEntry) (s : State) : State :=
  if !old.enabled && (s.portEntry p).enabled then retake p s else s

/-- The port after its settle polls are written from `old` to `new`. -/
def portSettles (p : Port) (old new : PortEntry) (s : State) : State :=
  if old.settlePolls ≠ new.settlePolls ∧ (s.cpe.get p).linkState = .settling ∧ new.settlePolls ≤ (s.cpe.get p).settle then enterActive p s
  else s

/-- The port after its re-taking and its settle polls, in a write that does not disable it. -/
def portFollows (p : Port) (old : PortEntry) (s : State) : State := portSettles p old (s.portEntry p) (portRetaken p old s)

section
variable (p : Port) (old : PortEntry) (s : State)

theorem portWritten_disabled (was : old.enabled = true) (off : (s.portEntry p).enabled = false) :
    portWritten p old s = detachPort p s := by
  have detached : ((detachPort p s).cpe.get p).linkState = .detached := moveLink_linkState p _ _
  have unmanaged : (detachPort p s).managed p = false := by simp [State.managed, detached]
  simp [portWritten, was, off, detached, State.noticeCatchUp, unmanaged]

theorem portWritten_enabled (h : ¬(old.enabled = true ∧ (s.portEntry p).enabled = false)) :
    portWritten p old s =
      if (s.cpe.get p).linkState = .active ∧ old.managementAllowed = false ∧ (s.portEntry p).managementAllowed = true then
        (portFollows p old s).noticeCatchUp p
      else portFollows p old s := by
  have stays : (old.enabled && !(s.portEntry p).enabled) = false := by simpa using h
  simp only [portWritten, portFollows, portSettles, portRetaken, stays, Bool.false_eq_true, if_false]
  simp [and_assoc]

theorem enters_portRetaken : Enters p s (portRetaken p old s) := by
  unfold portRetaken
  split
  · exact enters_retake p s
  · exact .refl p s

theorem enters_portSettles (new : PortEntry) : Enters p s (portSettles p old new s) := by
  unfold portSettles
  split
  · next h =>
    obtain ⟨-, settling, -⟩ := h
    exact enters_enterActive p s (by rw [settling]; decide)
  · exact .refl p s

theorem enters_portFollows : Enters p s (portFollows p old s) :=
  (enters_portRetaken p old s).trans (enters_portSettles p old _ _)

theorem sameLinks_portFollows : SameLinks s (portFollows p old s) := by
  have taken : SameLinks s (portRetaken p old s) := by
    unfold portRetaken
    split
    · exact sameLinks_retake p s
    · exact .refl s
  unfold portFollows portSettles
  split
  · exact taken.trans (sameLinks_enterActive p _)
  · exact taken

theorem sameLinks_portWritten : SameLinks s (portWritten p old s) := by
  by_cases h : old.enabled = true ∧ (s.portEntry p).enabled = false
  · rw [portWritten_disabled p old s h.1 h.2]
    exact sameLinks_detachPort p s
  · rw [portWritten_enabled p old s h]
    split
    · exact (sameLinks_portFollows p old s).trans (.of_cpe (noticeCatchUp_cpe p _))
    · exact sameLinks_portFollows p old s

/-- What a write of a port's entry sends the port: the report it is owed when it enters Active, or is given management while
Active (R181). -/
theorem portWritten_sent : (portWritten p old s).sent = s.sent ++
    if (s.cpe.get p).linkState ≠ .active ∨ (old.managementAllowed = false ∧ (s.portEntry p).managementAllowed = true) then
      owedNotice p (portWritten p old s)
    else [] := by
  by_cases h : old.enabled = true ∧ (s.portEntry p).enabled = false
  · have inactive : ((detachPort p s).cpe.get p).linkState ≠ .active := by
      rw [detachPort, moveLink_linkState]; decide
    rw [portWritten_disabled p old s h.1 h.2, owedNotice_inactive p _ inactive, ite_self, List.append_nil, detachPort, moveLink_sent]
    rfl
  · obtain ⟨same, entered⟩ := enters_portFollows p old s
    rw [portWritten_enabled p old s h]
    by_cases active : (s.cpe.get p).linkState = .active
    · rw [same active]
      by_cases given : old.managementAllowed = false ∧ (s.portEntry p).managementAllowed = true
      · rw [if_pos ⟨active, given⟩, if_pos (.inr given), noticeCatchUp_sent, owedNotice_noticeCatchUp]
      · rw [if_neg (fun h => given h.2), if_neg (fun h => h.elim (absurd active) given), List.append_nil]
    · rw [if_neg (fun h => active h.1), if_pos (.inl active), entered active]

end

end Sys2Proof.Machine

/-!
SUPPORT. What Focus Control and the Glide Unit leave as it is: the port engines but for their pointer-ignore sets, and what the console
has handed (R64 to R69, R72, R104, R45 to R59).
-/

namespace Sys2Proof.Machine

/-! ## The frame -/

/-- The commands by which the Console Input Port hands the matcher and the Glide Unit what the console did. -/
def fromConsole : Instr → Bool
  | .keyEvent _ | .keyboardDetachedIndication | .pointerEvent _ => true
  | _ => false

/-- The hand-offs of the console among hand-offs. -/
def consoleHanded (hs : List Handoff) : List Handoff := hs.filter (fun h => fromConsole h.cmd)

/-- From one state to another the port engines keep all but their pointer-ignore sets, and what the console has handed stays. -/
structure CursorMoves (s t : State) : Prop where
  ports : ∀ p : Port, ∃ ignored : Buttons, t.cpe.get p = { s.cpe.get p with pointerIgnored := ignored }
  console : consoleHanded t.handoffs = consoleHanded s.handoffs

/-- The commands that do not come from the console. -/
def notConsole (c : Instr) : Bool := !fromConsole c

theorem consoleHanded_withoutFirst (c : Instr) (h : fromConsole c = false) (hs : List Handoff) :
    consoleHanded (withoutFirst c hs) = consoleHanded hs := by
  induction hs with
  | nil => rfl
  | cons a hs ih =>
    rw [withoutFirst]
    split
    · next same => exact (List.filter_cons_of_neg (by rw [same, h]; decide)).symm
    · simp only [consoleHanded] at ih ⊢
      rw [List.filter_cons, List.filter_cons, ih]

theorem Hands.console {s t : State} (h : Hands notConsole s t) : consoleHanded t.handoffs = consoleHanded s.handoffs := by
  obtain ⟨new, e, ok⟩ := h
  have none : consoleHanded new = [] := by
    refine List.filter_eq_nil_iff.mpr fun x m => ?_
    have := ok x m
    simpa [notConsole] using this
  rw [e, consoleHanded, List.filter_append]
  exact (congrArg (consoleHanded s.handoffs ++ ·) none).trans (List.append_nil _)

section
variable {s t u : State}

theorem CursorMoves.refl (s : State) : CursorMoves s s := ⟨fun _ => ⟨_, rfl⟩, rfl⟩

theorem CursorMoves.trans (a : CursorMoves s t) (b : CursorMoves t u) : CursorMoves s u := by
  refine ⟨fun p => ?_, b.console.trans a.console⟩
  obtain ⟨x, hx⟩ := a.ports p
  obtain ⟨y, hy⟩ := b.ports p
  exact ⟨y, by rw [hy, hx]⟩

theorem CursorMoves.of_same (cpe : t.cpe = s.cpe) (handoffs : t.handoffs = s.handoffs) : CursorMoves s t :=
  ⟨fun p => ⟨_, by rw [cpe]⟩, by rw [handoffs]⟩

theorem CursorMoves.of_hands (cpe : t.cpe = s.cpe) (h : Hands notConsole s t) : CursorMoves s t :=
  ⟨fun p => ⟨_, by rw [cpe]⟩, h.console⟩

theorem CursorMoves.hand (a : CursorMoves s t) (src : Block) {c : Instr} (ok : notConsole c = true := by rfl) :
    CursorMoves s (t.hand src c) := a.trans (.of_hands rfl ((Hands.refl t).hand src ok))

theorem CursorMoves.ite {p : Prop} [Decidable p] {a b : State} (ha : CursorMoves s a) (hb : CursorMoves s b) :
    CursorMoves s (if p then a else b) := by
  split
  · exact ha
  · exact hb

theorem CursorMoves.foldl {α : Type} (f : State → α → State) (step : ∀ s a, CursorMoves s (f s a)) (l : List α) (s : State) :
    CursorMoves s (l.foldl f s) := by
  induction l generalizing s with
  | nil => exact .refl s
  | cons a l ih => exact (step s a).trans (ih (f s a))

theorem CursorMoves.sameLinks (a : CursorMoves s t) : SameLinks s t := by
  intro q
  obtain ⟨x, hx⟩ := a.ports q
  rw [hx]

end

theorem cursorMoves_taking (c : Instr) (s : State) (h : fromConsole c = false) : CursorMoves s (s.taking c) :=
  ⟨fun _ => ⟨_, rfl⟩, consoleHanded_withoutFirst c h _⟩

theorem cursorMoves_ignored (p : Port) (f : Cpe → Buttons) (s : State) :
    CursorMoves s (s.modCpe p (fun e => { e with pointerIgnored := f e })) := by
  refine ⟨fun q => ?_, rfl⟩
  rw [modCpe_eq, Tab.get_set]
  split
  · next same => exact ⟨_, by rw [same]⟩
  · exact ⟨_, rfl⟩

theorem cursorMoves_modFcu (f : Fcu → Fcu) (s : State) : CursorMoves s (s.modFcu f) := .of_same rfl rfl

theorem cursorMoves_modGlu (f : Glu → Glu) (s : State) : CursorMoves s (s.modGlu f) := .of_same rfl rfl

/-! ## Focus Control (R64 to R69, R72) -/

section
variable (s : State)

theorem cursorMoves_refreshDims : CursorMoves s (refreshDims s) := by
  rw [refreshDims_eq]
  refine .of_hands rfl ⟨_, rfl, fun h m => ?_⟩
  obtain ⟨sc, -, rfl⟩ := List.mem_map.mp m
  rfl

theorem cursorMoves_leaveJoin (before : State) : CursorMoves s (leaveJoin before s) := by
  rw [leaveJoin_eq]
  refine .of_hands rfl ⟨_, rfl, fun h m => ?_⟩
  obtain ⟨p, -, hp⟩ := List.mem_filterMap.mp m
  (repeat' split at hp) <;> cases hp <;> rfl

theorem cursorMoves_changeFocus (new : Option Computer) (cause : FocusCause) (jump keepSlot : Bool) :
    CursorMoves s (changeFocus new cause jump keepSlot s) := by
  have home : CursorMoves s (askHome s.fcu.focus jump s) := by
    unfold askHome
    split
    · exact .refl s
    · exact .ite ((CursorMoves.refl s).hand _) (.refl s)
  have asked (t : State) : CursorMoves t (askJump new cause jump t) := by
    unfold askJump
    split
    · exact .refl t
    · exact .ite ((CursorMoves.refl t).hand _) (.refl t)
  have woken (t : State) : CursorMoves t (wakeFocus new t) := by
    unfold wakeFocus
    split
    · exact .refl t
    · exact .ite ((CursorMoves.refl t).hand _) (.refl t)
  unfold changeFocus
  refine .ite (.refl s) (.hand (.trans (.hand ?_ _) (cursorMoves_refreshDims _)) _)
  exact .trans (.trans (.trans (home.trans (cursorMoves_modFcu _ _)) (cursorMoves_leaveJoin _ _)) (asked _)) (woken _)

theorem cursorMoves_claimOwner (new : Option Computer) : CursorMoves s (claimOwner new s) := by
  unfold claimOwner
  split
  · exact .refl s
  · exact cursorMoves_ignored _ _ s

theorem cursorMoves_releaseOwner (old : Option Computer) : CursorMoves s (releaseOwner old s) := by
  unfold releaseOwner
  split
  · exact .refl s
  · refine CursorMoves.trans ?_ (cursorMoves_ignored _ _ _)
    split
    · exact .ite ((CursorMoves.refl s).hand _) (.refl s)
    · exact .refl s

theorem cursorMoves_changeOwner (new : Option Computer) (cause : FocusCause) (notice : Bool) :
    CursorMoves s (changeOwner new cause notice s) := by
  unfold changeOwner
  refine .ite (.refl s) ?_
  have owned : CursorMoves s
      ((claimOwner new (releaseOwner s.fcu.owner s)).modFcu (fun f => { f with owner := new, lastCause := cause })) :=
    ((cursorMoves_releaseOwner s s.fcu.owner).trans (cursorMoves_claimOwner _ new)).trans (.of_same rfl rfl)
  exact (((CursorMoves.ite (owned.hand _) owned).trans (cursorMoves_refreshDims _))).hand _

theorem cursorMoves_recomputeOwner (cause : FocusCause) (notice : Bool) : CursorMoves s (recomputeOwner cause notice s) :=
  cursorMoves_changeOwner s _ cause notice

theorem cursorMoves_followOwner (cause : FocusCause) (before : State) : CursorMoves s (followOwner cause before s) := by
  unfold followOwner
  split
  · exact .ite (.refl s) (cursorMoves_changeFocus s _ _ _ _)
  · exact .refl s

theorem cursorMoves_cursorScreenChanged (c : CursorCause) : CursorMoves s (cursorScreenChanged c s) := by
  unfold cursorScreenChanged
  split
  · exact (cursorMoves_recomputeOwner s _ _).trans (cursorMoves_followOwner _ _ _)
  · exact .ite (cursorMoves_recomputeOwner s _ _) ((cursorMoves_recomputeOwner s _ _).trans (cursorMoves_followOwner _ _ _))
  · dsimp only
    split
    · exact (cursorMoves_recomputeOwner s _ _).trans (cursorMoves_changeFocus _ _ _ _ _)
    · exact cursorMoves_recomputeOwner s _ _

/-- The owner recomputed, and a cursor notice handed when it stays (R69, R72). -/
theorem cursorMoves_noticed (cause : FocusCause) : CursorMoves s
    (if (recomputeOwner cause true s).fcu.owner = s.fcu.owner then (recomputeOwner cause true s).hand .fcu .cursorNotice
    else recomputeOwner cause true s) :=
  .ite ((cursorMoves_recomputeOwner s _ _).hand _) (cursorMoves_recomputeOwner s _ _)

theorem cursorMoves_jumpAnswered (c : Computer) (cause : FocusCause) (landing : Option Screen) :
    CursorMoves s (jumpAnswered c cause landing s) := by
  unfold jumpAnswered
  split
  · exact .refl s
  · exact .ite ((cursorMoves_noticed s cause).trans (cursorMoves_changeFocus _ _ _ _ _)) (cursorMoves_noticed s cause)

theorem cursorMoves_cursorScreenRouted (cause : FocusCause) : CursorMoves s (cursorScreenRouted cause s) := by
  unfold cursorScreenRouted
  exact .ite (cursorMoves_noticed s cause) ((cursorMoves_noticed s cause).trans (cursorMoves_followOwner _ _ _))

theorem cursorMoves_sourceOwnerWritten (v : Source) (rectangle : Bool) : CursorMoves s (sourceOwnerWritten v rectangle s) := by
  unfold sourceOwnerWritten
  exact (CursorMoves.ite (cursorMoves_cursorScreenRouted s _) (.ite ((CursorMoves.refl s).hand _) (.refl s))).trans
    (cursorMoves_refreshDims _)

theorem cursorMoves_sourceRectangleWritten (v : Source) : CursorMoves s (sourceRectangleWritten v s) :=
  .ite ((CursorMoves.refl s).hand _) (cursorMoves_refreshDims s)

/-! ## The Glide Unit (R45 to R59) -/

theorem cursorMoves_takeFromGlide (c : Instr) : CursorMoves s (takeFromGlide c s) := by
  unfold takeFromGlide
  split
  · exact (cursorMoves_taking _ s rfl).trans (cursorMoves_cursorScreenChanged _ _)
  · exact (cursorMoves_taking _ s rfl).trans (cursorMoves_jumpAnswered _ _ _ _)
  · exact .refl s

theorem cursorMoves_takeGlideInputs : CursorMoves s (takeGlideInputs s) :=
  CursorMoves.foldl (fun (t : State) (h : Handoff) => takeFromGlide h.cmd t) (fun t h => cursorMoves_takeFromGlide t h.cmd) _ s

theorem cursorMoves_buildReport (held : Buttons) (wheel : Int) : CursorMoves s (buildReport held wheel s) := by
  unfold buildReport
  split
  · exact .ite ((CursorMoves.refl s).hand _) (.refl s)
  · exact .refl s
  · exact .refl s

theorem cursorMoves_dropIgnored (released : Buttons) : CursorMoves s (dropIgnored released s) :=
  .foldl _ (fun s p => cursorMoves_ignored p _ s) _ s

theorem cursorMoves_crossOnto (sc : Screen) (x y : Int) : CursorMoves s (crossOnto sc x y s) := by
  have left (t : State) (onto : Option Computer) : CursorMoves t (leaveHome onto t) := by
    unfold leaveHome
    split
    · exact .refl t
    · exact .ite (.refl t) (.of_same rfl rfl)
  have woken (t : State) : CursorMoves t (wakeCrossed sc t) := by
    unfold wakeCrossed
    split
    · exact .refl t
    · exact .ite ((CursorMoves.refl t).hand _) (.refl t)
  unfold crossOnto
  dsimp only
  refine .trans (.trans (.trans ((cursorMoves_takeGlideInputs s).trans (left (takeGlideInputs s) ((takeGlideInputs s).screenOwner sc))) ?_) (cursorMoves_cursorScreenChanged _ _)) (woken _)
  exact .of_same rfl rfl

theorem cursorMoves_classify (held : Buttons) (x y : Int) : CursorMoves s (classify held x y s) := by
  have weighed (sc : Screen) : CursorMoves s (weighPush sc x y s) := .ite (cursorMoves_crossOnto s sc x y) (.of_same rfl rfl)
  have pushed (sc : Screen) : CursorMoves s (pushOnto sc held x y s) :=
    .ite (cursorMoves_crossOnto s sc x y) (.ite (.of_same rfl rfl) (weighed sc))
  unfold classify
  split
  · exact .ite (.of_same rfl rfl) (.ite (pushed _) (.of_same rfl rfl))
  · exact .of_same rfl rfl

theorem cursorMoves_takePointerEvent (e : PointerEvent) : CursorMoves s (takePointerEvent e s) := by
  have glided (t : State) : CursorMoves t (glide e t) :=
    (cursorMoves_modGlu (fun g => { g with
      residueX := (scaled e.dx t.tables.desk.glideGain t.glu.residueX).2
      residueY := (scaled e.dy t.tables.desk.glideGain t.glu.residueY).2 }) t).trans (cursorMoves_classify _ _ _ _)
  unfold takePointerEvent
  have moved : CursorMoves s (if e.dx = 0 ∧ e.dy = 0 then dropIgnored e.released s else glide e (dropIgnored e.released s)) :=
    .ite (cursorMoves_dropIgnored s _) ((cursorMoves_dropIgnored s _).trans (glided _))
  exact .ite (moved.trans (cursorMoves_buildReport _ _ _)) moved

theorem cursorMoves_placementWritten (sc : Screen) : CursorMoves s (placementWritten sc s) := by
  have unplaced (t : State) : CursorMoves t (cursorUnplaced t) := by
    unfold cursorUnplaced reportStanding
    refine .trans (.trans (.trans (cursorMoves_takeGlideInputs t) ?_) (cursorMoves_cursorScreenChanged _ _)) (cursorMoves_buildReport _ _ _)
    exact .of_same rfl rfl
  have cleared : CursorMoves s (clearPressure s) := .of_same rfl rfl
  have clamped (x y : Int) : CursorMoves s (clampCursor x y (clearPressure s)) := .of_same rfl rfl
  unfold placementWritten
  exact .ite cleared (.ite (.ite (clamped _ _) ((clamped _ _).trans (cursorMoves_buildReport _ _ _))) (cleared.trans (unplaced _)))

end

end Sys2Proof.Machine

/-!
PROOFS. The six table writes of a port that is served: what each refuses, and what each stores and answers (R15, R41, R80, R97, R103,
R126, R135, R160, R177, R180, R181).
-/

namespace Sys2Proof.Machine

/-! ## The checks by their fields -/

theorem checkDesk_range (w : RawDesk) : checkDesk w = none ↔
    ¬(4 ≤ w.prefixKey ∧ w.prefixKey ≤ 221 ∧ 1 ≤ w.tapCount ∧ w.tapCount ≤ 3 ∧ 16 ≤ w.glideGain ∧ w.glideGain ≤ 4096
      ∧ w.crossingResistance ≤ 4095 ∧ w.broadcastMask ≤ 63 ∧ 1 ≤ w.startLayout ∧ w.startLayout ≤ 16 ∧ w.deskWakeWakes ≤ 1) := by
  rw [checkDesk_eq_none, not_iff_not]
  constructor
  · rintro ⟨⟨h1, h2⟩, ⟨h3, h4⟩, ⟨h5, h6⟩, h7, h8, ⟨h9, h10⟩, h11⟩
    exact ⟨h1, h2, h3, h4, h5, h6, h7, h8, h9, h10, h11⟩
  · rintro ⟨h1, h2, h3, h4, h5, h6, h7, h8, h9, h10, h11⟩
    exact ⟨⟨h1, h2⟩, ⟨h3, h4⟩, ⟨h5, h6⟩, h7, h8, ⟨h9, h10⟩, h11⟩

theorem clampNat_zero (hi n : Nat) : clampNat 0 hi n = min hi n := by
  rw [clampNat_eq 0 hi n (Nat.zero_le hi), Nat.zero_max]

theorem clampPacing_eq (n : Nat) : clampPacing n = if n = 0 then 0 else max 10 (min 2550 n) := by
  rw [clampPacing, clampNat_eq 10 2550 n (by decide)]

theorem clampedFrom_iff (w : RawDesk) (e : DeskRecord) : clampedFrom w e = true ↔
    e.tapWindow ≠ w.tapWindow ∨ e.sequenceTimeout ≠ w.sequenceTimeout
    ∨ e.holdThreshold ≠ w.holdThreshold ∨ e.pressureHold ≠ w.pressureHold ∨ e.routeHoldLimit ≠ w.routeHoldLimit
    ∨ e.dimFloor ≠ w.dimFloor ∨ e.unfocusedLevel ≠ w.unfocusedLevel ∨ e.rampRate ≠ w.rampRate
    ∨ e.screenSleepDelay ≠ w.screenSleepDelay ∨ e.wakeTimeout ≠ w.wakeTimeout ∨ e.wakeRetries ≠ w.wakeRetries
    ∨ e.recoveryTime ≠ w.recoveryTime ∨ e.noticePacing ≠ w.noticePacing := by
  simp only [clampedFrom, Bool.or_eq_true, decide_eq_true_eq, or_assoc]

theorem checkDesk_fields (w : RawDesk) (e : DeskRecord) (clamped : Bool) (h : checkDesk w = some (e, clamped)) :
    e.prefixKey = w.prefixKey ∧ e.tapCount = w.tapCount ∧ e.glideGain = w.glideGain
    ∧ e.crossingResistance = w.crossingResistance ∧ e.startLayout.val + 1 = w.startLayout
    ∧ (∀ p : Computer, e.broadcastMask.get p = w.broadcastMask.testBit p.val)
    ∧ (e.deskWakeWakes = true ↔ w.deskWakeWakes = 1)
    ∧ e.tapWindow = max 100 (min 1000 w.tapWindow) ∧ e.sequenceTimeout = max 500 (min 5000 w.sequenceTimeout)
    ∧ e.holdThreshold = max 200 (min 2000 w.holdThreshold) ∧ e.pressureHold = max 50 (min 2000 w.pressureHold)
    ∧ e.routeHoldLimit = max 100 (min 5000 w.routeHoldLimit) ∧ e.dimFloor = min 255 w.dimFloor
    ∧ e.unfocusedLevel = min 255 w.unfocusedLevel ∧ e.rampRate = max 1 (min 255 w.rampRate)
    ∧ e.screenSleepDelay = max 1 (min 60 w.screenSleepDelay) ∧ e.wakeTimeout = max 500 (min 10000 w.wakeTimeout)
    ∧ e.wakeRetries = min 3 w.wakeRetries ∧ e.recoveryTime = max 5 (min 200 w.recoveryTime)
    ∧ e.noticePacing = (if w.noticePacing = 0 then 0 else max 10 (min 2550 w.noticePacing))
    ∧ (clamped = true ↔ clampedFrom w e = true) := by
  obtain ⟨-, f, same⟩ := (checkDesk_eq_some w e clamped).mp h
  have clamp (lo hi n : Nat) (h : lo ≤ hi := by decide) := clampNat_eq lo hi n h
  exact ⟨f.prefixKey, f.tapCount, f.glideGain, f.crossingResistance, f.startLayout.symm,
    fun p => by rw [f.broadcastMask, natFlags, Tab.get_make], by rw [f.deskWakeWakes]; exact flagNum_one _,
    f.tapWindow.trans (clamp _ _ _), f.sequenceTimeout.trans (clamp _ _ _), f.holdThreshold.trans (clamp _ _ _),
    f.pressureHold.trans (clamp _ _ _), f.routeHoldLimit.trans (clamp _ _ _), f.dimFloor.trans (clampNat_zero _ _),
    f.unfocusedLevel.trans (clampNat_zero _ _), f.rampRate.trans (clamp _ _ _), f.screenSleepDelay.trans (clamp _ _ _),
    f.wakeTimeout.trans (clamp _ _ _), f.wakeRetries.trans (clampNat_zero _ _), f.recoveryTime.trans (clamp _ _ _),
    f.noticePacing.trans (clampPacing_eq _), by rw [same]⟩

theorem checkPort_fields (w : RawPort) (e : PortEntry) (clamped : Bool) (h : checkPort w = some (e, clamped)) :
    (e.enabled = true ↔ w.enabled = 1) ∧ (e.managementAllowed = true ↔ w.managementAllowed = 1)
    ∧ (e.wakeOnGlide = true ↔ w.wakeOnGlide = 1) ∧ (e.wakeOnKey = true ↔ w.wakeOnKey = 1)
    ∧ e.settlePolls = w.settlePolls ∧ e.stallTimeout = max 100 (min 5000 w.stallTimeout)
    ∧ (clamped = true ↔ e.stallTimeout ≠ w.stallTimeout) := by
  obtain ⟨enabled, management, glide, key, polls, stall, same⟩ := (checkPort_eq_some w e clamped).mp h
  simp only [readBool_eq_some] at enabled management glide key
  refine ⟨by rw [enabled]; exact flagNum_one _, by rw [management]; exact flagNum_one _, by rw [glide]; exact flagNum_one _,
    by rw [key]; exact flagNum_one _, inRange_value polls, stall.trans (clampNat_eq _ _ _ (by decide)), ?_⟩
  rw [same, decide_eq_true_eq]

theorem checkSource_fields (w : RawSource) (e : SourceEntry) (h : checkSource w = some e) :
    (e.owner = none ↔ w.owner = 0) ∧ (∀ p : Computer, e.owner = some p ↔ w.owner = p.val + 1)
    ∧ e.x0 = w.x0 ∧ e.y0 = w.y0 ∧ e.w = w.w ∧ e.h = w.h ∧ (e.priv = true ↔ w.priv = 1) := by
  obtain ⟨owner, x0, y0, width, height, -, -, priv⟩ := (checkSource_eq_some w e).mp h
  rw [noneOrNumbered_eq_some] at owner
  rw [readBool_eq_some] at priv
  refine ⟨?_, fun p => ?_, inRange_value x0, inRange_value y0, inRange_value width, inRange_value height, by rw [priv]; exact flagNum_one _⟩
  · rw [owner]; cases e.owner <;> simp
  · rw [owner]
    cases e.owner with
    | none => simp
    | some c => simp [Fin.ext_iff (b := p)]

/-! ## What a write refuses, and what it stores -/

section
variable {k : Nat} {α : Type} (c : Instr) (q : Request) (checked : Option (α × Bool)) (denied conflict : Fin k → α → Bool)
  (store : Fin k → α → State → State) (f : State → State × Reply) (s : State)
  (taken : exec c s = .next (serve 2 q f s)) (writes : f s = writeEntry q checked denied conflict store s)
  (managed : s.managed q.port = true) (idle : s.mfe.inFlight.get q.port = none)
  (enabled : (s.portEntry q.port).enabled = true) (up : (s.cpe.get q.port).link = .up)
include taken writes managed idle

/-- A write that changes nothing is answered by its status. -/
theorem write_answered (st : Status) (answers : writeEntry q checked denied conflict store s = (s, plainReply st))
    (enabled : (s.portEntry q.port).enabled = true) (up : (s.cpe.get q.port).link = .up) :
    exec c s = .next { s with sent := s.sent ++ [.frame q.port (replyFrame 2 q (plainReply st))] } := by
  rw [taken, serve_free 2 q f s managed idle, writes, answers]
  exact congrArg Host.Outcome.next (sendReply_eq 2 q (plainReply st) s enabled up)

include enabled up

/-- While a save is in flight a write is BUSY, and one out of range is RANGE (R177). -/
theorem write_refused :
    (¬s.mfe.save = none → exec c s = .next { s with sent := s.sent ++ [.frame q.port (replyFrame 2 q (plainReply .busy))] })
    ∧ (s.mfe.save = none → ¬(1 ≤ q.arg2 ∧ q.arg2 ≤ k) ∨ checked = none →
      exec c s = .next { s with sent := s.sent ++ [.frame q.port (replyFrame 2 q (plainReply .range))] }) := by
  refine ⟨fun busy => ?_, fun free bad => ?_⟩
  · exact write_answered c q checked denied conflict store f s taken writes managed idle .busy
      (writeEntry_busy q checked denied conflict store s busy) enabled up
  · refine write_answered c q checked denied conflict store f s taken writes managed idle .range
      (writeEntry_range q checked denied conflict store s free ?_) enabled up
    exact bad.imp_left (numbered_eq_none k q.arg2).mpr

section
variable (free : s.mfe.save = none) (i : Fin k) (index : q.arg2 = i.val + 1) (e : α) (clamped : Bool)
  (ok : checked = some (e, clamped))
include free index ok

theorem write_denied (no : denied i e = true) :
    exec c s = .next { s with sent := s.sent ++ [.frame q.port (replyFrame 2 q (plainReply .denied))] } :=
  write_answered c q checked denied conflict store f s taken writes managed idle .denied
    (writeEntry_denied q checked denied conflict store s free i e clamped (numbered_val i index) ok no) enabled up

theorem write_conflict (allowed : denied i e = false) (no : conflict i e = true) :
    exec c s = .next { s with sent := s.sent ++ [.frame q.port (replyFrame 2 q (plainReply .conflict))] } :=
  write_answered c q checked denied conflict store f s taken writes managed idle .conflict
    (writeEntry_conflict q checked denied conflict store s free i e clamped (numbered_val i index) ok allowed no) enabled up

omit enabled up in
theorem write_stored (allowed : denied i e = false) (fits : conflict i e = false) :
    exec c s = .next (sendReply 2 q { status := .ok, clamped := clamped, saveFailed := false, payload := [] } (store i e s)) := by
  rw [taken, serve_free 2 q f s managed idle, writes,
    writeEntry_stored q checked denied conflict store s free i e clamped (numbered_val i index) ok allowed fits]

/-- A stored entry that leaves the requesting port as it is, is answered OK. -/
theorem write_accepted (allowed : denied i e = false) (fits : conflict i e = false) (tables : Tables) (stored : (store i e s).tables = tables)
    (ports : tables.ports = s.tables.ports) (sent : (store i e s).sent = s.sent) (links : SameLinks s (store i e s)) :
    ∃ t, exec c s = .next t ∧ t.tables = tables
      ∧ t.sent = s.sent ++ [.frame q.port (replyFrame 2 q { status := .ok, clamped := clamped, saveFailed := false, payload := [] })] := by
  refine ⟨_, write_stored c q checked denied conflict store f s taken writes managed idle free i index e clamped ok allowed fits, ?_⟩
  rw [sendReply_eq 2 q _ (store i e s) (by rw [State.portEntry, stored, ports]; exact enabled) (by rw [links]; exact up)]
  exact ⟨stored, by rw [State.send, sent]⟩

end

end

/-! ## The stores leave the links and what has been sent -/

section
variable (s : State)

theorem sameLinks_storeSource (v : Source) (e : SourceEntry) : SameLinks s (storeSource v e s) := by
  have stored : CursorMoves s (s.modTables (fun t => { t with sources := t.sources.set v e })) := .of_same rfl rfl
  have owned : CursorMoves s
      (if e.owner ≠ (s.tables.sources.get v).owner then
        sourceOwnerWritten v (!sameRectangle e (s.tables.sources.get v)) (s.modTables (fun t => { t with sources := t.sources.set v e }))
      else if sameRectangle e (s.tables.sources.get v) then s.modTables (fun t => { t with sources := t.sources.set v e })
      else sourceRectangleWritten v (s.modTables (fun t => { t with sources := t.sources.set v e }))) :=
    .ite (stored.trans (cursorMoves_sourceOwnerWritten _ _ _)) (.ite stored (stored.trans (cursorMoves_sourceRectangleWritten _ _)))
  unfold storeSource
  dsimp only
  generalize (if e.owner ≠ (s.tables.sources.get v).owner then _ else _ : State) = t at owned ⊢
  have private_ : Keeps [.handoffs, .sou] t (if e.priv ≠ (s.tables.sources.get v).priv then privateWritten v t else t) := by
    split <;> simp
  exact owned.sameLinks.trans (.of_cpe (private_ .cpe (by decide)))

theorem sameLinks_storeScreen (sc : Screen) (e : ScreenEntry) : SameLinks s (storeScreen sc e s) := by
  have stored : CursorMoves s (s.modTables (fun t => { t with screens := t.screens.set sc e })) := .of_same rfl rfl
  have placed : CursorMoves s
      (if samePlacement e (s.screenEntry sc) then s.modTables (fun t => { t with screens := t.screens.set sc e })
      else placementWritten sc (s.modTables (fun t => { t with screens := t.screens.set sc e }))) :=
    .ite stored (stored.trans (cursorMoves_placementWritten _ _))
  unfold storeScreen
  dsimp only
  generalize (if samePlacement e (s.screenEntry sc) then _ else _ : State) = t at placed ⊢
  have switched : Keeps [.handoffs, .xpc, .sou, .dms] t
      (switchFieldsWritten sc (s.screenEntry sc) (if (s.screenEntry sc).fade && !e.fade then fadeWrittenOff sc t else t)) := by
    split <;> simp
  exact placed.sameLinks.trans (.of_cpe (switched .cpe (by decide)))

end

/-! ## The write of a port entry (R80, R97, R181) -/

theorem sendReply_sent (kind : Nat) (q : Request) (r : Reply) (s : State) : (sendReply kind q r s).sent =
    s.sent ++ if (s.portEntry q.port).enabled = true ∧ (s.cpe.get q.port).link = .up then [.frame q.port (replyFrame kind q r)] else [] := by
  unfold sendReply State.sendFrame
  split
  · rfl
  · exact (List.append_nil _).symm

section
variable (i : Port) (e : PortEntry) (s : State)

theorem storePort_portEntry (p : Port) : (storePort i e s).portEntry p = if p = i then e else s.portEntry p := by
  rw [State.portEntry, storePort_tables]
  exact Tab.get_set _ _ _ _

theorem storePort_mfe : (storePort i e s).mfe = s.mfe :=
  (show Keeps [.handoffs, .sent, .tables, .cpe] s (storePort i e s) by simp).mfe

theorem sameLinks_storePort : SameLinks s (storePort i e s) := sameLinks_portWritten i _ _

/-- What a stored port entry sends its port (R181). -/
theorem storePort_sent : (storePort i e s).sent = s.sent ++
    if ((s.cpe.get i).linkState ≠ .active ∨ ((s.portEntry i).managementAllowed = false ∧ e.managementAllowed = true))
        ∧ (storePort i e s).managed i = true ∧ s.noticesWanted = true ∧ e.enabled = true ∧ (s.cpe.get i).link = .up then
      [.frame i (noticeFrame s.mfe.notices)]
    else [] := by
  have stored : (s.modTables (fun t => { t with ports := t.ports.set i e })).portEntry i = e := Tab.get_set_self _ _ _
  have wanted : (storePort i e s).noticesWanted = s.noticesWanted := by rw [State.noticesWanted, storePort_mfe]; rfl
  have entry : (storePort i e s).portEntry i = e := by rw [storePort_portEntry, if_pos rfl]
  have owed : owedNotice i (storePort i e s) =
      if (storePort i e s).managed i = true ∧ s.noticesWanted = true ∧ e.enabled = true ∧ (s.cpe.get i).link = .up then
        [.frame i (noticeFrame s.mfe.notices)]
      else [] := by
    rw [owedNotice, wanted, entry, sameLinks_storePort i e s i, storePort_mfe]
  have sent := portWritten_sent i (s.portEntry i) (s.modTables (fun t => { t with ports := t.ports.set i e }))
  rw [stored] at sent
  rw [ite_and, ← owed]
  exact sent

end

theorem portDenied_iff (q : Request) (i : Port) (e : PortEntry) : portDenied q i e = true ↔ i = q.port ∧ e.managementAllowed = false := by
  simp [portDenied]

theorem unclamped_eq_none {α : Type} (o : Option α) : unclamped o = none ↔ o = none := Option.map_eq_none_iff

theorem unclamped_of_some {α : Type} {o : Option α} {e : α} (h : o = some e) : unclamped o = some (e, false) := by rw [h]; rfl

section
variable (q : Request) (s : State) (managed : s.managed q.port = true) (idle : s.mfe.inFlight.get q.port = none)
  (enabled : (s.portEntry q.port).enabled = true) (up : (s.cpe.get q.port).link = .up)
include managed idle enabled up

/-- A port entry that passes is stored; the requesting port keeps its management, and is answered unless the write disables it
(R97, R177, R181). -/
theorem writePortEntry_accepted (w : RawPort) (i : Port) (e : PortEntry × Bool) (free : s.mfe.save = none) (index : q.arg2 = i.val + 1)
    (ok : checkPort w = some e) (allowed : i ≠ q.port ∨ e.1.managementAllowed = true) :
    ∃ t, exec (.writePortEntry q w) s = .next t
      ∧ t.tables = { s.tables with ports := s.tables.ports.set i e.1 }
      ∧ (t.portEntry q.port).managementAllowed = true
      ∧ t.sent = s.sent
        ++ (if ((s.cpe.get i).linkState ≠ .active
              ∨ ((s.portEntry i).managementAllowed = false ∧ e.1.managementAllowed = true))
            ∧ t.managed i = true ∧ s.noticesWanted = true ∧ e.1.enabled = true ∧ (s.cpe.get i).link = .up then
          [.frame i (noticeFrame s.mfe.notices)] else [])
        ++ (if i = q.port ∧ e.1.enabled = false then []
          else [.frame q.port (replyFrame 2 q { status := .ok, clamped := e.2, saveFailed := false, payload := [] })]) := by
  have passes : portDenied q i e.1 = false := by
    rw [← Bool.not_eq_true, portDenied_iff]
    rintro ⟨same, none⟩
    rcases allowed with other | given
    · exact other same
    · rw [none] at given; cases given
  refine ⟨_, write_stored (.writePortEntry q w) q (checkPort w) (portDenied q) (fun _ _ => false) storePort _ s rfl rfl managed idle free i
    index e.1 e.2 ok passes rfl, ?_⟩
  generalize ({ status := .ok, clamped := e.2, saveFailed := false, payload := [] } : Reply) = r
  have keeps : Keeps [.sent] (storePort i e.1 s) (sendReply 2 q r (storePort i e.1 s)) := by simp
  have cpe : (sendReply 2 q r (storePort i e.1 s)).cpe = (storePort i e.1 s).cpe := keeps .cpe (by decide)
  have tables := keeps.tables
  have same : (sendReply 2 q r (storePort i e.1 s)).managed i = (storePort i e.1 s).managed i := by
    rw [State.managed, State.managed, State.portEntry, State.portEntry, cpe, tables]
  refine ⟨tables.trans (storePort_tables i e.1 s), ?_, ?_⟩
  · rw [State.portEntry, tables]
    refine (congrArg PortEntry.managementAllowed (storePort_portEntry i e.1 s q.port)).trans ?_
    split
    · next own => exact allowed.resolve_left (fun other => other own.symm)
    · simp only [State.managed, Bool.and_eq_true] at managed
      exact managed.2
  · rw [same, sendReply_sent, storePort_sent, storePort_portEntry, sameLinks_storePort i e.1 s q.port]
    congr 1
    by_cases own : q.port = i
    · subst own
      cases on : e.1.enabled <;> simp [on, up]
    · rw [if_neg own, if_pos ⟨enabled, up⟩, if_neg (fun h => own h.1.symm)]

end

/-- Settles O51: the checks by their fields, and each write by what it refuses and what it stores. -/
theorem tableWritesTaken : Obligations.TableWritesTaken := by
  unfold Obligations.TableWritesTaken
  refine ⟨fun w => ⟨checkDesk_range w, fun e clamped h => ?_⟩, fun w => ⟨checkPort_eq_none w, checkPort_fields w⟩,
    fun w => ⟨checkSource_eq_none w, checkSource_fields w⟩, deskConflict_iff, ?_⟩
  · rw [← clampedFrom_iff]
    exact checkDesk_fields w e clamped h
  intro q s managed idle enabled up
  refine ⟨fun w => ?_, fun w => ?_, fun w => ?_, fun w => ?_, fun w => ?_, fun w => ?_⟩
  · obtain ⟨busy, range⟩ := write_refused (.writeDeskRecord q w) q (checkDesk w) (fun (_ : Fin 1) _ => false)
      (fun _ e => deskConflict s.tables e) (fun _ e => storeDesk e) _ s rfl rfl managed idle enabled up
    refine ⟨busy, fun free bad => range free (bad.imp_left (by omega)), fun e free index ok => ⟨fun no => ?_, fun fits => ?_⟩⟩
    · exact write_conflict (.writeDeskRecord q w) q (checkDesk w) (fun (_ : Fin 1) _ => false) (fun _ e => deskConflict s.tables e)
        (fun _ e => storeDesk e) _ s rfl rfl managed idle enabled up free 0 index e.1 e.2 ok rfl no
    · have keeps : Keeps [.handoffs, .tables, .hkm, .xpc, .dms, .sou, .mfe] s (storeDesk e.1 s) := by simp
      exact write_accepted (.writeDeskRecord q w) q (checkDesk w) (fun (_ : Fin 1) _ => false) (fun _ e => deskConflict s.tables e)
        (fun _ e => storeDesk e) _ s rfl rfl managed idle enabled up free 0 index e.1 e.2 ok rfl fits _ (storeDesk_tables e.1 s) rfl
        (keeps .sent (by decide)) (.of_cpe (keeps .cpe (by decide)))
  · obtain ⟨busy, range⟩ := write_refused (.writePortEntry q w) q (checkPort w) (portDenied q) (fun _ _ => false) storePort _ s rfl rfl
      managed idle enabled up
    refine ⟨busy, range, fun i e free index ok => ⟨fun own none => ?_, writePortEntry_accepted q s managed idle enabled up w i e free index ok⟩⟩
    exact write_denied (.writePortEntry q w) q (checkPort w) (portDenied q) (fun _ _ => false) storePort _ s rfl rfl managed idle enabled up
      free i index e.1 e.2 ok ((portDenied_iff q i e.1).mpr ⟨own, none⟩)
  · obtain ⟨busy, range⟩ := write_refused (.writeSourceEntry q w) q (unclamped (checkSource w)) (fun _ _ => false) (fun _ _ => false)
      storeSource _ s rfl rfl managed idle enabled up
    refine ⟨busy, fun free bad => range free (bad.imp_right (unclamped_eq_none _).mpr), fun i e free index ok => ?_⟩
    have keeps : Keeps [.handoffs, .tables, .fcu, .cpe, .sou] s (storeSource i e s) := by simp
    exact write_accepted (.writeSourceEntry q w) q (unclamped (checkSource w)) (fun _ _ => false) (fun _ _ => false) storeSource _ s rfl rfl
      managed idle enabled up free i index e false (unclamped_of_some ok) rfl rfl _ (storeSource_tables i e s) rfl (keeps .sent (by decide))
      (sameLinks_storeSource s i e)
  · obtain ⟨busy, range⟩ := write_refused (.writeScreenEntry q w) q (unclamped (checkScreen w)) (fun _ _ => false)
      (screenConflict s.tables) storeScreen _ s rfl rfl managed idle enabled up
    refine ⟨busy, fun free bad => range free (bad.imp_right (unclamped_eq_none _).mpr),
      fun i e free index ok => ⟨fun no => ?_, fun fits => ?_⟩⟩
    · exact write_conflict (.writeScreenEntry q w) q (unclamped (checkScreen w)) (fun _ _ => false) (screenConflict s.tables) storeScreen _ s
        rfl rfl managed idle enabled up free i index e false (unclamped_of_some ok) rfl no
    · have keeps : Keeps [.handoffs, .tables, .glu, .fcu, .cpe, .xpc, .dms, .sou] s (storeScreen i e s) := by simp
      exact write_accepted (.writeScreenEntry q w) q (unclamped (checkScreen w)) (fun _ _ => false) (screenConflict s.tables) storeScreen _ s
        rfl rfl managed idle enabled up free i index e false (unclamped_of_some ok) rfl fits _ (storeScreen_tables i e s) rfl
        (keeps .sent (by decide)) (sameLinks_storeScreen s i e)
  · obtain ⟨busy, range⟩ := write_refused (.writeLayoutEntry q w) q (unclamped (checkLayout w)) (fun _ _ => false) (fun _ _ => false)
      storeLayout _ s rfl rfl managed idle enabled up
    refine ⟨busy, fun free bad => range free (bad.imp_right (unclamped_eq_none _).mpr), fun i e free index ok => ?_⟩
    rw [write_stored (.writeLayoutEntry q w) q (unclamped (checkLayout w)) (fun _ _ => false) (fun _ _ => false) storeLayout _ s rfl rfl
      managed idle free i index e false (unclamped_of_some ok) rfl rfl, sendReply_eq 2 q _ (storeLayout i e s) enabled up]
    rfl
  · obtain ⟨busy, range⟩ := write_refused (.writeHotkeyEntry q w) q (unclamped (checkHotkey w)) (fun _ _ => false)
      (hotkeyConflict s.tables) storeHotkey _ s rfl rfl managed idle enabled up
    refine ⟨busy, fun free bad => range free (bad.imp_right (unclamped_eq_none _).mpr),
      fun i e free index ok => ⟨fun no => ?_, fun fits => ?_⟩⟩
    · exact write_conflict (.writeHotkeyEntry q w) q (unclamped (checkHotkey w)) (fun _ _ => false) (hotkeyConflict s.tables) storeHotkey _ s
        rfl rfl managed idle enabled up free i index e false (unclamped_of_some ok) rfl no
    · exact write_accepted (.writeHotkeyEntry q w) q (unclamped (checkHotkey w)) (fun _ _ => false) (hotkeyConflict s.tables) storeHotkey _ s
        rfl rfl managed idle enabled up free i index e false (unclamped_of_some ok) rfl fits _ (by rw [storeHotkey_eq]) rfl
        (by rw [storeHotkey_eq]) (.of_cpe (by rw [storeHotkey_eq]))

end Sys2Proof.Machine

/-!
PROOFS. The passed key events, the Focus actions, and lock, broadcast and dim override at Focus Control (R63, R65, R67, R69 to R71, R74
to R76).
-/

namespace Sys2Proof.Machine

/-! ## Passed key events (R63) -/

theorem takePassed_press (k : Key) (s : State) : takePassed k true s = { s with
    fcu := { s.fcu with passedKeys := keyInsert k s.fcu.passedKeys }
    handoffs := s.handoffs ++ (allPorts.filter s.isTarget).map (fun p => { src := .fcu, cmd := .portKeyPress p k }) } := by
  refine (foldl_handIf .fcu (fun p => .portKeyPress p k) (fun p => s.isTarget p = true) allPorts _).trans ?_
  simp only [Bool.decide_eq_true]
  rfl

theorem takePassed_release (k : Key) (s : State) : takePassed k false s = { s with
    fcu := { s.fcu with passedKeys := keyErase k s.fcu.passedKeys }
    handoffs := s.handoffs ++ allPorts.map (fun p =>
      { src := .fcu, cmd := if s.isTarget p then .portKeyRelease p k else .ignoreRelease p k }) } := by
  have one (t : State) (p : Port) :
      (if s.isTarget p then t.hand .fcu (.portKeyRelease p k) else t.hand .fcu (.ignoreRelease p k)) =
        t.hand .fcu (if s.isTarget p then .portKeyRelease p k else .ignoreRelease p k) := by split <;> rfl
  refine Eq.trans ?_ (foldl_hand .fcu (fun p => if s.isTarget p then .portKeyRelease p k else .ignoreRelease p k) allPorts
    (s.modFcu (fun f => { f with passedKeys := keyErase k f.passedKeys })))
  simp only [← one]
  rfl

/-- Settles O16: a press is one fold of hand-offs over the targets, a release one over all ports. -/
theorem passedEventReachesTargets : Obligations.PassedEventReachesTargets := fun k s =>
  ⟨congrArg Host.Outcome.next (takePassed_press k (s.taking (.passedEvent k true))),
    congrArg Host.Outcome.next (takePassed_release k (s.taking (.passedEvent k false)))⟩

/-! ## A Focus action (R65, R67, R69) -/

section
variable (c : Computer) (s : State)

theorem exec_focus_same (has : s.fcu.focus = some c) : exec (.focus c) s = .next { s with
    handoffs := withoutFirst (.focus c) s.handoffs ++ [{ src := .fcu, cmd := .jumpRequest c .hotkey }] } :=
  congrArg Host.Outcome.next ((focusTo_eq c .hotkey false (s.taking (.focus c))).trans (if_pos has))

theorem exec_focus_other (other : s.fcu.focus ≠ some c) : exec (.focus c) s = .next { s with
    fcu := { s.fcu with slot := none, focus := some c, lastCause := .hotkey }
    handoffs := withoutFirst (.focus c) s.handoffs ++ handedByFocus s (some c) .hotkey true } :=
  congrArg Host.Outcome.next ((focusTo_eq c .hotkey false (s.taking (.focus c))).trans (if_neg other))

end

/-- Settles O17: what a change of keyboard focus hands, written out for a change that jumps to a computer. -/
theorem focusChangeAppliedWhole : Obligations.FocusChangeAppliedWhole := by
  unfold Obligations.FocusChangeAppliedWhole
  refine ⟨fun c s other => ⟨_, exec_focus_other c s other, rfl, ?_⟩, exec_focus_same⟩
  have home : (s.fcu.focus.toList.map fun f => ({ src := .fcu, cmd := .homeRecordRequest f } : Handoff)) =
      match s.fcu.focus with
      | some f => [{ src := .fcu, cmd := .homeRecordRequest f }]
      | none => [] := by
    cases s.fcu.focus <;> rfl
  have wake : (((some c).toList.filter fun c => decide ((s.cpe.get c).linkState = .suspended) && (s.cpe.get c).wakeArmed).map
      fun c => ({ src := .fcu, cmd := .wakeRequest c } : Handoff)) =
      if (s.cpe.get c).linkState = .suspended ∧ (s.cpe.get c).wakeArmed = true then [{ src := .fcu, cmd := .wakeRequest c }] else [] := by
    split
    · next asleep => simp [asleep]
    · next awake => simpa using awake
  simp only [handedByFocus, if_true, home, wake, List.append_assoc]
  rfl

/-! ## Focus Next and Focus Previous (R70) -/

theorem isCandidate_iff (s : State) (p : Port) : isCandidate s p = true ↔
    (s.cpe.get p).linkState = .active ∨ (s.cpe.get p).linkState = .recovering
    ∨ ((s.cpe.get p).linkState = .suspended ∧ (s.cpe.get p).wakeArmed = true) := by
  unfold isCandidate
  cases (s.cpe.get p).linkState <;> simp

theorem mem_nextOrder (f : Option Computer) (p : Port) : p ∈ nextOrder f ↔ f ≠ some p := by
  have member : p ∈ allPorts := List.mem_finRange p
  cases f with
  | none => simp [nextOrder, member]
  | some f =>
    simp only [nextOrder, List.mem_append, List.mem_filter, member, true_and, decide_eq_true_eq, ne_eq, Option.some.injEq]
    exact lt_or_lt_iff_ne

theorem stepFocus_none (order : List Port) (s : State) (idle : ∀ p ∈ order, isCandidate s p = false) : stepFocus order s = s := by
  have found : order.find? (isCandidate s) = none := List.find?_eq_none.mpr fun p m => by simp [idle p m]
  rw [stepFocus, found]

theorem stepFocus_found (order : List Port) (s : State) (n : Computer) (others : ∀ p ∈ order, s.fcu.focus ≠ some p)
    (found : order.find? (isCandidate s) = some n) : stepFocus order s = { s with
      fcu := { s.fcu with slot := none, focus := some n, lastCause := .hotkey }
      handoffs := s.handoffs ++ handedByFocus s (some n) .hotkey true } := by
  rw [stepFocus, found]
  exact (focusTo_eq n .hotkey false s).trans (if_neg (others n (List.mem_of_find?_eq_some found)))

/-- After a keyboard focus the order holds the five others, counted upwards with wrapping. -/
theorem nextOrder_some (f : Computer) : (nextOrder (some f)).length = 5
    ∧ ∀ i : Fin 5, (nextOrder (some f))[i.val]? = some ⟨(f.val + 1 + i.val) % 6, Nat.mod_lt _ (by decide)⟩ := by
  revert f
  decide

/-- Settles O18: the order leaves out the keyboard focus, so its first candidate is a change of keyboard focus. -/
theorem focusSteps : Obligations.FocusSteps := by
  unfold Obligations.FocusSteps
  intro s order stepped
  have others (p : Port) (m : p ∈ order) : s.fcu.focus ≠ some p := (mem_nextOrder _ p).mp m
  have reversed (p : Port) (m : p ∈ order.reverse) : s.fcu.focus ≠ some p := others p (List.mem_reverse.mp m)
  refine ⟨isCandidate_iff s, fun idle => ⟨?_, ?_⟩, fun n found => ?_, fun n found => ?_, fun unset => ?_, fun f focus => ?_⟩
  · exact congrArg Host.Outcome.next (stepFocus_none order (s.taking .focusNext) fun p m => idle p (others p m))
  · exact congrArg Host.Outcome.next (stepFocus_none order.reverse (s.taking .focusPrevious) fun p m => idle p (reversed p m))
  · exact congrArg Host.Outcome.next (stepFocus_found order (s.taking .focusNext) n others found)
  · exact congrArg Host.Outcome.next (stepFocus_found order.reverse (s.taking .focusPrevious) n reversed found)
  · exact congrArg nextOrder unset
  · rw [show order = nextOrder (some f) from congrArg nextOrder focus]
    exact nextOrder_some f

/-! ## A momentary Focus and its return (R71) -/

section
variable (s : State)

theorem momentary_same (c : Computer) (has : s.fcu.focus = some c) : momentary c s = { s with
    fcu := { s.fcu with slot := some (some c) }
    handoffs := s.handoffs ++ [{ src := .fcu, cmd := .jumpRequest c .hotkey }] } := by
  refine (focusTo_eq c .hotkey true _).trans ((if_pos has).trans ?_)
  rw [← has]
  rfl

theorem momentary_other (c : Computer) (other : s.fcu.focus ≠ some c) : momentary c s = { s with
    fcu := { s.fcu with slot := some s.fcu.focus, focus := some c, lastCause := .hotkey }
    handoffs := s.handoffs ++ handedByFocus s (some c) .hotkey true } :=
  (focusTo_eq c .hotkey true _).trans (if_neg other)

theorem momentaryReturned_empty (slot : s.fcu.slot = none) : momentaryReturned s = s := by rw [momentaryReturned, slot]

section
variable (v : Option Computer) (slot : s.fcu.slot = some v)
include slot

theorem momentaryReturned_same (has : s.fcu.focus = v) : momentaryReturned s = { s with
    fcu := { s.fcu with slot := none }
    handoffs := s.handoffs ++ v.toList.map (fun c => { src := .fcu, cmd := .jumpRequest c .hotkey }) } := by
  rw [momentaryReturned, slot]
  cases v with
  | none =>
    refine (changeFocus_same none .hotkey false false (s.modFcu (fun f => { f with slot := none })) has).trans ?_
    rw [Option.toList_none, List.map_nil, List.append_nil]
    rfl
  | some c => exact (focusTo_eq c .hotkey false _).trans (if_pos has)

theorem momentaryReturned_other (other : s.fcu.focus ≠ v) : momentaryReturned s = { s with
    fcu := { s.fcu with slot := none, focus := v, lastCause := .hotkey }
    handoffs := s.handoffs ++ handedByFocus s v .hotkey v.isSome } := by
  rw [momentaryReturned, slot]
  cases v with
  | none => exact changeFocus_eq none .hotkey false false _ other
  | some c => exact (focusTo_eq c .hotkey false _).trans (if_neg other)

end

end

/-- Settles O19: each command by what it does to the slot, and by the change of keyboard focus that follows. -/
theorem momentaryFocusReturns : Obligations.MomentaryFocusReturns := by
  unfold Obligations.MomentaryFocusReturns
  refine ⟨fun c s => ⟨fun has => ?_, fun other => ?_⟩, fun v s slot => ⟨fun other => ?_, fun has => ?_⟩, fun s slot => ?_⟩
  · exact congrArg Host.Outcome.next (momentary_same (s.taking (.momentaryFocus c)) c has)
  · exact congrArg Host.Outcome.next (momentary_other (s.taking (.momentaryFocus c)) c other)
  · exact congrArg Host.Outcome.next (momentaryReturned_other (s.taking .momentaryReturn) v slot other)
  · exact congrArg Host.Outcome.next (momentaryReturned_same (s.taking .momentaryReturn) v slot has)
  · exact congrArg Host.Outcome.next (momentaryReturned_empty (s.taking .momentaryReturn) slot)

/-! ## Lock, broadcast and dim override (R74 to R76) -/

/-- When broadcast is toggled, the ports of the mask that are not the keyboard focus join or leave the targets (R75). -/
theorem leaveJoin_toggled (s : State) :
    leaveJoin s (s.modFcu (fun f => { f with broadcast := !f.broadcast })) = { s with
      fcu := { s.fcu with broadcast := !s.fcu.broadcast }
      handoffs := s.handoffs
        ++ (allPorts.filter (fun p => s.tables.desk.broadcastMask.get p && decide (s.fcu.focus ≠ some p))).map (fun p =>
          { src := .fcu, cmd := if s.fcu.broadcast then .leaveIndication p else .joinIndication p s.fcu.passedKeys }) } := by
  rw [leaveJoin_eq, ← List.filterMap_eq_map, List.filterMap_filter]
  refine congrArg (fun l => { s with fcu := { s.fcu with broadcast := !s.fcu.broadcast }, handoffs := s.handoffs ++ l })
    (congrArg (allPorts.filterMap ·) (funext fun p => ?_))
  by_cases has : s.fcu.focus = some p <;> cases on : s.fcu.broadcast <;> cases masked : s.tables.desk.broadcastMask.get p <;>
    simp [State.isTarget, has, on, masked]

theorem toggleBroadcast_eq (s : State) : toggleBroadcast s = { s with
    fcu := { s.fcu with broadcast := !s.fcu.broadcast }
    handoffs := s.handoffs
      ++ (allPorts.filter (fun p => s.tables.desk.broadcastMask.get p && decide (s.fcu.focus ≠ some p))).map (fun p =>
        { src := .fcu, cmd := if s.fcu.broadcast then .leaveIndication p else .joinIndication p s.fcu.passedKeys })
      ++ [{ src := .fcu, cmd := .noticeRaise .focusChanged }]
      ++ allScreens.map (fun sc => { src := .fcu, cmd := .targetRefresh sc }) } := by
  rw [toggleBroadcast, leaveJoin_toggled, refreshDims_eq]
  rfl

theorem setOverride_eq (b : Bool) (s : State) : setOverride b s =
    if s.fcu.dimOverride = b then s
    else { s with
      fcu := { s.fcu with dimOverride := b }
      handoffs := s.handoffs ++ allScreens.map (fun sc => { src := .fcu, cmd := .targetRefresh sc })
        ++ [{ src := .fcu, cmd := .noticeRaise .focusChanged }] } := by
  rw [setOverride, refreshDims_eq]
  rfl

/-- A dim override command is taken by asking for its value. -/
theorem exec_setOverride (c : Instr) (b : Bool) (s : State) (taken : exec c s = .next (setOverride b (s.taking c))) :
    exec c s = .next
      (if s.fcu.dimOverride = b then { s with handoffs := withoutFirst c s.handoffs }
      else { s with
        fcu := { s.fcu with dimOverride := b }
        handoffs := withoutFirst c s.handoffs ++ allScreens.map (fun sc => { src := .fcu, cmd := .targetRefresh sc })
          ++ [{ src := .fcu, cmd := .noticeRaise .focusChanged }] }) :=
  taken.trans (congrArg Host.Outcome.next (setOverride_eq b (s.taking c)))

/-- Settles O20: each toggle by what it sets and hands, and the three dim override commands as one. -/
theorem focusSwitchesToggle : Obligations.FocusSwitchesToggle := by
  unfold Obligations.FocusSwitchesToggle
  refine ⟨fun s => rfl, fun s => congrArg Host.Outcome.next (toggleBroadcast_eq (s.taking .broadcast)), fun s x m => ?_⟩
  refine exec_setOverride x.1 x.2 s ?_
  simp only [List.mem_cons, List.not_mem_nil, or_false] at m
  rcases m with rfl | rfl | rfl <;> rfl

end Sys2Proof.Machine

/-!
PROOFS. The pointer owner and the keyboard focus at Focus Control, said once: what a change of either makes of the focus record, of the
pointer-ignore sets and of the hand-offs, and what a cursor-screen change comes to (R64 to R69, R72, R78).
-/

namespace Sys2Proof.Machine

/-! ## Pointer reports among the hand-offs -/

/-- The commands that hand a port no pointer report. -/
def notPortReport (c : Instr) : Bool := !isPortReport c

/-- The pointer reports to ports among hand-offs. -/
def portReports (hs : List Handoff) : List Handoff := hs.filter (fun h => isPortReport h.cmd)

@[simp] theorem portReports_append (a b : List Handoff) : portReports (a ++ b) = portReports a ++ portReports b := List.filter_append ..

theorem portReports_eq_nil {l : List Handoff} (h : ∀ x ∈ l, notPortReport x.cmd = true) : portReports l = [] :=
  List.filter_eq_nil_iff.mpr fun x m => by simpa [notPortReport] using h x m

theorem Hands.portReports {s t : State} (h : Hands notPortReport s t) : portReports t.handoffs = portReports s.handoffs := by
  obtain ⟨new, e, ok⟩ := h
  rw [e, portReports_append, portReports_eq_nil ok, List.append_nil]

/-- What only grows the hand-offs, whatever it hands, hands commands of some kind. -/
theorem Hands.weaken {k l : Instr → Bool} {s t : State} (h : Hands k s t) (sub : ∀ c, k c = true → l c = true) : Hands l s t := by
  obtain ⟨new, e, ok⟩ := h
  exact ⟨new, e, fun x m => sub x.cmd (ok x m)⟩

/-- Any command. -/
def anyKind (_ : Instr) : Bool := true

theorem Hands.any {k : Instr → Bool} {s t : State} (h : Hands k s t) : Hands anyKind s t := h.weaken fun _ _ => rfl

/-- Taking a command that is no port report leaves the latest report handed to each port (R66, log 32). -/
theorem lastHanded_withoutFirst (c : Instr) (other : isPortReport c = false) (p : Port) (s : State) :
    (s.taking c).lastHanded p = s.lastHanded p := by
  suffices key : ∀ (hs : List Handoff) (r : Option PointerReport),
      (withoutFirst c hs).foldl (fun r h =>
        match h.cmd with
        | .portPointerReport q x => if q = p then some x else r
        | _ => r) r =
      hs.foldl (fun r h =>
        match h.cmd with
        | .portPointerReport q x => if q = p then some x else r
        | _ => r) r from key s.handoffs _
  intro hs
  induction hs with
  | nil => intro r; rfl
  | cons a hs ih =>
    intro r
    rw [withoutFirst]
    split
    · next same =>
      rw [List.foldl_cons, same]
      cases c
      case portPointerReport => cases other
      all_goals rfl
    · rw [List.foldl_cons, List.foldl_cons, ih]

/-! ## A change of keyboard focus (R65) -/

theorem hands_refreshDims (s : State) : Hands notPortReport s (refreshDims s) := by
  rw [refreshDims_eq]
  refine ⟨_, rfl, fun h m => ?_⟩
  obtain ⟨sc, -, rfl⟩ := List.mem_map.mp m
  rfl

theorem handedByFocus_notPortReport (s : State) (new : Option Computer) (cause : FocusCause) (jump : Bool) :
    ∀ h ∈ handedByFocus s new cause jump, notPortReport h.cmd = true := by
  have mapped {α : Type} (l : List α) (c : α → Instr) (ok : ∀ a, notPortReport (c a) = true) :
      ∀ h ∈ l.map (fun a => ({ src := .fcu, cmd := c a } : Handoff)), notPortReport h.cmd = true := by
    intro h m
    obtain ⟨a, -, rfl⟩ := List.mem_map.mp m
    exact ok a
  intro h m
  simp only [handedByFocus, List.mem_append, List.mem_singleton] at m
  rcases m with (((((m | m) | m) | m) | rfl) | m) | rfl
  · exact mapped _ _ (fun _ => rfl) h m
  · obtain ⟨p, -, hp⟩ := List.mem_filterMap.mp m
    (repeat' split at hp) <;> cases hp <;> rfl
  · exact mapped _ _ (fun _ => rfl) h m
  · exact mapped _ _ (fun _ => rfl) h m
  · rfl
  · exact mapped _ _ (fun _ => rfl) h m
  · rfl

section
variable (new : Option Computer) (cause : FocusCause) (jump keepSlot : Bool) (s : State)

theorem hands_changeFocus : Hands notPortReport s (changeFocus new cause jump keepSlot s) := by
  by_cases h : s.fcu.focus = new
  · rw [changeFocus_same new cause jump keepSlot s h]
    exact .refl s
  · rw [changeFocus_eq new cause jump keepSlot s h]
    exact ⟨_, rfl, handedByFocus_notPortReport s new cause jump⟩

@[simp] theorem changeFocus_focus : (changeFocus new cause jump keepSlot s).fcu.focus = new := by
  by_cases h : s.fcu.focus = new
  · rw [changeFocus_same new cause jump keepSlot s h, h]
  · rw [changeFocus_eq new cause jump keepSlot s h]

@[simp] theorem changeFocus_owner : (changeFocus new cause jump keepSlot s).fcu.owner = s.fcu.owner := by
  by_cases h : s.fcu.focus = new
  · rw [changeFocus_same new cause jump keepSlot s h]
  · rw [changeFocus_eq new cause jump keepSlot s h]

@[simp] theorem changeFocus_cpe : (changeFocus new cause jump keepSlot s).cpe = s.cpe :=
  (show Keeps [.handoffs, .fcu] s (changeFocus new cause jump keepSlot s) by simp) .cpe (by decide)

end

/-! ## A change of pointer owner (R66) -/

/-- The buttons-released report that a pointer owner who is left is handed, where one is due (R66, step 1). -/
def releasedReport (s : State) : Option Computer → List Handoff
  | none => []
  | some o =>
    match (Flags.minus s.passedButtons (s.cpe.get o).pointerIgnored).any, s.lastHanded o with
    | true, some r => [{ src := .fcu, cmd := .portPointerReport o { r with buttons := Flags.none, wheel := 0 } }]
    | true, none => []
    | false, _ => []

theorem releaseOwner_some (o : Computer) (s : State) : releaseOwner (some o) s = { s with
    cpe := s.cpe.upd o (fun e => { e with pointerIgnored := Flags.none })
    handoffs := s.handoffs ++ releasedReport s (some o) } := by
  simp only [releaseOwner, releasedReport]
  cases s.lastHanded o <;> cases (Flags.minus s.passedButtons (s.cpe.get o).pointerIgnored).any <;> simp [State.modCpe, State.hand]

/-- The engines after a change of pointer owner: the pointer-ignore sets of the two owners are what has changed (R66). -/
def ownedEngines (s : State) (new : Option Computer) : Tab 6 Cpe := (claimOwner new (releaseOwner s.fcu.owner s)).cpe

section
variable (new : Option Computer) (s : State)

theorem claimOwner_releaseOwner : claimOwner new (releaseOwner s.fcu.owner s) =
    { s with cpe := ownedEngines s new, handoffs := s.handoffs ++ releasedReport s s.fcu.owner } := by
  unfold ownedEngines
  cases s.fcu.owner with
  | none => cases new <;> simp [claimOwner, releaseOwner, releasedReport, State.modCpe]
  | some o => cases new <;> simp [claimOwner, releaseOwner_some, State.modCpe]

theorem ownedEngines_left (o : Computer) (had : s.fcu.owner = some o) (other : new ≠ some o) :
    ((ownedEngines s new).get o).pointerIgnored = Flags.none := by
  rw [ownedEngines, had, releaseOwner_some]
  cases new with
  | none => exact congrArg Cpe.pointerIgnored (Tab.get_upd_self _ _ _)
  | some m =>
    have apart : o ≠ m := fun same => other (congrArg some same.symm)
    simp [claimOwner, apart]

theorem ownedEngines_new (m : Computer) (had : s.fcu.owner ≠ some m) (b : Fin 5) :
    ((ownedEngines s (some m)).get m).pointerIgnored.get b = (s.passedButtons.get b || (s.cpe.get m).pointerIgnored.get b) := by
  rw [ownedEngines]
  cases owner : s.fcu.owner with
  | none => simp [claimOwner, releaseOwner]
  | some o =>
    have apart : m ≠ o := fun same => had (by rw [owner, same])
    simp [claimOwner, releaseOwner_some, apart, State.passedButtons]

end

section
variable (new : Option Computer) (cause : FocusCause) (notice : Bool) (s : State)

theorem changeOwner_same (h : s.fcu.owner = new) : changeOwner new cause notice s = s := if_pos h

theorem changeOwner_eq (h : s.fcu.owner ≠ new) : changeOwner new cause notice s = { s with
    fcu := { s.fcu with owner := new, lastCause := cause }
    cpe := ownedEngines s new
    handoffs := s.handoffs ++ releasedReport s s.fcu.owner
      ++ (if notice then [{ src := .fcu, cmd := .cursorNotice }] else [])
      ++ allScreens.map (fun sc => { src := .fcu, cmd := .targetRefresh sc })
      ++ [{ src := .fcu, cmd := .noticeRaise .focusChanged }] } := by
  refine (if_neg h).trans ?_
  rw [claimOwner_releaseOwner]
  dsimp only
  rw [refreshDims_eq]
  cases notice
  · rw [if_neg Bool.false_ne_true, if_neg Bool.false_ne_true, List.append_nil]
    rfl
  · rfl

end

/-! ## The pointer owner recomputed (R64) -/

section
variable (cause : FocusCause) (notice : Bool) (s : State)

/-- The focus record after the pointer owner is recomputed. -/
theorem recomputeOwner_fcu : (recomputeOwner cause notice s).fcu =
    if s.fcu.owner = s.screenOwner s.glu.screen then s.fcu
    else { s.fcu with owner := s.screenOwner s.glu.screen, lastCause := cause } := by
  rw [recomputeOwner]
  split
  · next same => rw [changeOwner_same _ _ _ _ same]
  · next other => rw [changeOwner_eq _ _ _ _ other]

@[simp] theorem recomputeOwner_owner : (recomputeOwner cause notice s).fcu.owner = s.screenOwner s.glu.screen := by
  rw [recomputeOwner_fcu]
  split
  · next same => exact same
  · rfl

@[simp] theorem recomputeOwner_focus : (recomputeOwner cause notice s).fcu.focus = s.fcu.focus := by
  rw [recomputeOwner_fcu]
  split <;> rfl

@[simp] theorem recomputeOwner_lock : (recomputeOwner cause notice s).fcu.lock = s.fcu.lock := by
  rw [recomputeOwner_fcu]
  split <;> rfl

/-- A change of owner hands one port report at most, the one to the owner left (R66, step 1). -/
theorem recomputeOwner_portReports (other : s.fcu.owner ≠ s.screenOwner s.glu.screen) :
    portReports (recomputeOwner cause notice s).handoffs =
      portReports s.handoffs ++ portReports (releasedReport s s.fcu.owner) := by
  rw [recomputeOwner, changeOwner_eq _ _ _ _ other]
  have refreshed : portReports (allScreens.map fun sc => { src := .fcu, cmd := .targetRefresh sc }) = [] :=
    portReports_eq_nil fun h m => by
      obtain ⟨sc, -, rfl⟩ := List.mem_map.mp m
      rfl
  simp only [portReports_append, refreshed, List.append_nil]
  cases notice <;> simp [portReports, isPortReport]

end

theorem portReports_releasedReport (s : State) (old : Option Computer) :
    portReports (releasedReport s old) = releasedReport s old := by
  unfold releasedReport
  (repeat' split) <;> rfl

/-! ## A cursor-screen change (R68, R78) -/

/-- The cause of a change of focus record that a cursor-screen change makes (R68, R78). -/
def focusCauseOf : CursorCause → FocusCause
  | .glide => .glide
  | .management => .management
  | .restart => .restart

/-- Does a cursor-screen change hand a cursor notice with its change of owner (R68, R78)? -/
def noticesOwner : CursorCause → Bool
  | .glide | .management => false
  | .restart => true

/-- Does a cursor-screen change leave the keyboard focus, though its screen has an owner (R68, log 56)? -/
def leavesFocus (c : CursorCause) (s : State) (m : Computer) : Bool :=
  match c with
  | .glide => decide (s.fcu.owner = some m)
  | .management => decide (s.fcu.owner = some m) || s.fcu.lock
  | .restart => false

theorem cursorScreenChanged_eq (c : CursorCause) (s : State) : cursorScreenChanged c s =
    match s.screenOwner s.glu.screen with
    | none => recomputeOwner (focusCauseOf c) (noticesOwner c) s
    | some m =>
      if leavesFocus c s m then recomputeOwner (focusCauseOf c) (noticesOwner c) s
      else changeFocus (some m) (focusCauseOf c) false false (recomputeOwner (focusCauseOf c) (noticesOwner c) s) := by
  cases c
  case glide =>
    simp only [cursorScreenChanged, followOwner, recomputeOwner_owner]
    cases s.screenOwner s.glu.screen <;> simp [focusCauseOf, noticesOwner, leavesFocus]
  case management =>
    simp only [cursorScreenChanged, followOwner, recomputeOwner_owner, recomputeOwner_lock]
    cases s.screenOwner s.glu.screen <;> cases lock : s.fcu.lock <;>
      simp [focusCauseOf, noticesOwner, leavesFocus, lock]
  case restart =>
    simp only [cursorScreenChanged, recomputeOwner_owner]
    cases s.screenOwner s.glu.screen <;> simp [focusCauseOf, noticesOwner, leavesFocus]

/-- After the pointer owner is recomputed, a cursor-screen change is at most a change of keyboard focus. -/
theorem cursorScreenChanged_cases (c : CursorCause) (s : State) :
    cursorScreenChanged c s = recomputeOwner (focusCauseOf c) (noticesOwner c) s
    ∨ ∃ m, cursorScreenChanged c s =
      changeFocus (some m) (focusCauseOf c) false false (recomputeOwner (focusCauseOf c) (noticesOwner c) s) := by
  rw [cursorScreenChanged_eq]
  (repeat' split)
  · exact .inl rfl
  · exact .inl rfl
  · exact .inr ⟨_, rfl⟩

section
variable (c : CursorCause) (s : State)

theorem cursorScreenChanged_owner : (cursorScreenChanged c s).fcu.owner = s.screenOwner s.glu.screen := by
  obtain h | ⟨m, h⟩ := cursorScreenChanged_cases c s
  · rw [h, recomputeOwner_owner]
  · rw [h, changeFocus_owner, recomputeOwner_owner]

theorem cursorScreenChanged_focus : (cursorScreenChanged c s).fcu.focus =
    match s.screenOwner s.glu.screen, c with
    | none, _ => s.fcu.focus
    | some m, .glide => if s.fcu.owner = some m then s.fcu.focus else some m
    | some m, .management => if s.fcu.owner = some m ∨ s.fcu.lock = true then s.fcu.focus else some m
    | some m, .restart => some m := by
  rw [cursorScreenChanged_eq]
  cases s.screenOwner s.glu.screen with
  | none => exact recomputeOwner_focus _ _ s
  | some m =>
    have left : (if leavesFocus c s m then recomputeOwner (focusCauseOf c) (noticesOwner c) s
        else changeFocus (some m) (focusCauseOf c) false false (recomputeOwner (focusCauseOf c) (noticesOwner c) s)).fcu.focus =
        if leavesFocus c s m then s.fcu.focus else some m := by
      split <;> simp
    refine left.trans ?_
    cases c <;> simp [leavesFocus]

theorem cursorScreenChanged_portReports :
    portReports (cursorScreenChanged c s).handoffs = portReports (recomputeOwner (focusCauseOf c) (noticesOwner c) s).handoffs := by
  obtain h | ⟨m, h⟩ := cursorScreenChanged_cases c s
  · rw [h]
  · rw [h]
    exact (hands_changeFocus _ _ _ _ _).portReports

theorem cursorScreenChanged_cpe (other : s.fcu.owner ≠ s.screenOwner s.glu.screen) :
    (cursorScreenChanged c s).cpe = ownedEngines s (s.screenOwner s.glu.screen) := by
  have owned : (recomputeOwner (focusCauseOf c) (noticesOwner c) s).cpe = ownedEngines s (s.screenOwner s.glu.screen) := by
    rw [recomputeOwner, changeOwner_eq _ _ _ _ other]
  obtain h | ⟨m, h⟩ := cursorScreenChanged_cases c s
  · rw [h, owned]
  · rw [h, changeFocus_cpe, owned]

end

/-- Settles O21: the pointer owner is recomputed, and all that may follow is a change of keyboard focus, which leaves the engines and
hands no port report. -/
theorem cursorScreenChangeTaken : Obligations.CursorScreenChangeTaken := by
  unfold Obligations.CursorScreenChangeTaken
  refine ⟨fun c s => ⟨_, rfl, cursorScreenChanged_owner c _, cursorScreenChanged_focus c (s.taking (.cursorScreenChange c))⟩, ?_⟩
  intro c s other handed
  refine ⟨_, rfl, ?_⟩
  have cpe := cursorScreenChanged_cpe c (s.taking (.cursorScreenChange c)) other
  have reports := (cursorScreenChanged_portReports c (s.taking (.cursorScreenChange c))).trans
    (recomputeOwner_portReports (focusCauseOf c) (noticesOwner c) _ other)
  rw [portReports_releasedReport] at reports
  rw [cpe]
  refine ⟨fun unowned => ?_, fun o had => ⟨?_, ?_⟩, fun m owns b => ?_⟩
  · rw [show (s.taking (.cursorScreenChange c)).fcu.owner = none from unowned] at reports
    exact reports.trans (List.append_nil _)
  · exact ownedEngines_left _ _ o had fun same => other (had.trans same.symm)
  · rw [show (s.taking (.cursorScreenChange c)).fcu.owner = some o from had] at reports
    rw [← lastHanded_withoutFirst (.cursorScreenChange c) rfl o s]
    exact reports
  · rw [show (s.taking (.cursorScreenChange c)).screenOwner (s.taking (.cursorScreenChange c)).glu.screen = some m from owns]
    exact ownedEngines_new (s.taking (.cursorScreenChange c)) m (fun had => other (had.trans owns.symm)) b

end Sys2Proof.Machine

/-!
PROOFS. What Focus Control makes of the answer to a jump, a switch notice, a layout completion, and the table writes that concern it
(R65, R69, R72, R73, R75, R78, R104).
-/

namespace Sys2Proof.Machine

/-! ## The owner recomputed with a notice in every case (R69, R72) -/

/-- The pointer owner is recomputed, and the Glide Unit is handed a cursor notice whether it changes or not (R69, R72). -/
def ownerNoticed (cause : FocusCause) (s : State) : State :=
  if (recomputeOwner cause true s).fcu.owner = s.fcu.owner then (recomputeOwner cause true s).hand .fcu .cursorNotice
  else recomputeOwner cause true s

section
variable (cause : FocusCause) (s : State)

theorem jumpAnswered_some (c : Computer) (sc : Screen) : jumpAnswered c cause (some sc) s =
    if (ownerNoticed cause s).fcu.owner = some c then changeFocus (some c) cause false true (ownerNoticed cause s)
    else ownerNoticed cause s := rfl

theorem cursorScreenRouted_eq : cursorScreenRouted cause s =
    if (ownerNoticed cause s).fcu.lock then ownerNoticed cause s else followOwner cause s (ownerNoticed cause s) := rfl

theorem ownerNoticed_fcu : (ownerNoticed cause s).fcu = (recomputeOwner cause true s).fcu := by
  unfold ownerNoticed
  split <;> rfl

theorem cursorNotice_mem_ownerNoticed : { src := .fcu, cmd := .cursorNotice } ∈ (ownerNoticed cause s).handoffs := by
  unfold ownerNoticed
  rw [recomputeOwner_owner]
  split
  · exact List.mem_append_right _ (List.mem_singleton.mpr rfl)
  · next other =>
    rw [recomputeOwner, changeOwner_eq _ _ _ _ (fun same => other same.symm)]
    simp

end

section
variable (cause : FocusCause) (before s : State)

/-- What follows a pointer owner is nothing, or a change of keyboard focus to it. -/
theorem followOwner_cases :
    followOwner cause before s = s ∨ ∃ m, followOwner cause before s = changeFocus (some m) cause false false s := by
  unfold followOwner
  (repeat' split)
  · exact .inl rfl
  · exact .inr ⟨_, rfl⟩
  · exact .inl rfl

theorem followOwner_owner : (followOwner cause before s).fcu.owner = s.fcu.owner := by
  obtain h | ⟨m, h⟩ := followOwner_cases cause before s
  · rw [h]
  · rw [h, changeFocus_owner]

theorem hands_followOwner : Hands notPortReport s (followOwner cause before s) := by
  obtain h | ⟨m, h⟩ := followOwner_cases cause before s
  · rw [h]
    exact .refl s
  · rw [h]
    exact hands_changeFocus _ _ _ _ s

theorem followOwner_focus : (followOwner cause before s).fcu.focus =
    match s.fcu.owner with
    | none => s.fcu.focus
    | some m => if before.fcu.owner = some m then s.fcu.focus else some m := by
  unfold followOwner
  cases s.fcu.owner with
  | none => rfl
  | some m =>
    dsimp only
    split
    · rfl
    · exact changeFocus_focus ..

end

section
variable (cause : FocusCause) (s : State)

theorem cursorScreenRouted_owner : (cursorScreenRouted cause s).fcu.owner = s.screenOwner s.glu.screen := by
  rw [cursorScreenRouted_eq]
  split
  · rw [ownerNoticed_fcu, recomputeOwner_owner]
  · rw [followOwner_owner, ownerNoticed_fcu, recomputeOwner_owner]

theorem cursorScreenRouted_focus : (cursorScreenRouted cause s).fcu.focus =
    match s.screenOwner s.glu.screen with
    | none => s.fcu.focus
    | some m => if s.fcu.owner = some m ∨ s.fcu.lock = true then s.fcu.focus else some m := by
  rw [cursorScreenRouted_eq, ownerNoticed_fcu, recomputeOwner_lock]
  cases lock : s.fcu.lock with
  | true =>
    rw [if_pos rfl, ownerNoticed_fcu, recomputeOwner_focus]
    cases s.screenOwner s.glu.screen <;> simp
  | false =>
    rw [if_neg Bool.false_ne_true, followOwner_focus, ownerNoticed_fcu, recomputeOwner_owner, recomputeOwner_focus]
    cases s.screenOwner s.glu.screen <;> simp

theorem cursorNotice_mem_cursorScreenRouted : { src := .fcu, cmd := .cursorNotice } ∈ (cursorScreenRouted cause s).handoffs := by
  rw [cursorScreenRouted_eq]
  split
  · exact cursorNotice_mem_ownerNoticed cause s
  · exact (hands_followOwner cause s _).mem (cursorNotice_mem_ownerNoticed cause s)

end

/-! ## The answer to a jump and a switch notice (R69, R72) -/

theorem jumpAnswered_landed (n : Computer) (cause : FocusCause) (sc : Screen) (s : State) :
    (jumpAnswered n cause (some sc) s).fcu.owner = s.screenOwner s.glu.screen
    ∧ { src := .fcu, cmd := .cursorNotice } ∈ (jumpAnswered n cause (some sc) s).handoffs
    ∧ (jumpAnswered n cause (some sc) s).fcu.focus = if s.screenOwner s.glu.screen = some n then some n else s.fcu.focus := by
  have owner : (ownerNoticed cause s).fcu.owner = s.screenOwner s.glu.screen := by rw [ownerNoticed_fcu, recomputeOwner_owner]
  rw [jumpAnswered_some, owner]
  split
  · exact ⟨by rw [changeFocus_owner, owner], (hands_changeFocus ..).mem (cursorNotice_mem_ownerNoticed cause s), changeFocus_focus ..⟩
  · exact ⟨owner, cursorNotice_mem_ownerNoticed cause s, by rw [ownerNoticed_fcu, recomputeOwner_focus]⟩

@[simp] theorem refreshDims_fcu (s : State) : (refreshDims s).fcu = s.fcu := by rw [refreshDims_eq]

theorem switchNoticed_other (sc : Screen) (s : State) (other : sc ≠ s.glu.screen) : switchNoticed sc s = { s with
    handoffs := s.handoffs ++ allScreens.map (fun d => { src := .fcu, cmd := .targetRefresh d }) } := by
  rw [switchNoticed, if_neg other, refreshDims_eq]

theorem switchNoticed_cursor (sc : Screen) (s : State) (cursor : sc = s.glu.screen) :
    switchNoticed sc s = refreshDims (cursorScreenRouted .route s) := by rw [switchNoticed, if_pos cursor]

/-! ## A layout completion (R73, R78) -/

/-- A change of keyboard focus, with the case in which it is what it was. -/
theorem changeFocus_ite (new : Option Computer) (cause : FocusCause) (jump keepSlot : Bool) (s : State) :
    changeFocus new cause jump keepSlot s = if s.fcu.focus = new then s else { s with
      fcu := { s.fcu with slot := if keepSlot then s.fcu.slot else none, focus := new, lastCause := cause }
      handoffs := s.handoffs ++ handedByFocus s new cause jump } := by
  split
  · next same => exact changeFocus_same new cause jump keepSlot s same
  · next other => exact changeFocus_eq new cause jump keepSlot s other

theorem layoutCompleted_left (f : FocusField) (s : State) (h : f = .keep ∨ (f = .follow ∧ s.fcu.owner = none)) :
    layoutCompleted f false s = s := by
  rcases h with rfl | ⟨rfl, unowned⟩
  · rfl
  · simp [layoutCompleted, unowned]

/-- A Follow field, and every field of Keep at a restart, takes the keyboard focus to the pointer owner (R73, R78). -/
theorem layoutCompleted_follows (f : FocusField) (restart : Bool) (s : State)
    (h : (f = .follow ∧ (restart = true ∨ s.fcu.owner ≠ none)) ∨ (f = .keep ∧ restart = true)) :
    layoutCompleted f restart s = changeFocus s.fcu.owner (if restart = true then .restart else .layout) false false s := by
  rcases h with ⟨rfl, owned⟩ | ⟨rfl, rfl⟩
  · unfold layoutCompleted
    cases owner : s.fcu.owner with
    | some c => rfl
    | none =>
      obtain rfl : restart = true := owned.resolve_right fun h => h owner
      rfl
  · rfl

/-! ## A source entry written (R72, R104) -/

theorem sameRectangle_iff (a b : SourceEntry) : sameRectangle a b = true ↔ a.x0 = b.x0 ∧ a.y0 = b.y0 ∧ a.w = b.w ∧ a.h = b.h := by
  simp [sameRectangle, and_assoc]

section
variable (v : Source) (e : SourceEntry) (s : State)

/-- A source entry stored, before the blocks that it concerns are told (R104). -/
def sourceStored : State := s.modTables (fun t => { t with sources := t.sources.set v e })

/-- A source entry stored and taken by Focus Control (R72, R104). -/
def sourceTaken : State :=
  if e.owner ≠ (s.tables.sources.get v).owner then
    sourceOwnerWritten v (!sameRectangle e (s.tables.sources.get v)) (sourceStored v e s)
  else if sameRectangle e (s.tables.sources.get v) then sourceStored v e s
  else sourceRectangleWritten v (sourceStored v e s)

theorem storeSource_eq : storeSource v e s =
    if e.priv ≠ (s.tables.sources.get v).priv then privateWritten v (sourceTaken v e s) else sourceTaken v e s := rfl

theorem storeSource_fcu : (storeSource v e s).fcu = (sourceTaken v e s).fcu := by
  have blanked : Keeps [.handoffs, .sou] (sourceTaken v e s) (storeSource v e s) := by
    rw [storeSource_eq]
    split <;> simp
  exact blanked .fcu (by decide)

theorem hands_storeSource : Hands routed (sourceTaken v e s) (storeSource v e s) := by
  rw [storeSource_eq]
  refine .ite (fun _ => ?_) (fun _ => .refl _)
  exact .foldl (fun (t : State) o => if (t.sou.get o).wanted = some v then recomputeBlanked o t else t)
    (fun t o => .ite (fun _ => hands_recomputeBlanked o t) (fun _ => .refl t)) _ _

/-- Does a written entry give the active source of the cursor screen a new owner (R72)? -/
def ownsCursor : Bool := decide (s.active s.glu.screen = some v) && decide (e.owner ≠ (s.tables.sources.get v).owner)

theorem ownsCursor_iff : ownsCursor v e s = true ↔ s.active s.glu.screen = some v ∧ e.owner ≠ (s.tables.sources.get v).owner := by
  simp [ownsCursor]

/-- The active source of the cursor screen has a new owner: the cursor screen is routed anew (R72). -/
theorem sourceTaken_owned (cursor : s.active s.glu.screen = some v) (owner : e.owner ≠ (s.tables.sources.get v).owner) :
    sourceTaken v e s = refreshDims (cursorScreenRouted .management (sourceStored v e s)) := by
  rw [sourceTaken, if_pos owner, sourceOwnerWritten]
  exact congrArg refreshDims (if_pos cursor)

theorem sourceStored_screenOwner (cursor : s.active s.glu.screen = some v) : (sourceStored v e s).screenOwner s.glu.screen = e.owner := by
  have shown : (sourceStored v e s).screenOwner s.glu.screen = (sourceStored v e s).ownerOf (some v) :=
    congrArg (sourceStored v e s).ownerOf cursor
  rw [shown]
  exact congrArg SourceEntry.owner (Tab.get_set_self s.tables.sources v e)

/-- A write that gives the cursor screen's source no new owner leaves the focus record (R72). -/
theorem sourceTaken_unowned_fcu (h : ¬(s.active s.glu.screen = some v ∧ e.owner ≠ (s.tables.sources.get v).owner)) :
    (sourceTaken v e s).fcu = s.fcu := by
  unfold sourceTaken
  split
  · next owner =>
    have elsewhere : (sourceStored v e s).active (sourceStored v e s).glu.screen ≠ some v := fun cursor => h ⟨cursor, owner⟩
    rw [sourceOwnerWritten, if_neg elsewhere, refreshDims_fcu]
    split <;> rfl
  · split
    · rfl
    · unfold sourceRectangleWritten
      split
      · rfl
      · exact refreshDims_fcu _

/-- A new owner of the cursor screen's source, and a new rectangle of the cursor source, are noticed (R72, R104). -/
theorem cursorNotice_mem_sourceTaken
    (h : (s.active s.glu.screen = some v ∧ e.owner ≠ (s.tables.sources.get v).owner)
      ∨ (sameRectangle e (s.tables.sources.get v) = false ∧ (s.active s.glu.screen = some v ∨ s.glu.source = some v))) :
    { src := .fcu, cmd := .cursorNotice } ∈ (sourceTaken v e s).handoffs := by
  have handed (t : State) : { src := .fcu, cmd := .cursorNotice } ∈ (t.hand .fcu .cursorNotice).handoffs :=
    List.mem_append_right _ (List.mem_singleton.mpr rfl)
  by_cases owner : e.owner ≠ (s.tables.sources.get v).owner
  · by_cases cursor : s.active s.glu.screen = some v
    · rw [sourceTaken_owned v e s cursor owner]
      exact (hands_refreshDims _).mem (cursorNotice_mem_cursorScreenRouted _ _)
    · obtain ⟨moved, source⟩ := h.resolve_left fun h => cursor h.1
      have elsewhere : (sourceStored v e s).active (sourceStored v e s).glu.screen ≠ some v := cursor
      rw [sourceTaken, if_pos owner, sourceOwnerWritten, if_neg elsewhere, if_pos ⟨by rw [moved]; rfl, source.resolve_left cursor⟩]
      exact (hands_refreshDims _).mem (handed _)
  · obtain ⟨moved, shown⟩ := h.resolve_left fun h => owner h.2
    have concerned : (sourceStored v e s).active (sourceStored v e s).glu.screen = some v ∨ (sourceStored v e s).glu.source = some v := shown
    rw [sourceTaken, if_neg owner, moved, if_neg Bool.false_ne_true, sourceRectangleWritten, if_pos concerned]
    exact handed _

/-- A new owner makes every Dim Stage take its target anew (R104). -/
theorem targetRefresh_mem_sourceTaken (owner : e.owner ≠ (s.tables.sources.get v).owner) (sc : Screen) :
    { src := .fcu, cmd := .targetRefresh sc } ∈ (sourceTaken v e s).handoffs := by
  rw [sourceTaken, if_pos owner, sourceOwnerWritten, refreshDims_eq]
  exact List.mem_append_right _ (List.mem_map.mpr ⟨sc, List.mem_finRange sc, rfl⟩)

theorem storeSource_unchanged (same : e = s.tables.sources.get v) : (storeSource v e s).handoffs = s.handoffs := by
  subst same
  have rectangle : sameRectangle (s.tables.sources.get v) (s.tables.sources.get v) = true := (sameRectangle_iff _ _).mpr ⟨rfl, rfl, rfl, rfl⟩
  rw [storeSource_eq, if_neg (not_not_intro rfl), sourceTaken, if_neg (not_not_intro rfl), if_pos rectangle]
  rfl

/-- What a stored source entry makes of the pointer owner and the keyboard focus (R72). -/
theorem storeSource_owner : (storeSource v e s).fcu.owner = if ownsCursor v e s = true then e.owner else s.fcu.owner := by
  rw [storeSource_fcu]
  split
  · next owned =>
    obtain ⟨cursor, owner⟩ := (ownsCursor_iff v e s).mp owned
    rw [sourceTaken_owned v e s cursor owner, refreshDims_fcu, cursorScreenRouted_owner]
    exact sourceStored_screenOwner v e s cursor
  · next unowned => rw [sourceTaken_unowned_fcu v e s (mt (ownsCursor_iff v e s).mpr unowned)]

theorem storeSource_focus : (storeSource v e s).fcu.focus =
    match e.owner with
    | some c => if ownsCursor v e s = true ∧ s.fcu.lock = false ∧ s.fcu.owner ≠ some c then some c else s.fcu.focus
    | none => s.fcu.focus := by
  rw [storeSource_fcu]
  by_cases owned : ownsCursor v e s = true
  · obtain ⟨cursor, owner⟩ := (ownsCursor_iff v e s).mp owned
    rw [sourceTaken_owned v e s cursor owner, refreshDims_fcu, cursorScreenRouted_focus]
    rw [show (sourceStored v e s).screenOwner (sourceStored v e s).glu.screen = e.owner from sourceStored_screenOwner v e s cursor]
    have same : (sourceStored v e s).fcu = s.fcu := rfl
    rw [owned, same]
    cases e.owner with
    | none => rfl
    | some c => cases s.fcu.lock <;> by_cases had : s.fcu.owner = some c <;> simp [had]
  · rw [sourceTaken_unowned_fcu v e s (mt (ownsCursor_iff v e s).mpr owned)]
    cases e.owner with
    | none => rfl
    | some c => exact (if_neg fun h => owned h.1).symm

end

/-- A source entry written by a served request is stored, and answered OK. -/
theorem exec_writeSourceEntry_stored (q : Request) (w : RawSource) (v : Source) (s : State) (served : Served s q)
    (index : q.arg2 = v.val + 1) (e : SourceEntry) (ok : checkSource w = some e) :
    exec (.writeSourceEntry q w) s = .next (sendReply 2 q (plainReply .ok) (storeSource v e s)) := by
  obtain ⟨managed, idle, free, -, -⟩ := served
  exact write_stored (.writeSourceEntry q w) q (unclamped (checkSource w)) (fun _ _ => false) (fun _ _ => false) storeSource _ s rfl rfl
    managed idle free v index e false (unclamped_of_some ok) rfl rfl

/-! ## A desk record written under broadcast (R75) -/

theorem hands_matcherTablesChanged (s : State) : Hands anyKind s (matcherTablesChanged s) := by
  rw [matcherTablesChanged_eq]
  exact ⟨_, rfl, fun _ _ => rfl⟩

/-- The leaves and joins of a stored desk record are handed first, and what follows only hands on. -/
theorem hands_storeDesk_leaveJoin (e : DeskRecord) (s : State) :
    Hands anyKind (leaveJoin s (s.modTables (fun t => { t with desk := e }))) (storeDesk e s) := by
  unfold storeDesk
  dsimp only
  generalize leaveJoin s (s.modTables (fun t => { t with desk := e })) = j
  have refreshed : Hands anyKind j (refreshDims j) := (hands_refreshDims j).any
  have matched : Hands anyKind j (if e.prefixKey ≠ s.tables.desk.prefixKey ∨ e.tapCount ≠ s.tables.desk.tapCount
      ∨ e.tapWindow ≠ s.tables.desk.tapWindow then matcherTablesChanged (refreshDims j) else refreshDims j) :=
    .ite (fun _ => refreshed.trans (hands_matcherTablesChanged _)) (fun _ => refreshed)
  generalize (if e.prefixKey ≠ s.tables.desk.prefixKey ∨ e.tapCount ≠ s.tables.desk.tapCount
    ∨ e.tapWindow ≠ s.tables.desk.tapWindow then matcherTablesChanged (refreshDims j) else refreshDims j) = m at matched ⊢
  have held : Hands anyKind j (if e.routeHoldLimit ≠ s.tables.desk.routeHoldLimit then holdLimitWritten m else m) :=
    .ite (fun _ => matched.trans (hands_holdLimitWritten m).any) (fun _ => matched)
  generalize (if e.routeHoldLimit ≠ s.tables.desk.routeHoldLimit then holdLimitWritten m else m) = h at held ⊢
  have dimmed : Hands anyKind j (if e.dimFloor ≠ s.tables.desk.dimFloor ∨ e.unfocusedLevel ≠ s.tables.desk.unfocusedLevel then
      retargetAll h else h) :=
    .ite (fun _ => held.keeps (show Keeps [.dms] h (retargetAll h) by simp)) (fun _ => held)
  exact .ite (fun _ => dimmed.trans (.of_eq rfl)) (fun _ => dimmed)

section
variable (before s : State) (p : Port)

theorem leaveIndication_mem_leaveJoin (was : before.isTarget p = true) (is : s.isTarget p = false) :
    { src := .fcu, cmd := .leaveIndication p } ∈ (leaveJoin before s).handoffs := by
  rw [leaveJoin_eq]
  exact List.mem_append_right _ (List.mem_filterMap.mpr ⟨p, List.mem_finRange p, if_pos ⟨was, is⟩⟩)

theorem joinIndication_mem_leaveJoin (was : before.isTarget p = false) (is : s.isTarget p = true) :
    { src := .fcu, cmd := .joinIndication p s.fcu.passedKeys } ∈ (leaveJoin before s).handoffs := by
  rw [leaveJoin_eq]
  exact List.mem_append_right _ (List.mem_filterMap.mpr ⟨p, List.mem_finRange p, by simp [was, is]⟩)

end

/-- Under broadcast, a port that is not the keyboard focus is a target when the mask has it (R63). -/
theorem isTarget_broadcast (s : State) (p : Port) (on : s.fcu.broadcast = true) (other : s.fcu.focus ≠ some p) :
    s.isTarget p = s.tables.desk.broadcastMask.get p := by
  rw [State.isTarget, on, decide_eq_false other, Bool.false_or, Bool.true_and]

/-! ## The statement -/

theorem jumpAnswersTaken (n : Computer) (cause : FocusCause) (s : State) :
    exec (.jumpAnswer n cause none) s = .next { s with handoffs := withoutFirst (.jumpAnswer n cause none) s.handoffs }
    ∧ ∀ sc : Screen, ∃ t, exec (.jumpAnswer n cause (some sc)) s = .next t
      ∧ t.fcu.owner = s.screenOwner s.glu.screen
      ∧ { src := .fcu, cmd := .cursorNotice } ∈ t.handoffs
      ∧ t.fcu.focus = if s.screenOwner s.glu.screen = some n then some n else s.fcu.focus :=
  ⟨rfl, fun sc => ⟨_, rfl, jumpAnswered_landed n cause sc (s.taking (.jumpAnswer n cause (some sc)))⟩⟩

/-- Settles O22: each input by the operation that takes it, the two writes by what their stores leave. -/
theorem focusInputsTaken : Obligations.FocusInputsTaken := by
  unfold Obligations.FocusInputsTaken
  refine ⟨jumpAnswersTaken, fun sc s => ⟨fun other => ?_, fun cursor => ⟨_, rfl, ?_⟩⟩, ?_, ?_, ?_⟩
  · exact congrArg Host.Outcome.next (switchNoticed_other sc (s.taking (.switchNotice sc)) other)
  · have routed := switchNoticed_cursor sc (s.taking (.switchNotice sc)) cursor
    rw [routed, refreshDims_fcu, cursorScreenRouted_owner, cursorScreenRouted_focus]
    subst cursor
    exact ⟨rfl, (hands_refreshDims _).mem (cursorNotice_mem_cursorScreenRouted _ _), rfl⟩
  · intro f restart s c cause kept changed
    have waiting : kept [] = .next (s.taking c) := congrArg (fun hs => Host.Outcome.next { s with handoffs := hs }) (List.append_nil _)
    refine ⟨fun keep plain => ?_, fun follow plain unowned => ?_, fun follows => ?_, fun n computer => ?_⟩
    · subst keep plain
      rw [waiting]
      exact congrArg Host.Outcome.next (layoutCompleted_left _ _ (.inl rfl))
    · subst follow plain
      rw [waiting]
      exact congrArg Host.Outcome.next (layoutCompleted_left _ _ (.inr ⟨rfl, unowned⟩))
    · rw [waiting]
      refine (congrArg Host.Outcome.next ((layoutCompleted_follows f restart (s.taking c) follows).trans (changeFocus_ite ..))).trans ?_
      exact apply_ite Host.Outcome.next _ _ _
    · subst computer
      refine (congrArg Host.Outcome.next (focusTo_eq n cause false (s.taking c))).trans ?_
      exact apply_ite Host.Outcome.next _ _ _
  · intro q w v s served index e ok old owned moved
    have keeps : Keeps [.sent] (storeSource v e s) (sendReply 2 q (plainReply .ok) (storeSource v e s)) := by simp
    have fcu : (sendReply 2 q (plainReply .ok) (storeSource v e s)).fcu = (storeSource v e s).fcu := keeps .fcu (by decide)
    have handed : (sendReply 2 q (plainReply .ok) (storeSource v e s)).handoffs = (storeSource v e s).handoffs := keeps .handoffs (by decide)
    have moved_iff : moved ↔ sameRectangle e old = false := by
      rw [← Bool.not_eq_true, sameRectangle_iff]
      simp only [moved]
      tauto
    refine ⟨_, exec_writeSourceEntry_stored q w v s served index e ok, ?_⟩
    rw [fcu, handed]
    refine ⟨storeSource_owner v e s, storeSource_focus v e s, fun h => ?_, fun owner sc => ?_, storeSource_unchanged v e s⟩
    · rw [moved_iff, show owned = true ↔ _ from ownsCursor_iff v e s] at h
      exact (hands_storeSource v e s).mem (cursorNotice_mem_sourceTaken v e s h)
    · exact (hands_storeSource v e s).mem (targetRefresh_mem_sourceTaken v e s owner sc)
  · intro q w s served index e ok fits on
    have keeps : Keeps [.sent] (storeDesk e.1 s)
        (sendReply 2 q { status := .ok, clamped := e.2, saveFailed := false, payload := [] } (storeDesk e.1 s)) := by simp
    have handed := keeps .handoffs (by decide)
    refine ⟨_, exec_writeDeskRecord_stored q w s served index e ok fits, fun p other => ?_⟩
    rw [show (sendReply 2 q _ (storeDesk e.1 s)).handoffs = (storeDesk e.1 s).handoffs from handed]
    have was := isTarget_broadcast s p on other
    have is := isTarget_broadcast (s.modTables (fun t => { t with desk := e.1 })) p on other
    refine ⟨fun old new => ?_, fun old new => ?_⟩
    · exact (hands_storeDesk_leaveJoin e.1 s).mem (leaveIndication_mem_leaveJoin s _ p (was.trans old) (is.trans new))
    · exact (hands_storeDesk_leaveJoin e.1 s).mem (joinIndication_mem_leaveJoin s _ p (was.trans old) (is.trans new))

end Sys2Proof.Machine

/-!
SUPPORT. What a route request does to route hold and to the share outputs, and a request of a computer answered with what it makes of the
state (R119, R123, R125, R150, R153, R176).
-/

namespace Sys2Proof.Machine

/-! ## Route hold -/

theorem testPending_hold (sc : Screen) (s : State) : (testPending sc s).xpc.hold = s.xpc.hold := (testPending_routes sc s).2.1.hold

theorem testAll_hold (s : State) : (testAll s).xpc.hold = s.xpc.hold := by
  unfold testAll
  apply foldl_invariant (fun t : State => t.xpc.hold = s.xpc.hold)
  · exact fun t sc h => (testPending_hold sc t).trans h
  · rfl

/-! ## The steps of a route request (R119) -/

section
variable (sc : Screen) (target : Option Source) (cause : RouteCause) (s : State)

/-- The state after steps 1 and 2 of a request: the peek record and the pending of its screen are gone (R119). -/
def requestCleared : State := removePending sc (clearPeek sc cause s)

theorem requestCleared_active (d : Screen) : (requestCleared sc cause s).active d = s.active d := by
  rw [requestCleared, State.active, (removePending_routes sc _).1, Tab.get_set, State.active, (clearPeek_others sc cause s).1]
  split
  · next same => rw [same]; rfl
  · rfl

/-- A request for the active source ends here, with a drop when it removed a pending (R119, step 3). -/
theorem routeRequest_same (same : target = s.active sc) : routeRequest sc target cause s =
    if ((clearPeek sc cause s).xpc.routes.get sc).pending.isSome then
      (raiseUnless (decide (cause = .peek)) .routeDone (requestCleared sc cause s)).hand .xpc (.drop sc)
    else raiseUnless (decide (cause = .peek)) .routeDone (requestCleared sc cause s) :=
  if_pos (same.trans (requestCleared_active sc cause s sc).symm)

theorem routeRequest_other (other : target ≠ s.active sc) :
    routeRequest sc target cause s = newPending sc target cause (requestCleared sc cause s) :=
  if_neg fun same => other (same.trans (requestCleared_active sc cause s sc))

theorem raiseUnless_xpc (quiet : Bool) (k : NoticeKind) : (raiseUnless quiet k s).xpc = s.xpc := by
  unfold raiseUnless
  split <;> rfl

theorem routeRequest_hold : (routeRequest sc target cause s).xpc.hold = s.xpc.hold := by
  have cleared : (requestCleared sc cause s).xpc.hold = s.xpc.hold :=
    (removePending_routes sc _).2.1.hold.trans (clearPeek_others sc cause s).2.1.hold
  by_cases same : target = s.active sc
  · rw [routeRequest_same sc target cause s same]
    split
    · rw [hand_xpc, raiseUnless_xpc, cleared]
    · rw [raiseUnless_xpc, cleared]
  · rw [routeRequest_other sc target cause s same]
    exact (testPending_hold sc _).trans cleared

end

/-! ## The share outputs at a switch (R123, R153, R154) -/

/-- A notice that an output has gone blank, as it is handed. -/
def blankedNotice : Handoff := { src := .sou, cmd := .noticeRaise .shareBlanked }

/-- From one state to another the share records and the tables stand, and no output is noticed to have gone blank. -/
structure SameShares (s t : State) : Prop where
  sou : t.sou = s.sou
  tables : t.tables = s.tables
  noticed : blankedNotice ∈ t.handoffs ↔ blankedNotice ∈ s.handoffs

section
variable {s t u : State}

theorem SameShares.refl (s : State) : SameShares s s := ⟨rfl, rfl, Iff.rfl⟩

theorem SameShares.trans (a : SameShares s t) (b : SameShares t u) : SameShares s u :=
  ⟨b.sou.trans a.sou, b.tables.trans a.tables, b.noticed.trans a.noticed⟩

theorem SameShares.modXpc (a : SameShares s t) {f : Xpc → Xpc} : SameShares s (t.modXpc f) := a.trans ⟨rfl, rfl, Iff.rfl⟩

theorem SameShares.hand (a : SameShares s t) {b : Block} {c : Instr} (other : c ≠ .noticeRaise .shareBlanked) :
    SameShares s (t.hand b c) := by
  refine ⟨a.sou, a.tables, ?_⟩
  rw [hand_handoffs, List.mem_append, List.mem_singleton, a.noticed]
  refine or_iff_left fun same => other ?_
  exact (congrArg Handoff.cmd same).symm

theorem SameShares.ite {p : Prop} [Decidable p] {a b : State} (ha : SameShares s a) (hb : SameShares s b) :
    SameShares s (if p then a else b) := by
  split
  · exact ha
  · exact hb

theorem SameShares.isPrivate (a : SameShares s t) (v : Option Source) : t.isPrivate v = s.isPrivate v := by
  cases v <;> simp [State.isPrivate, a.tables]

/-- What leaves the shares before and after outputs follow a switch makes no difference to it. -/
theorem SharesFollow.around {switched : Screen → Option Source → Prop} {w : State} (before : SameShares s t)
    (h : SharesFollow switched t u) (after : SameShares u w) : SharesFollow switched s w := by
  obtain ⟨moved, stood, noticed⟩ := h
  simp only [before.sou, before.isPrivate] at moved stood noticed
  refine ⟨?_, ?_, ?_⟩
  · rw [after.sou]
    exact moved
  · rw [after.sou]
    exact stood
  · exact after.noticed.trans (noticed.trans (or_congr_left before.noticed))

/-- With no switch, the shares stand. -/
theorem SameShares.follow {switched : Screen → Option Source → Prop} (h : SameShares s t) (none : ∀ sc v, ¬switched sc v) :
    SharesFollow switched s t := by
  refine ⟨fun o sc v _ k => absurd k (none sc v), fun o _ => by rw [h.sou], h.noticed.trans (or_iff_left ?_).symm⟩
  rintro ⟨o, sc, v, -, k, -⟩
  exact none sc v k

end

section
variable (s : State)

theorem sameShares_raiseUnless (quiet : Bool) (k : NoticeKind) (other : k ≠ .shareBlanked) : SameShares s (raiseUnless quiet k s) :=
  .ite (.refl s) (.hand (.refl s) fun same => other (Instr.noticeRaise.inj same))

theorem sameShares_leaveIfLayout (sc : Screen) (cause : RouteCause) : SameShares s (leaveIfLayout sc cause s) := by
  refine .ite ?_ (.refl s)
  unfold leaveLayout
  split
  · exact .refl s
  · refine .ite (.ite (.modXpc (.refl s)) ?_) (.refl s)
    exact .hand (.hand (.modXpc (.refl s)) (by simp)) (by simp)

/-- A pending that takes effect moves the outputs that follow its screen (R123, R153). -/
theorem takeEffect_shares (sc : Screen) (p : Pending) (k : NoticeKind) (other : k ≠ .shareBlanked) :
    SharesFollow (fun d v => d = sc ∧ v = p.target) s (takeEffect sc p k s) := by
  have before : SameShares s (((s.modRoute sc (fun _ => { active := p.target, pending := none })).hand .xpc (.switchNotice sc)).hand
      .xpc (.switchAtDimStage sc p.target)) :=
    .hand (.hand (.modXpc (.refl s)) (by simp)) (by simp)
  refine .around before (followSwitch_shares sc p.target _) ?_
  have handed : SameShares (followSwitch sc p.target _)
      (handSwitch sc p.target (s.modRoute sc (fun _ => { active := p.target, pending := none }))) :=
    .hand (.refl _) (by simp)
  exact (handed.trans (sameShares_leaveIfLayout _ sc p.cause)).trans (sameShares_raiseUnless _ p.quiet k other)

/-- A tested pending waits, or takes effect with a notice of its kind (R120, R121). -/
theorem testPending_cases (sc : Screen) : testPending sc s = s
    ∨ ∃ p k, (s.xpc.routes.get sc).pending = some p ∧ k ≠ .shareBlanked ∧ testPending sc s = takeEffect sc p k s := by
  unfold testPending
  cases (s.xpc.routes.get sc).pending with
  | none => exact .inl rfl
  | some p =>
    dsimp only
    (repeat' split)
    case isFalse => exact .inl rfl
    case h_2 => exact .inl rfl
    all_goals exact .inr ⟨p, _, rfl, by simp, rfl⟩

end

/-! ## A route request and the share outputs (R119, R153) -/

section
variable (sc : Screen) (target : Option Source) (cause : RouteCause) (s : State)

theorem sameShares_requestCleared : SameShares s (requestCleared sc cause s) := by
  have cleared : SameShares s (clearPeek sc cause s) := by
    unfold clearPeek
    split
    · exact .ite (.modXpc (.refl s)) (.refl s)
    · exact .refl s
  refine cleared.trans ?_
  unfold requestCleared removePending
  split
  · exact .refl _
  · exact .trans (.modXpc (.modXpc (.refl _))) (sameShares_leaveIfLayout _ sc _)

/-- A new pending on its way to be tested (R119, step 4). -/
def pendingHanded : State :=
  handFade sc (s.modRoute sc (fun r => { r with
    pending := some
      { target := target, line := (s.screenEntry sc).switchLine, cause := cause, quiet := decide (cause = .peek), number := 0 } }))

theorem newPending_eq : newPending sc target cause s = testPending sc (pendingHanded sc target cause s) := rfl

theorem pendingHanded_pending (p : Pending) (h : ((pendingHanded sc target cause s).xpc.routes.get sc).pending = some p) :
    p.target = target := by
  have given : ({
      target := target, line := (s.screenEntry sc).switchLine, cause := cause, quiet := decide (cause = .peek)
      number := nextCount (s.xpc.counts.get sc) } : Pending) = p := by
    simpa [pendingHanded, handFade, State.modRoute] using h
  rw [← given]

theorem pendingHanded_active (d : Screen) : (pendingHanded sc target cause s).active d = s.active d := by
  by_cases h : d = sc
  · subst h
    simp [pendingHanded, handFade, State.active, State.modRoute]
  · simp [pendingHanded, handFade, State.active, State.modRoute, h]

/-- The share outputs switch with the screen that they follow (R119, R153). -/
theorem newPending_shares (other : target ≠ s.active sc) :
    SharesFollow (Switched s (newPending sc target cause s)) s (newPending sc target cause s) := by
  have handed : SameShares s (pendingHanded sc target cause s) := .hand (.modXpc (.modXpc (.modXpc (.refl s)))) (by simp)
  rw [newPending_eq]
  obtain waits | ⟨p, k, pending, notice, effect⟩ := testPending_cases (pendingHanded sc target cause s) sc
  · rw [waits]
    exact handed.follow fun d v h => h.1 (pendingHanded_active sc target cause s d)
  · rw [effect]
    have aim := pendingHanded_pending sc target cause s p pending
    have active (d : Screen) : (takeEffect sc p k (pendingHanded sc target cause s)).active d = if d = sc then target else s.active d := by
      rw [State.active, (takeEffect_routes sc p k _).1, Tab.get_set]
      split
      · exact aim
      · exact pendingHanded_active sc target cause s d
    have switched : Switched s (takeEffect sc p k (pendingHanded sc target cause s)) = fun d v => d = sc ∧ v = p.target := by
      funext d v
      rw [Switched, active, aim]
      by_cases h : d = sc
      · subst h
        simp [other]
      · simp [h]
    rw [switched]
    exact .around handed (takeEffect_shares _ sc p k notice) (.refl _)

theorem routeRequest_shares :
    SharesFollow (Switched s (routeRequest sc target cause s)) s (routeRequest sc target cause s) := by
  have cleared := sameShares_requestCleared sc cause s
  have active := requestCleared_active sc cause s
  by_cases same : target = s.active sc
  · have raised := cleared.trans (sameShares_raiseUnless _ (decide (cause = .peek)) .routeDone (by simp))
    have stands (d : Screen) : (routeRequest sc target cause s).active d = s.active d := by
      rw [routeRequest_same sc target cause s same, ← active]
      split <;> simp [State.active, raiseUnless_xpc]
    refine SameShares.follow ?_ fun d v h => h.1 (stands d)
    rw [routeRequest_same sc target cause s same]
    exact .ite (.hand raised (by simp)) raised
  · rw [routeRequest_other sc target cause s same]
    have follows := newPending_shares sc target cause (requestCleared sc cause s) (by rw [active]; exact same)
    have switched : Switched s (newPending sc target cause (requestCleared sc cause s)) =
        Switched (requestCleared sc cause s) (newPending sc target cause (requestCleared sc cause s)) := by
      funext d v
      rw [Switched, Switched, active]
    rw [switched]
    exact .around cleared follows (.refl _)

end

end Sys2Proof.Machine

/-!
PROOFS. The requests of a computer that work on another block, served or out of range (R69, R118, R125, R129, R151, R152, R169, R176).
-/

namespace Sys2Proof.Machine

/-! ## A request answered (R175, R176) -/

section
variable {c : Instr} {kind : Nat} {q : Request} {s : State} (managed : s.managed q.port = true)
  (idle : s.mfe.inFlight.get q.port = none) (enabled : (s.portEntry q.port).enabled = true) (up : (s.cpe.get q.port).link = .up)
include managed idle enabled up

/-- A request whose effect leaves the tables, the engines and what has been sent is answered behind what has been sent. -/
theorem request_answered {f : State → State × Reply} (taken : exec c s = .next (serve kind q f s)) (m : List StateField)
    (keeps : Keeps m s (f s).1) (out : ∀ x ∈ [StateField.tables, .cpe, .sent], x ∉ m := by decide) :
    exec c s = .next { (f s).1 with sent := s.sent ++ [.frame q.port (replyFrame kind q (f s).2)] } := by
  have tables : (f s).1.tables = s.tables := keeps .tables (out _ (by decide))
  have cpe : (f s).1.cpe = s.cpe := keeps .cpe (out _ (by decide))
  have sent : (f s).1.sent = s.sent := keeps .sent (out _ (by decide))
  have enabled' : ((f s).1.portEntry q.port).enabled = true := by rw [State.portEntry, tables]; exact enabled
  have up' : ((f s).1.cpe.get q.port).link = .up := by rw [cpe]; exact up
  rw [taken, serve_free kind q f s managed idle, sendReply_eq kind q _ _ enabled' up', State.send, sent]

section
variable {α : Type} {args : Option α} {f : α → State → State} (taken : exec c s = .next (serve kind q (withArgs args f) s))
include taken

/-- A request with an argument out of range is answered RANGE and has no effect (R176). -/
theorem request_range (bad : args = none) :
    exec c s = .next { s with sent := s.sent ++ [.frame q.port (replyFrame kind q (plainReply .range))] } := by
  subst bad
  exact request_answered managed idle enabled up taken [] (Keeps.refl [] s)

/-- A request with its arguments in range has its effect and is answered OK (R176). -/
theorem request_ok {a : α} (read : args = some a) (m : List StateField) (keeps : Keeps m s (f a s))
    (out : ∀ x ∈ [StateField.tables, .cpe, .sent], x ∉ m := by decide) :
    exec c s = .next { f a s with sent := s.sent ++ [.frame q.port (replyFrame kind q (plainReply .ok))] } := by
  subst read
  exact request_answered managed idle enabled up taken m keeps out

end

end

theorem bothRead_some {α β : Type} {a : Option α} {b : Option β} {x : α} {y : β} (ha : a = some x) (hb : b = some y) :
    bothRead a b = some (x, y) := by rw [ha, hb]; rfl

theorem bothRead_none {α β : Type} {a : Option α} {b : Option β} (h : a = none ∨ b = none) : bothRead a b = none := by
  rcases h with h | h
  · rw [h]; rfl
  · rw [h]; cases a <;> rfl

/-! ## The effects (R69, R125, R151, R169) -/

/-- A Set Focus (R69). -/
theorem setFocusTo_same (c : Option Computer) (s : State) (has : s.fcu.focus = c) : setFocusTo c s = { s with
    handoffs := s.handoffs ++ c.toList.map (fun p => { src := .fcu, cmd := .jumpRequest p .management }) } := by
  cases c with
  | none =>
    refine (changeFocus_same none .management false false s has).trans ?_
    rw [Option.toList_none, List.map_nil, List.append_nil]
  | some p => exact (focusTo_eq p .management false s).trans (if_pos has)

theorem setFocusTo_other (c : Option Computer) (s : State) (other : s.fcu.focus ≠ c) : setFocusTo c s = { s with
    fcu := { s.fcu with slot := none, focus := c, lastCause := .management }
    handoffs := s.handoffs ++ handedByFocus s c .management c.isSome } := by
  cases c with
  | none => exact changeFocus_eq none .management false false s other
  | some p => exact (focusTo_eq p .management false s).trans (if_neg other)

theorem shareNothing_eq (o : ShareOut) (s : State) : shareNothing o s = { s with sou := s.sou.set o { mode := .off, blanked := false } } := by
  rw [shareNothing, setShareMode_eq]
  simp [ShareRecord.wanted, State.isPrivate]

theorem deskSleeps_eq (s : State) : deskSleeps s =
    if s.wkc.deskAsleep = true then s
    else { s with
      handoffs := s.handoffs ++ [{ src := .wkc, cmd := .noticeRaise .deskSleepChanged }]
      wkc := { s.wkc with deskAsleep := true, power := Tab.fill { on := false, noSignal := none } } } := rfl

theorem holdRoutesOn_off (s : State) (off : s.xpc.hold = none) : holdRoutesOn s = { s with
    xpc := { s.xpc with
      hold := some { start := s.timebase, expiry := s.timebase + s.tables.desk.routeHoldLimit * 1000 } } } := by
  rw [holdRoutesOn, off]
  rfl

theorem holdRoutesOn_on (s : State) (on : s.xpc.hold ≠ none) : holdRoutesOn s = s := by
  obtain ⟨h, held⟩ := Option.ne_none_iff_exists'.mp on
  rw [holdRoutesOn, held]

theorem releaseRoutesNow_off (s : State) (off : s.xpc.hold = none) : releaseRoutesNow s = s := by rw [releaseRoutesNow, off]

theorem releaseRoutesNow_on (s : State) (on : s.xpc.hold ≠ none) :
    releaseRoutesNow s = testAll (s.modXpc (fun x => { x with hold := none })) := by
  obtain ⟨h, held⟩ := Option.ne_none_iff_exists'.mp on
  rw [releaseRoutesNow, held]

/-- When route hold ends, a pending that need not fade and does not wait for a line takes effect (R120, R121, R125). -/
theorem releaseRoutesNow_switches (s : State) (on : s.xpc.hold ≠ none) (sc : Screen) (p : Pending)
    (pending : (s.xpc.routes.get sc).pending = some p) (faded : (s.screenEntry sc).fade = false ∨ s.xpc.fadeWait.get sc = true)
    (dark : s.showsLocked p.target = false) :
    (releaseRoutesNow s).xpc.routes.get sc = { active := p.target, pending := none } := by
  have ready : (s.modXpc (fun x => { x with hold := none })).routeReady sc = true := (routeReady_iff _ _).mpr ⟨rfl, faded⟩
  rw [releaseRoutesNow_on s on, testAll_routes, recordTested]
  rw [show ((s.modXpc (fun x => { x with hold := none })).xpc.routes.get sc).pending = some p from pending]
  exact if_pos ⟨ready, fun wait => Bool.false_ne_true (dark.symm.trans wait.1)⟩

/-! ## The requests served -/

section
variable (q : Request) (s : State) (managed : s.managed q.port = true) (idle : s.mfe.inFlight.get q.port = none)
  (enabled : (s.portEntry q.port).enabled = true) (up : (s.cpe.get q.port).link = .up)

/-- What a port has been sent once its request is answered with no payload. -/
def answeredWith (kind : Nat) (st : Status) : List Sent := s.sent ++ [.frame q.port (replyFrame kind q (plainReply st))]

include managed idle enabled up

theorem routeScreen_range (bad : ¬(1 ≤ q.arg1 ∧ q.arg1 ≤ 8) ∨ 16 < q.arg2) :
    exec (.routeScreen q) s = .next { s with sent := answeredWith q s 3 .range } :=
  request_range managed idle enabled up rfl
    (bothRead_none (bad.imp (numbered_eq_none 8 q.arg1).mpr fun h => (noneOrNumbered_eq_none 16 q.arg2).mpr (by omega)))

theorem routeScreen_ok (sc : Screen) (target : Option Source) (screen : q.arg1 = sc.val + 1)
    (source : q.arg2 = (target.map (·.val + 1)).getD 0) : ∃ t, exec (.routeScreen q) s = .next t ∧ t.sent = answeredWith q s 3 .ok
      ∧ t.xpc.routes.get sc = requestedRecord s sc target .management
      ∧ (∀ d : Screen, d ≠ sc → t.xpc.routes.get d = s.xpc.routes.get d) ∧ t.xpc.hold = s.xpc.hold
      ∧ SharesFollow (Switched s t) s t := by
  have read := bothRead_some (numbered_val sc screen) ((noneOrNumbered_eq_some 16 q.arg2 target).mpr source)
  have taken : exec (.routeScreen q) s = .next (serve 3 q (withArgs (bothRead (numbered 8 q.arg1) (noneOrNumbered 16 q.arg2))
    (fun a => routeRequest a.1 a.2 .management)) s) := rfl
  have served := request_ok managed idle enabled up taken read [.handoffs, .xpc, .sou] (by simp)
  have routes := routeRequest_routes sc target .management s
  have hold := routeRequest_hold sc target .management s
  have shares := routeRequest_shares sc target .management s
  dsimp only at served
  generalize routeRequest sc target .management s = t at served routes hold shares
  refine ⟨_, served, rfl, ?_, fun d other => ?_, hold, shares⟩
  · exact (congrArg (·.get sc) routes).trans (Tab.get_set_self _ _ _)
  · exact (congrArg (·.get d) routes).trans (Tab.get_set_other _ other _)

theorem recallLayout_range (bad : ¬(1 ≤ q.arg1 ∧ q.arg1 ≤ 16)) :
    exec (.recallLayout q) s = .next { s with sent := answeredWith q s 4 .range } :=
  request_range managed idle enabled up rfl ((numbered_eq_none 16 q.arg1).mpr bad)

/-- A Recall Layout is a Layout action just handed and taken. -/
theorem recallLayout_ok (l : LayoutNo) (layout : q.arg1 = l.val + 1) :
    ∃ u, exec (.layout l) { s with handoffs := { src := .hkm, cmd := .layout l } :: s.handoffs } = .next u
      ∧ exec (.recallLayout q) s = .next { u with sent := answeredWith q s 4 .ok } := by
  have waiting : State.taking (.layout l) { s with handoffs := { src := .hkm, cmd := .layout l } :: s.handoffs } = s :=
    congrArg (fun hs => { s with handoffs := hs }) (withoutFirst_cons { src := .hkm, cmd := .layout l } s.handoffs)
  refine ⟨takeRecall l s, congrArg (fun t => Host.Outcome.next (takeRecall l t)) waiting, ?_⟩
  exact request_ok managed idle enabled up rfl (numbered_val l layout) [.handoffs, .xpc, .sou] (by simp)

theorem setFocus_range (bad : 6 < q.arg1) : exec (.setFocus q) s = .next { s with sent := answeredWith q s 5 .range } :=
  request_range managed idle enabled up rfl ((noneOrNumbered_eq_none 6 q.arg1).mpr (by omega))

theorem setFocus_ok (c : Option Computer) (arg : q.arg1 = (c.map (·.val + 1)).getD 0) :
    exec (.setFocus q) s = .next { setFocusTo c s with sent := answeredWith q s 5 .ok } :=
  request_ok managed idle enabled up rfl ((noneOrNumbered_eq_some 6 q.arg1 c).mpr arg) [.handoffs, .fcu] (by simp)

theorem setShare_range (bad : ¬(1 ≤ q.arg1 ∧ q.arg1 ≤ 2)) :
    exec (.setShareOff q) s = .next { s with sent := answeredWith q s 6 .range }
    ∧ exec (.setShareFollow q) s = .next { s with sent := answeredWith q s 6 .range }
    ∧ exec (.setShareFixed q) s = .next { s with sent := answeredWith q s 6 .range } := by
  have output := (numbered_eq_none 2 q.arg1).mpr bad
  refine ⟨request_range managed idle enabled up rfl output, request_range managed idle enabled up rfl (bothRead_none (.inl output)),
    request_range managed idle enabled up rfl ?_⟩
  split
  · exact bothRead_none (.inl output)
  · rfl

theorem setShareFollow_range (bad : ¬(1 ≤ q.arg3 ∧ q.arg3 ≤ 8)) :
    exec (.setShareFollow q) s = .next { s with sent := answeredWith q s 6 .range } :=
  request_range managed idle enabled up rfl (bothRead_none (.inr ((numbered_eq_none 8 q.arg3).mpr bad)))

theorem setShareFixed_range (bad : q.arg2 ≠ 2 ∨ ¬(1 ≤ q.arg3 ∧ q.arg3 ≤ 16)) :
    exec (.setShareFixed q) s = .next { s with sent := answeredWith q s 6 .range } := by
  refine request_range managed idle enabled up rfl ?_
  split
  · next mode => exact bothRead_none (.inr ((numbered_eq_none 16 q.arg3).mpr (bad.resolve_left (not_not_intro mode))))
  · rfl

section
variable (o : ShareOut) (output : q.arg1 = o.val + 1)
include output

theorem setShareOff_ok : exec (.setShareOff q) s = .next { s with
    sent := answeredWith q s 6 .ok, sou := s.sou.set o { mode := .off, blanked := false } } := by
  rw [request_ok managed idle enabled up (c := .setShareOff q) (kind := 6) (f := shareNothing) rfl (numbered_val o output)
    [.handoffs, .sou] (by simp), shareNothing_eq]
  rfl

theorem setShareFollow_ok (sc : Screen) (screen : q.arg3 = sc.val + 1) :
    exec (.setShareFollow q) s = .next { shareScreen o sc s with sent := answeredWith q s 6 .ok } :=
  request_ok managed idle enabled up (f := fun a => shareScreen a.1 a.2) rfl
    (bothRead_some (numbered_val o output) (numbered_val sc screen)) [.handoffs, .sou] (by simp)

theorem setShareFixed_ok (v : Source) (mode : q.arg2 = 2) (source : q.arg3 = v.val + 1) :
    exec (.setShareFixed q) s = .next { shareSource o v s with sent := answeredWith q s 6 .ok } :=
  request_ok managed idle enabled up (f := fun a => shareSource a.1 a.2) rfl
    ((if_pos mode).trans (bothRead_some (numbered_val o output) (numbered_val v source))) [.handoffs, .sou] (by simp)

end

theorem wake_range (bad : ¬(1 ≤ q.arg1 ∧ q.arg1 ≤ 6)) : exec (.wake q) s = .next { s with sent := answeredWith q s 7 .range } :=
  request_range managed idle enabled up rfl ((numbered_eq_none 6 q.arg1).mpr bad)

theorem wake_ok (p : Port) (port : q.arg1 = p.val + 1) : exec (.wake q) s = .next { s with
    sent := answeredWith q s 7 .ok, handoffs := s.handoffs ++ [{ src := .mfe, cmd := .wakeRequest p }] } :=
  request_ok managed idle enabled up (f := fun p s => s.hand .mfe (.wakeRequest p)) rfl (numbered_val p port) [.handoffs] (by simp)

theorem deskSleep_ok : exec (.deskSleep q) s = .next { deskSleeps s with sent := answeredWith q s 8 .ok } :=
  request_answered managed idle enabled up (f := fun s => (deskSleeps s, plainReply .ok)) rfl [.handoffs, .wkc] (by simp)

theorem holdRoutes_ok : exec (.holdRoutes q) s = .next { holdRoutesOn s with sent := answeredWith q s 9 .ok } :=
  request_answered managed idle enabled up (f := fun s => (holdRoutesOn s, plainReply .ok)) rfl [.xpc] (by simp)

theorem releaseRoutes_ok : exec (.releaseRoutes q) s = .next { releaseRoutesNow s with sent := answeredWith q s 10 .ok } :=
  request_answered managed idle enabled up (f := fun s => (releaseRoutesNow s, plainReply .ok)) rfl [.handoffs, .xpc, .sou] (by simp)

end

/-- Settles O52: each request by its arguments as they are read, and by the effect on its block. -/
theorem requestsServed : Obligations.RequestsServed := by
  unfold Obligations.RequestsServed
  intro q s managed idle enabled up reply range
  refine ⟨routeScreen_range q s managed idle enabled up, fun sc target screen unset source => ?_,
    recallLayout_range q s managed idle enabled up, recallLayout_ok q s managed idle enabled up,
    setFocus_range q s managed idle enabled up, fun c arg => ?_, setShare_range q s managed idle enabled up,
    setShareFollow_range q s managed idle enabled up, setShareFixed_range q s managed idle enabled up, fun o output => ?_,
    wake_range q s managed idle enabled up, wake_ok q s managed idle enabled up, ?_, fun off => ⟨?_, ?_⟩, fun on => ⟨?_, ?_⟩⟩
  · refine routeScreen_ok q s managed idle enabled up sc target screen ?_
    cases target with
    | none => exact unset rfl
    | some v => exact source v rfl
  · have served := setFocus_ok q s managed idle enabled up c (by cases c <;> exact arg)
    refine ⟨fun has => ?_, fun other => ?_⟩
    · rw [served, setFocusTo_same c s has]
      rfl
    · rw [served, setFocusTo_other c s other]
      rfl
  · refine ⟨setShareOff_ok q s managed idle enabled up o output, fun sc screen follow => ?_, fun sc screen apart => ?_,
      fun v mode source => ⟨_, setShareFixed_ok q s managed idle enabled up o output v mode source, rfl, ?_⟩⟩
    · rw [setShareFollow_ok q s managed idle enabled up o output sc screen, shareScreen, if_pos follow]
      rfl
    · refine ⟨_, setShareFollow_ok q s managed idle enabled up o output sc screen, rfl, ?_⟩
      rw [shareScreen, if_neg (Bool.eq_false_iff.mp apart), setShareMode_eq]
      rfl
    · rw [shareSource, setShareMode_eq]
      rfl
  · rw [deskSleep_ok q s managed idle enabled up, deskSleeps_eq]
    split <;> rfl
  · rw [holdRoutes_ok q s managed idle enabled up, holdRoutesOn_off s off]
    rfl
  · rw [releaseRoutes_ok q s managed idle enabled up, releaseRoutesNow_off s off]
    rfl
  · rw [holdRoutes_ok q s managed idle enabled up, holdRoutesOn_on s on]
    rfl
  · have served := releaseRoutes_ok q s managed idle enabled up
    have released : (releaseRoutesNow s).xpc.hold = none := by rw [releaseRoutesNow_on s on, testAll_hold]; rfl
    have switches := releaseRoutesNow_switches s on
    generalize releaseRoutesNow s = t at served released switches
    exact ⟨_, served, rfl, released, switches⟩

end Sys2Proof.Machine

/-!
SUPPORT. What the operations of a port engine make of the port's record, said once each: an entry queued, a poll taken, a flush, a
change of link state (R81 to R99).
-/

namespace Sys2Proof.Machine

/-! ## The queues (R94, R95, R98) -/

/-- The stall timer of a port, after an entry has joined a queue of its record: it starts on an Active port whose queues were both
empty (R98). -/
def stallQueued (p : Port) (s : State) (e : Cpe) : Timer :=
  if e.linkState = .active ∧ e.keyQueue = [] ∧ e.pointerQueue = [] then some (s.timebase + (s.portEntry p).stallTimeout * 1000)
  else e.stall

theorem queuesEmpty_iff (e : Cpe) : queuesEmpty e = true ↔ e.keyQueue = [] ∧ e.pointerQueue = [] := by
  simp [queuesEmpty]

theorem startStall_eq (p : Port) (s : State) : startStall p s = { s with
    cpe := s.cpe.set p { s.cpe.get p with stall := some (s.timebase + (s.portEntry p).stallTimeout * 1000) } } := rfl

/-- An entry joins a queue: the record changes by `f`, which leaves the stall timer, and the timer starts where R98 says. -/
theorem startStallIf_modCpe (p : Port) (f : Cpe → Cpe) (s : State) (stall : (f (s.cpe.get p)).stall = (s.cpe.get p).stall) :
    startStallIf (s.cpe.get p) p (s.modCpe p f) = { s with
      cpe := s.cpe.set p { f (s.cpe.get p) with stall := stallQueued p s (s.cpe.get p) } } := by
  simp only [startStallIf, queuesEmpty_iff, stallQueued]
  split
  · rw [startStall_eq, modCpe_eq]
    simp only [Tab.get_set_self, Tab.set_set]
    rfl
  · rw [modCpe_eq, ← stall]

section
variable (p : Port) (x : Snapshot) (s : State)

theorem queueSnapshot_room (room : (s.cpe.get p).keyQueue.length < 8) : queueSnapshot p x s = { s with
    cpe := s.cpe.set p { s.cpe.get p with
      keyQueue := (s.cpe.get p).keyQueue ++ [x], stall := stallQueued p s (s.cpe.get p) } } :=
  (if_pos room).trans (startStallIf_modCpe p (fun e => { e with keyQueue := e.keyQueue ++ [x] }) s rfl)

theorem queueSnapshot_full (full : 8 ≤ (s.cpe.get p).keyQueue.length) : queueSnapshot p x s = { s with
    handoffs := s.handoffs ++ [{ src := .cpe p, cmd := .noticeRaise .inputCoalesced }]
    cpe := s.cpe.set p { s.cpe.get p with
      keyQueue := (s.cpe.get p).keyQueue.dropLast ++ [x]
      counters := { (s.cpe.get p).counters with keysCoalesced := bump (s.cpe.get p).counters.keysCoalesced } } } := by
  refine (if_neg (Nat.not_lt.mpr full)).trans ?_
  simp only [State.raise, State.hand, State.modCounters, modCpe_eq, Tab.get_set_self, Tab.set_set]
  rfl

end

theorem saturateWheel_eq (v : Int) : saturateWheel v = max (-127) (min 127 v) := by
  unfold saturateWheel
  split
  · omega
  · split <;> omega

section
variable (p : Port) (r : PointerReport) (s : State)

theorem queueReport_empty (empty : (s.cpe.get p).pointerQueue = []) : queueReport p r s = { s with
    cpe := s.cpe.set p { s.cpe.get p with pointerQueue := [r], stall := stallQueued p s (s.cpe.get p) } } := by
  have join := startStallIf_modCpe p (fun e => { e with pointerQueue := e.pointerQueue ++ [r] }) s rfl
  simp only [queueReport, empty, List.getLast?_nil, join, List.nil_append]

variable (old : List PointerReport) (newest : PointerReport) (queue : (s.cpe.get p).pointerQueue = old ++ [newest])
include queue

/-- A report with the buttons of the newest entry is merged into it (R95). -/
theorem queueReport_merged (same : newest.buttons = r.buttons) : queueReport p r s = { s with
    cpe := s.cpe.set p { s.cpe.get p with pointerQueue := old ++ [mergeReport newest r] } } := by
  simp only [queueReport, queue, List.getLast?_concat, same, if_true, replaceNewest, List.dropLast_concat, modCpe_eq]

theorem queueReport_room (other : newest.buttons ≠ r.buttons) (room : (s.cpe.get p).pointerQueue.length < 8) :
    queueReport p r s = { s with cpe := s.cpe.set p { s.cpe.get p with pointerQueue := old ++ [newest, r] } } := by
  have join := startStallIf_modCpe p (fun e => { e with pointerQueue := e.pointerQueue ++ [r] }) s rfl
  have running : stallQueued p s (s.cpe.get p) = (s.cpe.get p).stall := if_neg (by simp [queue])
  rw [queue] at room
  simp only [queueReport, queue, List.getLast?_concat, if_neg other, queueCapacity, if_pos room, join, running,
    List.append_assoc, List.singleton_append]

/-- A report with other buttons is merged into the newest entry of a full queue, which counts (R95). -/
theorem queueReport_full (other : newest.buttons ≠ r.buttons) (full : 8 ≤ (s.cpe.get p).pointerQueue.length) :
    queueReport p r s = { s with
      handoffs := s.handoffs ++ [{ src := .cpe p, cmd := .noticeRaise .inputCoalesced }]
      cpe := s.cpe.set p { s.cpe.get p with
        pointerQueue := old ++ [mergeReport newest r]
        counters := { (s.cpe.get p).counters with clicksCoalesced := bump (s.cpe.get p).counters.clicksCoalesced } } } := by
  rw [queue] at full
  simp only [queueReport, queue, List.getLast?_concat, if_neg other, queueCapacity, if_neg (Nat.not_lt.mpr full), replaceNewest,
    List.dropLast_concat, State.raise, State.hand, State.modCounters, modCpe_eq, Tab.get_set_self, Tab.set_set]

end

/-! ## Entering Active (R85) -/

section
variable (p : Port) (s : State)

theorem enterActive_get : (enterActive p s).cpe.get p = activated s p := by
  rw [enterActive_eq, noticeCatchUp_cpe]
  exact Tab.get_set_self _ _ _

theorem enterActive_handoffs : (enterActive p s).handoffs = s.handoffs ++ handedByMove p (s.cpe.get p).linkState .active := by
  rw [enterActive_eq, noticeCatchUp_handoffs]

/-- A port that enters Active holds a snapshot (R85). -/
theorem activated_keyQueue : (activated s p).keyQueue =
    if (s.cpe.get p).keyQueue = [] then [snapshotOf (s.cpe.get p).reported] else (s.cpe.get p).keyQueue := by
  rw [activated]
  dsimp only
  rw [fronted_keyQueue]
  simp only [List.isEmpty_iff]

theorem fronted_pointerQueue (owns : Bool) (e : Cpe) : (fronted owns e).pointerQueue =
    if e.pointerQueue = [] ∧ owns = true then (e.lastReport.map (fun r => { r with wheel := 0 })).toList else e.pointerQueue := by
  unfold fronted
  cases last : e.lastReport with
  | none => simp +contextual
  | some r =>
    simp only [Bool.and_eq_true, List.isEmpty_iff, and_comm]
    split <;> rfl

/-- The pointer owner that enters Active holds its last position (R85). -/
theorem activated_pointerQueue : (activated s p).pointerQueue =
    if (s.cpe.get p).pointerQueue = [] ∧ s.fcu.owner = some p then
      ((s.cpe.get p).lastReport.map (fun r => { r with wheel := 0 })).toList
    else (s.cpe.get p).pointerQueue := by
  rw [activated]
  dsimp only
  rw [fronted_pointerQueue]
  simp only [decide_eq_true_eq]

end

end Sys2Proof.Machine

/-!
PROOFS. The queues of every port stay within 8 entries (R94, R95).
-/

namespace Sys2Proof.Machine

/-! ## One port's record -/

/-- Neither queue of a port's record holds more than 8 entries. -/
def Cpe.Bounded (e : Cpe) : Prop := e.keyQueue.length ≤ queueCapacity ∧ e.pointerQueue.length ≤ queueCapacity

/-- A record with no more in either queue is within the bound too. -/
theorem Cpe.Bounded.of_le {e f : Cpe} (h : e.Bounded) (keys : f.keyQueue.length ≤ e.keyQueue.length)
    (reports : f.pointerQueue.length ≤ e.pointerQueue.length) : f.Bounded :=
  ⟨keys.trans h.1, reports.trans h.2⟩

theorem bounded_empty {e : Cpe} (keys : e.keyQueue = []) (reports : e.pointerQueue = []) : e.Bounded := by
  simp [Cpe.Bounded, keys, reports]

theorem length_replaced {α : Type} (a : α) (q : List α) (n : Nat) (full : n ≤ q.length) (bounded : q.length ≤ n) (pos : 0 < n) :
    (q.dropLast ++ [a]).length ≤ n := by
  rw [List.length_append, List.length_dropLast, List.length_singleton]
  omega

/-! ## The operations -/

section
variable {s t : State} (h : QueuesBounded s)
include h

theorem QueuesBounded.congr (cpe : t.cpe = s.cpe) : QueuesBounded t := by
  rw [QueuesBounded, cpe]
  exact h

theorem QueuesBounded.send (o : Sent) : QueuesBounded (s.send o) := h

/-- What leaves the ports alone keeps their queues within the bound. -/
theorem QueuesBounded.keeps {m : List StateField} (k : Keeps m s t) (out : .cpe ∉ m := by decide) : QueuesBounded t :=
  h.congr (k .cpe out)

theorem QueuesBounded.set (p : Port) {e : Cpe} (cpe : t.cpe = s.cpe.set p e) (bounded : e.Bounded) : QueuesBounded t := by
  intro q
  rw [cpe, Tab.get_set]
  split
  · exact bounded
  · exact h q

/-- What Focus Control and the Glide Unit do to the ports leaves their queues. -/
theorem QueuesBounded.cursorMoves (moves : CursorMoves s t) : QueuesBounded t := by
  intro q
  obtain ⟨ignored, eq⟩ := moves.ports q
  rw [eq]
  exact h q

variable (p : Port)

theorem QueuesBounded.modCpe (f : Cpe → Cpe) (bounded : (s.cpe.get p).Bounded → (f (s.cpe.get p)).Bounded) :
    QueuesBounded (s.modCpe p f) := h.set p rfl (bounded (h p))

/-- A change of what is no queue of a port keeps the bound. -/
theorem QueuesBounded.modCpe_rest (f : Cpe → Cpe) (keys : ∀ e, (f e).keyQueue = e.keyQueue := by exact fun _ => rfl)
    (reports : ∀ e, (f e).pointerQueue = e.pointerQueue := by exact fun _ => rfl) : QueuesBounded (s.modCpe p f) :=
  h.modCpe p f fun bounded => bounded.of_le (by rw [keys]) (by rw [reports])

theorem queuesBounded_moveLink (st : LinkState) : QueuesBounded (moveLink p st s) := h.set p (moveLink_cpe p st s) (h p)

theorem queuesBounded_queueSnapshot (x : Snapshot) : QueuesBounded (queueSnapshot p x s) := by
  obtain ⟨keys, reports⟩ := h p
  by_cases room : (s.cpe.get p).keyQueue.length < 8
  · rw [queueSnapshot_room p x s room]
    exact h.set p rfl ⟨by rw [List.length_append]; exact room, reports⟩
  · have full := Nat.not_lt.mp room
    rw [queueSnapshot_full p x s full]
    exact h.set p rfl ⟨length_replaced x _ 8 full keys (by decide), reports⟩

theorem queuesBounded_queueReport (r : PointerReport) : QueuesBounded (queueReport p r s) := by
  obtain ⟨keys, reports⟩ := h p
  rcases List.eq_nil_or_concat (s.cpe.get p).pointerQueue with empty | ⟨old, newest, queue⟩
  · rw [queueReport_empty p r s empty]
    exact h.set p rfl ⟨keys, by simp [queueCapacity]⟩
  · rw [List.concat_eq_append] at queue
    have length : (s.cpe.get p).pointerQueue.length = old.length + 1 := by rw [queue, List.length_append, List.length_singleton]
    have merged : (old ++ [mergeReport newest r]).length ≤ queueCapacity := by
      rw [List.length_append, List.length_singleton, ← length]
      exact reports
    by_cases same : newest.buttons = r.buttons
    · rw [queueReport_merged p r s old newest queue same]
      exact h.set p rfl ⟨keys, merged⟩
    · by_cases room : (s.cpe.get p).pointerQueue.length < 8
      · rw [queueReport_room p r s old newest queue same room]
        refine h.set p rfl ⟨keys, ?_⟩
        rw [length] at room
        rw [List.length_append]
        exact room
      · rw [queueReport_full p r s old newest queue same (Nat.not_lt.mp room)]
        exact h.set p rfl ⟨keys, merged⟩

/-! ## Changes of link state -/

theorem queuesBounded_enterActive : QueuesBounded (enterActive p s) := by
  obtain ⟨keys, reports⟩ := h p
  rw [enterActive_eq]
  refine h.set p (noticeCatchUp_cpe p _) ⟨?_, ?_⟩
  · rw [activated_keyQueue]
    split
    · simp [queueCapacity]
    · exact keys
  · rw [activated_pointerQueue]
    split
    · cases (s.cpe.get p).lastReport <;> simp [queueCapacity]
    · exact reports

theorem queuesBounded_enterSettling : QueuesBounded (enterSettling p s) := by
  have settling : QueuesBounded (moveLink p .settling (s.modCpe p (fun e => { e with settle := 0 }))) :=
    queuesBounded_moveLink (h.modCpe_rest p _) p _
  unfold enterSettling
  dsimp only
  split
  · exact queuesBounded_enterActive settling p
  · exact settling

theorem queuesBounded_retake : QueuesBounded (retake p s) := by
  have sets : QueuesBounded (setUpSets p s) := h.modCpe_rest p _
  unfold retake
  split
  · exact h
  · split
    · exact h
    · exact queuesBounded_enterSettling sets p
    · exact queuesBounded_moveLink sets p _

theorem queuesBounded_detachPort : QueuesBounded (detachPort p s) :=
  queuesBounded_moveLink (h.modCpe p emptied fun _ => bounded_empty rfl rfl) p _

theorem queuesBounded_flushed (st : LinkState) : QueuesBounded (moveLink p st (s.modCpe p flushed)) :=
  queuesBounded_moveLink (h.modCpe p flushed fun _ => bounded_empty rfl rfl) p st

theorem queuesBounded_setLamps (lamps : Lamps) : QueuesBounded (setLamps p lamps s) := by
  unfold setLamps
  split
  · exact h
  · exact h.modCpe_rest p (fun e => { e with lamps := lamps })

theorem queuesBounded_linkDown : QueuesBounded (linkDown p s) :=
  queuesBounded_detachPort (queuesBounded_setLamps (h.modCpe_rest p _) p _) p

theorem queuesBounded_linkUp : QueuesBounded (linkUp p s) := by
  unfold linkUp
  refine queuesBounded_retake (QueuesBounded.modCpe_rest ?_ p _) p
  split
  · exact h
  · exact queuesBounded_linkDown h p

theorem queuesBounded_linkSuspend : QueuesBounded (linkSuspend p s) := by
  have asleep : QueuesBounded (s.modCpe p (fun e => { e with link := .asleep })) := h.modCpe_rest p _
  unfold linkSuspend
  dsimp only
  split
  · exact queuesBounded_moveLink (asleep.modCpe_rest p _) p _
  · exact queuesBounded_flushed asleep p _
  · exact queuesBounded_flushed asleep p _
  · exact queuesBounded_flushed asleep p _
  all_goals exact asleep

theorem queuesBounded_linkResume : QueuesBounded (linkResume p s) := by
  have up : QueuesBounded (s.modCpe p (fun e => { e with link := .up })) := h.modCpe_rest p _
  unfold linkResume
  dsimp only
  split
  · exact queuesBounded_moveLink up p _
  · exact queuesBounded_moveLink up p _
  all_goals exact up

/-! ## Polls -/

theorem queuesBounded_pollStall : QueuesBounded (pollStall p s) := by
  unfold pollStall
  split
  · exact h.modCpe_rest p (fun e => { e with stall := none })
  · exact h.modCpe_rest p (fun e => { e with stall := s.after (ms (s.portEntry p).stallTimeout) })

theorem queuesBounded_answerKeyboard : QueuesBounded (answerKeyboard p s) := by
  have taken : QueuesBounded (s.modCpe p (fun e => { e with keyQueue := e.keyQueue.tail })) :=
    h.modCpe p _ fun e => e.of_le (by simp) (le_refl _)
  exact queuesBounded_pollStall (taken.send _) p

theorem queuesBounded_answerPointer : QueuesBounded (answerPointer p s) := by
  have taken : QueuesBounded (s.modCpe p (fun e => { e with pointerQueue := e.pointerQueue.tail })) :=
    h.modCpe p _ fun e => e.of_le (le_refl _) (by simp)
  exact queuesBounded_pollStall (taken.send _) p

theorem queuesBounded_settleCount : QueuesBounded (settleCount p s) := by
  have counted : QueuesBounded (s.modCpe p (fun e => { e with settle := e.settle + 1 })) := h.modCpe_rest p _
  unfold settleCount
  dsimp only
  split
  · exact queuesBounded_enterActive counted p
  · exact counted

theorem queuesBounded_keyboardPolled : QueuesBounded (keyboardPolled p s) := by
  unfold keyboardPolled
  split
  · exact queuesBounded_answerKeyboard h p
  · exact queuesBounded_answerKeyboard (queuesBounded_enterActive h p) p
  · exact queuesBounded_settleCount (h.send _) p
  · exact h.send _
  · exact h.send _
  · exact h.send _
  · split
    · exact h.send _
    · exact h

theorem queuesBounded_pointerPolled : QueuesBounded (pointerPolled p s) := by
  unfold pointerPolled
  split
  · exact queuesBounded_answerPointer h p
  · exact queuesBounded_answerPointer (queuesBounded_enterActive h p) p
  · exact queuesBounded_settleCount (h.send _) p
  · exact h.send _
  · exact h.send _
  · exact h.send _
  · split
    · exact h.send _
    · exact h

/-! ## Keys and pointer reports to a port -/

theorem queuesBounded_reportKey (k : Key) : QueuesBounded (reportKey p k s) :=
  queuesBounded_queueSnapshot (h.modCpe_rest p _) p _

theorem queuesBounded_keyPressed (k : Key) : QueuesBounded (keyPressed p k s) := by
  have ignored : QueuesBounded (ignoreKey p k s) := h.modCpe_rest p _
  have reported := queuesBounded_reportKey h p k
  unfold keyPressed
  dsimp only
  split
  · exact h
  · split
    · exact reported
    · exact reported
    · exact reported
    · exact reported
    · exact ignored
    · split
      · exact reported
      · exact ignored.modCpe_rest p _
    · exact h

theorem queuesBounded_keyReleased (k : Key) : QueuesBounded (keyReleased p k s) := by
  unfold keyReleased
  dsimp only
  split
  · exact h
  · split
    · exact queuesBounded_queueSnapshot (h.modCpe_rest p _) p _
    · exact h.modCpe_rest p (fun e => { e with ignored := keyErase k e.ignored })

theorem queuesBounded_ignoreReleased (k : Key) : QueuesBounded (ignoreReleased p k s) := by
  unfold ignoreReleased
  split
  · exact h
  · exact h.modCpe_rest p (fun e => { e with ignored := keyErase k e.ignored })

theorem queuesBounded_releaseAll : QueuesBounded (releaseAll p s) :=
  (queuesBounded_queueSnapshot h p _).modCpe_rest p _

theorem queuesBounded_leaveTaken : QueuesBounded (leaveTaken p s) := by
  have released := queuesBounded_releaseAll h p
  unfold leaveTaken
  split
  · exact released
  · exact released
  · exact released
  · exact released
  · split
    · exact h
    · exact released
  · exact h
  · exact h

theorem queuesBounded_joinTaken (keys : KeySet) : QueuesBounded (joinTaken p keys s) := by
  unfold joinTaken
  split
  · exact h
  · exact h.modCpe_rest p (fun e => { e with ignored := keyUnion (keyMinus keys e.reported) e.ignored })

theorem queuesBounded_pointerReported (r : PointerReport) : QueuesBounded (pointerReported p r s) := by
  have recorded : QueuesBounded (s.modCpe p (fun e => { e with lastReport := some r })) := h.modCpe_rest p _
  have queued := queuesBounded_queueReport recorded p r
  unfold pointerReported
  dsimp only
  split
  · exact queued
  · exact queued
  · exact queued
  · exact queued
  all_goals exact recorded

/-! ## Wakes, stalls and port table writes -/

theorem queuesBounded_wakeBegun : QueuesBounded (wakeBegun p s) := by
  unfold wakeBegun
  split
  · exact queuesBounded_moveLink h p _
  · exact h

theorem queuesBounded_wakeFell : QueuesBounded (wakeFell p s) := by
  unfold wakeFell
  split
  · exact queuesBounded_flushed h p _
  · exact h

theorem queuesBounded_recovered : QueuesBounded (recovered p s) := by
  unfold recovered
  split
  · exact queuesBounded_enterActive h p
  · exact h

theorem queuesBounded_stalled : QueuesBounded (stalled p s) :=
  (queuesBounded_flushed h p .stalled).modCpe_rest p _

theorem queuesBounded_portFollows (old : PortEntry) : QueuesBounded (portFollows p old s) := by
  have taken : QueuesBounded (portRetaken p old s) := by
    unfold portRetaken
    split
    · exact queuesBounded_retake h p
    · exact h
  unfold portFollows portSettles
  split
  · exact queuesBounded_enterActive taken p
  · exact taken

theorem queuesBounded_portWritten (old : PortEntry) : QueuesBounded (portWritten p old s) := by
  by_cases off : old.enabled = true ∧ (s.portEntry p).enabled = false
  · rw [portWritten_disabled p old s off.1 off.2]
    exact queuesBounded_detachPort h p
  · have follows := queuesBounded_portFollows h p old
    rw [portWritten_enabled p old s off]
    split
    · exact follows.congr (noticeCatchUp_cpe p _)
    · exact follows

end

/-! ## The stored entries and the counters -/

section
variable {s : State} (h : QueuesBounded s)
include h

theorem queuesBounded_storePort (p : Port) (e : PortEntry) : QueuesBounded (storePort p e s) :=
  queuesBounded_portWritten (s := s.modTables (fun t => { t with ports := t.ports.set p e })) h p _

theorem queuesBounded_storeSource (v : Source) (e : SourceEntry) : QueuesBounded (storeSource v e s) := by
  have stored : CursorMoves s (sourceStored v e s) := .of_same rfl rfl
  have taken : CursorMoves s (sourceTaken v e s) :=
    .ite (stored.trans (cursorMoves_sourceOwnerWritten _ _ _)) (.ite stored (stored.trans (cursorMoves_sourceRectangleWritten _ _)))
  rw [storeSource_eq]
  split
  · exact (h.cursorMoves taken).keeps (m := [.handoffs, .sou]) (by simp)
  · exact h.cursorMoves taken

theorem queuesBounded_storeScreen (sc : Screen) (e : ScreenEntry) : QueuesBounded (storeScreen sc e s) := by
  have stored : CursorMoves s (s.modTables (fun t => { t with screens := t.screens.set sc e })) := .of_same rfl rfl
  have placed : CursorMoves s
      (if samePlacement e (s.screenEntry sc) then s.modTables (fun t => { t with screens := t.screens.set sc e })
      else placementWritten sc (s.modTables (fun t => { t with screens := t.screens.set sc e }))) :=
    .ite stored (stored.trans (cursorMoves_placementWritten _ _))
  refine (h.cursorMoves placed).keeps (m := [.handoffs, .xpc, .sou, .dms]) ?_
  unfold storeScreen
  dsimp only
  (repeat' split) <;> simp

theorem queuesBounded_clearCounters : QueuesBounded s.clearCounters :=
  foldl_invariant QueuesBounded (fun (s : State) p => s.modCounters p (fun _ =>
    { keysCoalesced := 0, clicksCoalesced := 0, keysDiscarded := 0, stalls := 0 }))
    (fun _ p h => h.modCpe_rest p _) allPorts s h

theorem queuesBounded_switchNoticed (sc : Screen) : QueuesBounded (switchNoticed sc s) := by
  unfold switchNoticed
  split
  · exact h.cursorMoves ((cursorMoves_cursorScreenRouted s _).trans (cursorMoves_refreshDims _))
  · exact h

/-! ## Desk Restart (R102, R183) -/

theorem queuesBounded_quietly (f : State → State) (kept : ∀ s, QueuesBounded s → QueuesBounded (f s)) :
    QueuesBounded (quietly f s) := kept { s with handoffs := [] } h

theorem queuesBounded_takenBefore (c : Instr) : QueuesBounded (takenBefore s c) := by
  unfold takenBefore
  split
  · next p r => exact queuesBounded_pointerReported (s := s.taking (.portPointerReport p r)) h p r
  · exact h.keeps (m := [.handoffs, .sent, .cip, .hkm]) (by simp)
  · exact h.keeps (m := [.handoffs, .hkm]) (by simp)
  · exact h.keeps (m := [.handoffs, .dms]) (by simp)
  · exact h

theorem queuesBounded_takeBeforeRestart : QueuesBounded (takeBeforeRestart s) := by
  refine foldl_invariant QueuesBounded (fun (t : State) (x : Handoff) => takenBefore t x.cmd)
    (fun _ x h => queuesBounded_takenBefore h x.cmd) _ _ ?_
  unfold finishPointer
  split
  · next e _ _ => exact QueuesBounded.cursorMoves (s := s.taking (.pointerEvent e)) h (cursorMoves_takePointerEvent _ e)
  · exact h

theorem queuesBounded_restartInput : QueuesBounded (restartInput s) := by
  have detached (s : State) (h : QueuesBounded s) : QueuesBounded (allPorts.foldl (fun s p => detachPort p s) s) :=
    foldl_invariant QueuesBounded _ (fun _ p h => queuesBounded_detachPort h p) _ s h
  have retaken (s : State) (h : QueuesBounded s) : QueuesBounded (allPorts.foldl (fun s p => retake p s) s) :=
    foldl_invariant QueuesBounded _ (fun _ p h => queuesBounded_retake h p) _ s h
  have matcher (t : State) (held : KeySet) (h : QueuesBounded t) :
      QueuesBounded (matcherRestart held { t with handoffs := t.handoffs.filter (fun x => outlivesRestart x.cmd) }) := h
  have focus (t : State) (h : QueuesBounded t) : QueuesBounded (focusRestart t) :=
    h.keeps (m := [.handoffs, .fcu]) (by simp)
  have noted (u t : State) (h : QueuesBounded t) : QueuesBounded (notePorts u t) := h.keeps (m := [.handoffs]) (by simp)
  exact noted _ _ (queuesBounded_quietly (focus _ (queuesBounded_quietly (matcher _ _ (queuesBounded_takeBeforeRestart h)) _ detached))
    _ retaken)

theorem queuesBounded_takeRestart (q : Request) : QueuesBounded (takeRestart q s) := by
  unfold takeRestart
  split
  · split
    · exact h.keeps (m := [.sent]) (by simp)
    · rw [deskRestarts_eq]
      refine QueuesBounded.keeps (m := [.handoffs, .sent, .cip, .hkm, .glu, .xpc, .dms, .sou, .wkc]) ?_ (by simp; exact Keeps.refl _ _)
      exact queuesBounded_restartInput (s := s.modMfe _) h
  · exact h

end

/-! ## Every command -/

theorem queuesBounded_onLink {s : State} (h : QueuesBounded s) (f : State → State) (kept : QueuesBounded (f s)) :
    QueuesBounded (s.onLink f) := by
  unfold State.onLink
  split
  · exact h
  · exact kept

theorem queuesBounded_serve {s : State} (h : QueuesBounded s) (kind : Nat) (q : Request) (f : State → State × Reply)
    (effect : QueuesBounded (f s).1) : QueuesBounded (serve kind q f s) :=
  serve_invariant kind q f s QueuesBounded (fun _ _ h => h) h effect

/-- A command that touches the ports keeps their queues within the bound, as every other does. -/
theorem exec_queuesBounded (c : Instr) (s t : State) (h : QueuesBounded s) (next : exec c s = .next t) : QueuesBounded t := by
  have taken (c : Instr) : QueuesBounded (s.taking c) := h
  cases c
  case reset => cases next; exact resetIsSound.1
  case cursorScreenChange c => cases next; exact (taken _).cursorMoves (cursorMoves_cursorScreenChanged _ c)
  case jumpAnswer c cause landing => cases next; exact (taken _).cursorMoves (cursorMoves_jumpAnswered _ c cause landing)
  case switchNotice sc => cases next; exact queuesBounded_switchNoticed (taken _) sc
  case pointerEvent e => cases next; exact (taken _).cursorMoves (cursorMoves_takePointerEvent _ e)
  case linkConfigured p => cases next; exact queuesBounded_onLink h _ (queuesBounded_linkUp h p)
  case linkSuspended p => cases next; exact queuesBounded_onLink h _ (queuesBounded_linkSuspend h p)
  case linkResumed p => cases next; exact queuesBounded_onLink h _ (queuesBounded_linkResume h p)
  case linkDetached p => cases next; exact queuesBounded_onLink h _ (queuesBounded_linkDown h p)
  case keyboardPoll p => cases next; exact queuesBounded_onLink h _ (queuesBounded_keyboardPolled h p)
  case pointerPoll p => cases next; exact queuesBounded_onLink h _ (queuesBounded_pointerPolled h p)
  case wakeArmed p => cases next; exact queuesBounded_onLink h _ (h.modCpe_rest p _)
  case wakeDisarmed p => cases next; exact queuesBounded_onLink h _ (h.modCpe_rest p _)
  case ledOutputReport p lamps => cases next; exact queuesBounded_onLink h _ (queuesBounded_setLamps h p lamps)
  case portKeyPress p k => cases next; exact queuesBounded_keyPressed (taken _) p k
  case portKeyRelease p k => cases next; exact queuesBounded_keyReleased (taken _) p k
  case ignoreRelease p k => cases next; exact queuesBounded_ignoreReleased (taken _) p k
  case leaveIndication p => cases next; exact queuesBounded_leaveTaken (taken _) p
  case joinIndication p keys => cases next; exact queuesBounded_joinTaken (taken _) p keys
  case portPointerReport p r => cases next; exact queuesBounded_pointerReported (taken _) p r
  case wakeBegins p => cases next; exact queuesBounded_wakeBegun (taken _) p
  case wakeFailed p => cases next; exact queuesBounded_wakeFell (taken _) p
  case recoveryEnded p => cases next; exact queuesBounded_recovered (taken _) p
  case stallTimerExpiry p =>
    cases next
    unfold State.onExpiry
    split
    · exact h
    · next e _ => exact queuesBounded_stalled (s := s.reach e) h p
  case writePortEntry q w =>
    cases next
    exact queuesBounded_serve h _ _ _ (writeEntry_invariant _ _ _ _ _ _ QueuesBounded h fun p e _ _ _ _ _ =>
      queuesBounded_storePort h p e)
  case writeSourceEntry q w =>
    cases next
    exact queuesBounded_serve h _ _ _ (writeEntry_invariant _ _ _ _ _ _ QueuesBounded h fun v e _ _ _ _ _ =>
      queuesBounded_storeSource h v e)
  case writeScreenEntry q w =>
    cases next
    exact queuesBounded_serve h _ _ _ (writeEntry_invariant _ _ _ _ _ _ QueuesBounded h fun sc e _ _ _ _ _ =>
      queuesBounded_storeScreen h sc e)
  case readCountersLatchAndClear q =>
    cases next
    exact queuesBounded_serve h _ _ _ (queuesBounded_clearCounters (s := latchCounters s) h)
  case deskRestart q => cases next; exact queuesBounded_takeRestart h q
  all_goals exact h.keeps (exec_keeps _ s t next) (by simp [touches])

/-- Settles O55: every command keeps the bound, and so does the Console Input Port going on, which leaves the ports alone. -/
theorem queuesStayBounded : Obligations.QueuesStayBounded :=
  step_invariant QueuesBounded exec_queuesBounded
    (fun s h => h.keeps (show Keeps [.handoffs, .sent, .cip, .hkm] s (consoleGoesOn s) by simp)) (fun _ _ h => h) (fun _ _ h => h)
    (fun _ _ h => h)

end Sys2Proof.Machine

/-!
PROOFS. Keys, leave and join indications and pointer reports at a port (R90 to R95, R98).
-/

namespace Sys2Proof.Machine

/-! ## The reported set queued (R90 to R92, R94) -/

/-- The reported set of a port becomes another and its snapshot is queued. -/
def reportSet (p : Port) (keys : KeySet) (s : State) : State :=
  queueSnapshot p (snapshotOf keys) (s.modCpe p (fun e => { e with reported := keys }))

/-- A port's state takes input: keys and pointer reports join its queues (R90, R93). -/
def TakesInput (st : LinkState) : Prop := st = .active ∨ st = .stalled ∨ st = .waking ∨ st = .recovering

theorem stallQueued_inactive (p : Port) (s : State) (e : Cpe) (h : e.linkState ≠ .active) : stallQueued p s e = e.stall :=
  if_neg fun active => h active.1

section
variable (p : Port) (keys : KeySet) (s : State)

theorem reportSet_room (room : (s.cpe.get p).keyQueue.length < 8) : reportSet p keys s = { s with
    cpe := s.cpe.set p { s.cpe.get p with
      reported := keys, keyQueue := (s.cpe.get p).keyQueue ++ [snapshotOf keys], stall := stallQueued p s (s.cpe.get p) } } := by
  rw [reportSet, modCpe_eq, queueSnapshot_room]
  · simp only [Tab.get_set_self, Tab.set_set]
    rfl
  · simpa only [Tab.get_set_self] using room

theorem reportSet_full (full : 8 ≤ (s.cpe.get p).keyQueue.length) : reportSet p keys s = { s with
    handoffs := s.handoffs ++ [{ src := .cpe p, cmd := .noticeRaise .inputCoalesced }]
    cpe := s.cpe.set p { s.cpe.get p with
      reported := keys, keyQueue := (s.cpe.get p).keyQueue.dropLast ++ [snapshotOf keys]
      counters := { (s.cpe.get p).counters with keysCoalesced := bump (s.cpe.get p).counters.keysCoalesced } } } := by
  rw [reportSet, modCpe_eq, queueSnapshot_full]
  · simp only [Tab.get_set_self, Tab.set_set]
  · simpa only [Tab.get_set_self] using full

theorem reportKey_eq (k : Key) : reportKey p k s = reportSet p (keyInsert k (s.cpe.get p).reported) s := by
  simp only [reportKey, reportSet, modCpe_eq, Tab.get_set_self]

theorem releaseAll_eq : releaseAll p s = reportSet p [] s := by
  by_cases room : (s.cpe.get p).keyQueue.length < 8
  · rw [releaseAll, queueSnapshot_room p _ s room, reportSet_room p _ s room, modCpe_eq]
    simp only [Tab.get_set_self, Tab.set_set]
  · have full := Nat.not_lt.mp room
    rw [releaseAll, queueSnapshot_full p _ s full, reportSet_full p _ s full, modCpe_eq]
    simp only [Tab.get_set_self, Tab.set_set]

end

/-! ## Key presses (R90) -/

section
variable (p : Port) (k : Key) (s : State)

theorem keyPressed_nothing (h : k ∈ (s.cpe.get p).ignored ∨ (s.cpe.get p).linkState = .detached) : keyPressed p k s = s := by
  rcases h with ignored | detached
  · exact if_pos ignored
  · simp [keyPressed, detached]

variable (heard : k ∉ (s.cpe.get p).ignored)
include heard

theorem keyPressed_takes (takes : TakesInput (s.cpe.get p).linkState) :
    keyPressed p k s = reportSet p (keyInsert k (s.cpe.get p).reported) s := by
  rw [← reportKey_eq]
  rcases takes with state | state | state | state <;> simp [keyPressed, heard, state]

theorem keyPressed_settling (state : (s.cpe.get p).linkState = .settling) : keyPressed p k s = ignoreKey p k s := by
  simp [keyPressed, heard, state]

/-- A press that wakes its computer is queued before the wake is asked for. -/
theorem keyPressed_wakes (state : (s.cpe.get p).linkState = .suspended)
    (wakes : (s.portEntry p).wakeOnKey = true ∧ (s.cpe.get p).wakeArmed = true) :
    keyPressed p k s = (reportSet p (keyInsert k (s.cpe.get p).reported) s).hand (.cpe p) (.wakeRequest p) := by
  rw [← reportKey_eq]
  simp [keyPressed, heard, state, wakes]

theorem keyPressed_discarded (state : (s.cpe.get p).linkState = .suspended)
    (asleep : ¬((s.portEntry p).wakeOnKey = true ∧ (s.cpe.get p).wakeArmed = true)) :
    keyPressed p k s = { s with cpe := s.cpe.set p { s.cpe.get p with
      ignored := keyInsert k (s.cpe.get p).ignored
      counters := { (s.cpe.get p).counters with keysDiscarded := bump (s.cpe.get p).counters.keysDiscarded } } } := by
  have discards : keyPressed p k s =
      (ignoreKey p k s).modCounters p (fun c => { c with keysDiscarded := bump c.keysDiscarded }) := by
    simp only [keyPressed, if_neg heard, state]
    exact if_neg (by rwa [Bool.and_eq_true])
  rw [discards, State.modCounters, ignoreKey, modCpe_eq, modCpe_eq]
  simp only [Tab.get_set_self, Tab.set_set]

end

/-! ## Key releases and ignore-releases (R91) -/

section
variable (p : Port) (k : Key) (s : State)

theorem keyReleased_detached (state : (s.cpe.get p).linkState = .detached) : keyReleased p k s = s := if_pos state

theorem ignoreReleased_detached (state : (s.cpe.get p).linkState = .detached) : ignoreReleased p k s = s := if_pos state

variable (state : (s.cpe.get p).linkState ≠ .detached)
include state

theorem keyReleased_reported (reported : k ∈ (s.cpe.get p).reported) :
    keyReleased p k s = reportSet p (keyErase k (s.cpe.get p).reported) s := by
  simp only [keyReleased, if_neg state, if_pos reported, reportSet, modCpe_eq, Tab.get_set_self]

theorem ignoreReleased_eq : ignoreReleased p k s = { s with
    cpe := s.cpe.set p { s.cpe.get p with ignored := keyErase k (s.cpe.get p).ignored } } := if_neg state

theorem keyReleased_ignored (unreported : k ∉ (s.cpe.get p).reported) : keyReleased p k s = { s with
    cpe := s.cpe.set p { s.cpe.get p with ignored := keyErase k (s.cpe.get p).ignored } } := by
  simp only [keyReleased, if_neg state, if_neg unreported, modCpe_eq]

end

theorem exec_portKeyPress (p : Port) (k : Key) (s : State) :
    exec (.portKeyPress p k) s = .next (keyPressed p k (s.taking (.portKeyPress p k))) := rfl

theorem exec_portKeyRelease (p : Port) (k : Key) (s : State) :
    exec (.portKeyRelease p k) s = .next (keyReleased p k (s.taking (.portKeyRelease p k))) := rfl

theorem exec_ignoreRelease (p : Port) (k : Key) (s : State) :
    exec (.ignoreRelease p k) s = .next (ignoreReleased p k (s.taking (.ignoreRelease p k))) := rfl

/-- Settles O30: each command by the port's state, and a snapshot by the room in the keyboard queue. -/
theorem portKeysTaken : Obligations.PortKeysTaken := by
  intro p k s
  dsimp only
  simp only [exec_portKeyPress, exec_portKeyRelease, exec_ignoreRelease]
  refine ⟨fun h => ?_, fun heard takes room => ?_, fun heard takes full => ?_, fun heard state => ?_, fun heard state wakes room => ?_,
    fun heard state wakes full => ?_, fun heard state asleep => ?_, fun state => ⟨?_, ?_⟩, fun state reported room => ?_,
    fun state reported full => ?_, fun state unreported => ?_, fun state => ?_⟩
  · rw [keyPressed_nothing p k (s.taking _) h]
    rfl
  · rw [keyPressed_takes p k (s.taking _) heard takes, reportSet_room p _ (s.taking _) room]
    rfl
  · rw [keyPressed_takes p k (s.taking _) heard takes, reportSet_full p _ (s.taking _) full]
    rfl
  · rw [keyPressed_settling p k (s.taking _) heard state]
    rfl
  · rw [keyPressed_wakes p k (s.taking _) heard state wakes, reportSet_room p _ (s.taking _) room,
      stallQueued_inactive p _ _ (by simp [state])]
    rfl
  · rw [keyPressed_wakes p k (s.taking _) heard state wakes, reportSet_full p _ (s.taking _) full]
    simp only [State.hand, List.append_assoc]
    rfl
  · rw [keyPressed_discarded p k (s.taking _) heard state asleep]
    rfl
  · rw [keyReleased_detached p k (s.taking _) state]
    rfl
  · rw [ignoreReleased_detached p k (s.taking _) state]
    rfl
  · rw [keyReleased_reported p k (s.taking _) state reported, reportSet_room p _ (s.taking _) room]
    rfl
  · rw [keyReleased_reported p k (s.taking _) state reported, reportSet_full p _ (s.taking _) full]
    rfl
  · rw [keyReleased_ignored p k (s.taking _) state unreported]
    rfl
  · rw [ignoreReleased_eq p k (s.taking _) state]
    rfl

/-! ## Leave and join indications (R92) -/

section
variable (p : Port) (s : State)

theorem exec_leaveIndication : exec (.leaveIndication p) s = .next (leaveTaken p (s.taking (.leaveIndication p))) := rfl

theorem exec_joinIndication (keys : KeySet) :
    exec (.joinIndication p keys) s = .next (joinTaken p keys (s.taking (.joinIndication p keys))) := rfl

theorem leaveTaken_releases (h : (s.cpe.get p).linkState = .active ∨ (s.cpe.get p).linkState = .stalled
      ∨ (s.cpe.get p).linkState = .waking ∨ (s.cpe.get p).linkState = .recovering
      ∨ ((s.cpe.get p).linkState = .suspended ∧ (s.cpe.get p).reported ≠ [])) : leaveTaken p s = reportSet p [] s := by
  rw [← releaseAll_eq]
  rcases h with state | state | state | state | ⟨state, reported⟩
  · simp [leaveTaken, state]
  · simp [leaveTaken, state]
  · simp [leaveTaken, state]
  · simp [leaveTaken, state]
  · simp [leaveTaken, state, reported]

theorem leaveTaken_nothing (h : (s.cpe.get p).linkState = .settling ∨ (s.cpe.get p).linkState = .detached
      ∨ ((s.cpe.get p).linkState = .suspended ∧ (s.cpe.get p).reported = [])) : leaveTaken p s = s := by
  rcases h with state | state | ⟨state, reported⟩
  · simp [leaveTaken, state]
  · simp [leaveTaken, state]
  · simp [leaveTaken, state, reported]

theorem joinTaken_eq (keys : KeySet) : joinTaken p keys s =
    if (s.cpe.get p).linkState = .detached then s
    else { s with cpe := s.cpe.set p { s.cpe.get p with
      ignored := keyUnion (keyMinus keys (s.cpe.get p).reported) (s.cpe.get p).ignored } } := rfl

end

/-- Settles O31: a leave by the port's state and the room in the keyboard queue, and a join by the keys not reported. -/
theorem leaveAndJoinTaken : Obligations.LeaveAndJoinTaken := by
  intro p s
  dsimp only
  simp only [exec_leaveIndication, exec_joinIndication]
  refine ⟨fun h => ⟨fun room => ?_, fun full => ?_⟩, fun h => ?_, fun keys => ?_⟩
  · rw [leaveTaken_releases p (s.taking _) h, reportSet_room p _ (s.taking _) room]
    rfl
  · rw [leaveTaken_releases p (s.taking _) h, reportSet_full p _ (s.taking _) full]
    rfl
  · rw [leaveTaken_nothing p (s.taking _) h]
    rfl
  · rw [joinTaken_eq]
    rfl

/-! ## Pointer reports (R93, R95) -/

section
variable (p : Port) (r : PointerReport) (s : State)

/-- The report recorded as the port's last one (R93). -/
def recordReport : State := s.modCpe p (fun e => { e with lastReport := some r })

theorem recordReport_eq : recordReport p r s = { s with cpe := s.cpe.set p { s.cpe.get p with lastReport := some r } } := rfl

theorem recordReport_get : (recordReport p r s).cpe.get p = { s.cpe.get p with lastReport := some r } := Tab.get_set_self _ _ _

theorem exec_portPointerReport :
    exec (.portPointerReport p r) s = .next (pointerReported p r (s.taking (.portPointerReport p r))) := rfl

theorem pointerReported_recorded (h : (s.cpe.get p).linkState = .settling ∨ (s.cpe.get p).linkState = .suspended
    ∨ (s.cpe.get p).linkState = .detached) : pointerReported p r s = recordReport p r s := by
  rcases h with state | state | state <;> simp [pointerReported, recordReport, state]

theorem pointerReported_queued (h : TakesInput (s.cpe.get p).linkState) :
    pointerReported p r s = queueReport p r (recordReport p r s) := by
  rcases h with state | state | state | state <;> simp [pointerReported, recordReport, state]

end

/-- Settles O32: the report is recorded, and queued by what the pointer queue holds. -/
theorem pointerReportsMerge : Obligations.PointerReportsMerge := by
  intro p r s
  dsimp only
  simp only [exec_portPointerReport]
  refine ⟨fun h => ?_, fun takes => ⟨fun empty => ?_, fun old newest queue =>
    ⟨fun same => ?_, fun other room => ?_, fun other full => ?_⟩⟩⟩
  · rw [pointerReported_recorded p r (s.taking _) h]
    rfl
  all_goals
    have engine := recordReport_get p r (s.taking (.portPointerReport p r))
    rw [pointerReported_queued p r (s.taking _) takes]
  · rw [queueReport_empty p r _ (by rw [engine]; exact empty), engine, recordReport_eq]
    simp only [Tab.set_set, stallQueued, taking_cpe, empty, and_true]
    rfl
  · rw [queueReport_merged p r _ old newest (by rw [engine]; exact queue) same, engine, recordReport_eq, mergeReport, saturateWheel_eq]
    simp only [Tab.set_set]
    rfl
  · rw [queueReport_room p r _ old newest (by rw [engine]; exact queue) other (by rw [engine]; exact room), engine, recordReport_eq]
    simp only [Tab.set_set]
    rfl
  · rw [queueReport_full p r _ old newest (by rw [engine]; exact queue) other (by rw [engine]; exact full), engine, recordReport_eq,
      mergeReport, saturateWheel_eq]
    simp only [Tab.set_set]
    rfl

end Sys2Proof.Machine

/-!
PROOFS. Wake begins, wake failed, recovery ended and the stall timer at a port (R85 to R87, R98, R163).
-/

namespace Sys2Proof.Machine

section
variable (p : Port) (s : State)

theorem exec_wakeBegins : exec (.wakeBegins p) s = .next (wakeBegun p (s.taking (.wakeBegins p))) := rfl

theorem exec_wakeFailed : exec (.wakeFailed p) s = .next (wakeFell p (s.taking (.wakeFailed p))) := rfl

theorem exec_recoveryEnded : exec (.recoveryEnded p) s = .next (recovered p (s.taking (.recoveryEnded p))) := rfl

theorem exec_stallTimerExpiry : exec (.stallTimerExpiry p) s = .next (s.onExpiry (s.cpe.get p).stall (stalled p)) := rfl

/-- A change of link state after a change of the record that leaves the link state. -/
theorem moveLink_modCpe (st : LinkState) (f : Cpe → Cpe) (same : (f (s.cpe.get p)).linkState = (s.cpe.get p).linkState) :
    moveLink p st (s.modCpe p f) = { s with
      cpe := s.cpe.set p { f (s.cpe.get p) with linkState := st }
      handoffs := s.handoffs ++ handedByMove p (s.cpe.get p).linkState st } := by
  rw [moveLink_eq, modCpe_eq]
  simp only [Tab.get_set_self, Tab.set_set, same]

/-! ## Wake begins and wake failed (R87, R163) -/

theorem wakeBegun_waking (state : (s.cpe.get p).linkState = .suspended) (armed : (s.cpe.get p).wakeArmed = true) :
    wakeBegun p s = moveLink p .waking s := if_pos ⟨state, armed⟩

theorem wakeBegun_refused (h : (s.cpe.get p).linkState ≠ .suspended ∨ (s.cpe.get p).wakeArmed = false) :
    wakeBegun p s = s.hand (.cpe p) (.wakeBeginsRefusal p) := by
  refine if_neg fun ⟨state, armed⟩ => ?_
  rcases h with other | disarmed
  · exact other state
  · rw [armed] at disarmed
    cases disarmed

theorem wakeFell_waking (state : (s.cpe.get p).linkState = .waking) :
    wakeFell p s = moveLink p .suspended (s.modCpe p flushed) := if_pos state

theorem wakeFell_other (state : (s.cpe.get p).linkState ≠ .waking) : wakeFell p s = s := if_neg state

/-! ## Recovery ended (R85, R87) -/

theorem recovered_recovering (state : (s.cpe.get p).linkState = .recovering) : recovered p s = enterActive p s := if_pos state

theorem recovered_other (state : (s.cpe.get p).linkState ≠ .recovering) : recovered p s = s := if_neg state

/-! ## The stall timer (R98) -/

theorem stalled_eq : stalled p s = { s with
    handoffs := s.handoffs ++ handedByMove p (s.cpe.get p).linkState .stalled ++ [{ src := .cpe p, cmd := .noticeRaise .portStalled }]
    cpe := s.cpe.set p { flushed (s.cpe.get p) with
      linkState := .stalled
      counters := { (s.cpe.get p).counters with stalls := bump (s.cpe.get p).counters.stalls } } } := by
  rw [stalled, moveLink_modCpe p s .stalled flushed rfl]
  simp only [State.raise, State.hand, State.modCounters, modCpe_eq, Tab.get_set_self, Tab.set_set]
  rfl

end

/-- Settles O33: each command by the port's link state. -/
theorem wakesAndStallsAtPort : Obligations.WakesAndStallsAtPort := by
  intro p s
  dsimp only
  simp only [exec_wakeBegins, exec_wakeFailed, exec_recoveryEnded, exec_stallTimerExpiry]
  refine ⟨fun state armed => ?_, fun h => ?_, fun state => ?_, fun state => ?_, fun state => ⟨_, rfl, ?_⟩, fun state => ?_,
    fun stopped => ?_, fun x running => ?_⟩
  · rw [wakeBegun_waking p (s.taking _) state armed, moveLink_eq]
    simp only [taking_cpe, state]
    rfl
  · rw [wakeBegun_refused p (s.taking _) h]
    rfl
  · rw [wakeFell_waking p (s.taking _) state, moveLink_modCpe p (s.taking _) .suspended flushed rfl]
    simp only [taking_cpe, state]
    rfl
  · rw [wakeFell_other p (s.taking _) state]
    rfl
  · rw [recovered_recovering p (s.taking _) state, enterActive_get, enterActive_handoffs, activated_keyQueue, activated_pointerQueue]
    simp only [taking_cpe, state]
    exact ⟨activated_linkState _ _, rfl, rfl, rfl, rfl⟩
  · rw [recovered_other p (s.taking _) state]
    rfl
  · rw [stopped, onExpiry_stopped]
  · rw [running, onExpiry_running, stalled_eq]
    rfl

end Sys2Proof.Machine

/-!
PROOFS. The events of a port's link, and port-table writes at the port (R80, R81, R83, R84, R87, R88).
-/

namespace Sys2Proof.Machine

/-! ## The events of a link -/

theorem onLink_loaded (s : State) (f : State → State) (loaded : s.loading = false) : s.onLink f = f s := by
  rw [State.onLink, loaded]
  exact if_neg Bool.false_ne_true

section
variable (p : Port) (s : State) (loaded : s.loading = false)
include loaded

theorem exec_linkDetached : exec (.linkDetached p) s = .next (linkDown p s) := congrArg Host.Outcome.next (onLink_loaded s _ loaded)

theorem exec_linkConfigured : exec (.linkConfigured p) s = .next (linkUp p s) := congrArg Host.Outcome.next (onLink_loaded s _ loaded)

theorem exec_linkSuspended : exec (.linkSuspended p) s = .next (linkSuspend p s) := congrArg Host.Outcome.next (onLink_loaded s _ loaded)

theorem exec_linkResumed : exec (.linkResumed p) s = .next (linkResume p s) := congrArg Host.Outcome.next (onLink_loaded s _ loaded)

theorem exec_wakeArmed : exec (.wakeArmed p) s = .next (s.modCpe p (fun e => { e with wakeArmed := true })) :=
  congrArg Host.Outcome.next (onLink_loaded s _ loaded)

theorem exec_wakeDisarmed : exec (.wakeDisarmed p) s = .next (s.modCpe p (fun e => { e with wakeArmed := false })) :=
  congrArg Host.Outcome.next (onLink_loaded s _ loaded)

theorem exec_ledOutputReport (lamps : Lamps) : exec (.ledOutputReport p lamps) s = .next (setLamps p lamps s) :=
  congrArg Host.Outcome.next (onLink_loaded s _ loaded)

end

/-! ## Detach (R81, R88) -/

section
variable (p : Port) (s : State)

/-- The LED state is set, and a change of it is handed to the console (R12, R81). -/
theorem setLamps_eq (lamps : Lamps) : setLamps p lamps s = { s with
    cpe := s.cpe.set p { s.cpe.get p with lamps := lamps }
    handoffs := s.handoffs ++
      (if (s.cpe.get p).lamps = lamps then [] else [{ src := .cpe p, cmd := .ledTrigger (.port p) }]) } := by
  unfold setLamps
  split
  · next same =>
    have stays : ({ s.cpe.get p with lamps := lamps } : Cpe) = s.cpe.get p := by rw [← same]
    rw [stays, Tab.set_get_self, List.append_nil]
  · rfl

theorem detachPort_eq : detachPort p s = { s with
    cpe := s.cpe.set p { emptied (s.cpe.get p) with linkState := .detached }
    handoffs := s.handoffs ++ handedByMove p (s.cpe.get p).linkState .detached } :=
  moveLink_modCpe p s .detached emptied rfl

theorem linkDown_eq : linkDown p s = { s with
    cpe := s.cpe.set p { emptied (s.cpe.get p) with
      linkState := .detached, link := .down, wakeArmed := false, lamps := Flags.none }
    handoffs := s.handoffs
      ++ (if (s.cpe.get p).lamps = Flags.none then [] else [{ src := .cpe p, cmd := .ledTrigger (.port p) }])
      ++ handedByMove p (s.cpe.get p).linkState .detached } := by
  rw [linkDown, detachPort_eq, setLamps_eq, modCpe_eq]
  simp only [Tab.get_set_self, Tab.set_set]
  rfl

theorem linkDown_linkState : ((linkDown p s).cpe.get p).linkState = .detached := by
  rw [linkDown_eq]
  exact congrArg Cpe.linkState (Tab.get_set_self _ _ _)

/-! ## Configure (R83, R84) -/

/-- A configure of a port that is not Detached is a detach and then a configure (log 15). -/
theorem linkUp_again (state : (s.cpe.get p).linkState ≠ .detached) : linkUp p s = linkUp p (linkDown p s) := by
  rw [linkUp, if_neg state, linkUp, if_pos (linkDown_linkState p s)]

theorem linkUp_detached (state : (s.cpe.get p).linkState = .detached) :
    linkUp p s = retake p (s.modCpe p (fun e => { e with link := .up })) := by
  rw [linkUp, if_pos state]

theorem retake_disabled (off : (s.portEntry p).enabled = false) : retake p s = s := if_pos (.inl off)

theorem retake_taken (state : (s.cpe.get p).linkState ≠ .detached) : retake p s = s := if_pos (.inr state)

section
variable (on : (s.portEntry p).enabled = true) (state : (s.cpe.get p).linkState = .detached)
include on state

theorem retake_down (link : (s.cpe.get p).link = .down) : retake p s = s := by
  simp [retake, on, state, link]

theorem retake_up (link : (s.cpe.get p).link = .up) : retake p s = enterSettling p (setUpSets p s) := by
  simp [retake, on, state, link]

theorem retake_asleep (link : (s.cpe.get p).link = .asleep) : retake p s = moveLink p .suspended (setUpSets p s) := by
  simp [retake, on, state, link]

end

theorem enterSettling_waits (polls : (s.portEntry p).settlePolls ≠ 0) : enterSettling p s = { s with
    cpe := s.cpe.set p { s.cpe.get p with linkState := .settling, settle := 0 }
    handoffs := s.handoffs ++ handedByMove p (s.cpe.get p).linkState .settling } := by
  rw [enterSettling, moveLink_modCpe p s .settling (fun e => { e with settle := 0 }) rfl]
  exact if_neg polls

theorem enterSettling_atOnce (polls : (s.portEntry p).settlePolls = 0) : ((enterSettling p s).cpe.get p).linkState = .active := by
  rw [enterSettling, moveLink_modCpe p s .settling (fun e => { e with settle := 0 }) rfl]
  refine (congrArg (fun t : State => (t.cpe.get p).linkState) (if_pos polls)).trans ?_
  rw [enterActive_get, activated_linkState]

section
variable (on : (s.portEntry p).enabled = true) (state : (s.cpe.get p).linkState = .detached)
include on state

theorem linkUp_enabled :
    linkUp p s = enterSettling p (setUpSets p (s.modCpe p (fun e => { e with link := .up }))) := by
  rw [linkUp_detached p s state]
  exact retake_up p (s.modCpe p _) on (by rw [modCpe_cpe, Tab.get_upd_self, state]) (by rw [modCpe_cpe, Tab.get_upd_self])

theorem linkUp_settles (polls : (s.portEntry p).settlePolls ≠ 0) : linkUp p s = { s with
    cpe := s.cpe.set p { s.cpe.get p with
      linkState := .settling, link := .up, settle := 0, ignored := s.fcu.passedKeys, pointerIgnored := s.passedButtons }
    handoffs := s.handoffs ++ handedByMove p .detached .settling } := by
  have sets : setUpSets p (s.modCpe p (fun e => { e with link := .up })) = { s with
      cpe := s.cpe.set p { s.cpe.get p with link := .up, ignored := s.fcu.passedKeys, pointerIgnored := s.passedButtons } } := by
    rw [setUpSets, modCpe_eq, modCpe_eq]
    simp only [Tab.get_set_self, Tab.set_set]
    rfl
  rw [linkUp_enabled p s on state, sets, enterSettling_waits]
  · simp only [Tab.get_set_self, Tab.set_set, state]
  · exact polls

end

/-! ## Suspend and resume (R84, R87) -/

theorem linkSuspend_flushes (h : (s.cpe.get p).linkState = .active ∨ (s.cpe.get p).linkState = .stalled
      ∨ (s.cpe.get p).linkState = .recovering) : linkSuspend p s = { s with
    cpe := s.cpe.set p { flushed (s.cpe.get p) with linkState := .suspended, link := .asleep }
    handoffs := s.handoffs ++ handedByMove p (s.cpe.get p).linkState .suspended } := by
  have taken : linkSuspend p s = moveLink p .suspended ((s.modCpe p (fun e => { e with link := .asleep })).modCpe p flushed) := by
    rcases h with state | state | state <;> simp [linkSuspend, state]
  rw [taken, moveLink_modCpe p _ .suspended flushed rfl, modCpe_eq]
  simp only [Tab.get_set_self, Tab.set_set]
  rfl

theorem linkSuspend_settling (state : (s.cpe.get p).linkState = .settling) : linkSuspend p s = { s with
    cpe := s.cpe.set p { s.cpe.get p with linkState := .suspended, link := .asleep, settle := 0 }
    handoffs := s.handoffs ++ handedByMove p .settling .suspended } := by
  have taken : linkSuspend p s =
      moveLink p .suspended ((s.modCpe p (fun e => { e with link := .asleep })).modCpe p (fun e => { e with settle := 0 })) := by
    simp [linkSuspend, state]
  rw [taken, moveLink_modCpe p _ .suspended (fun e => { e with settle := 0 }) rfl, modCpe_eq]
  simp only [Tab.get_set_self, Tab.set_set, state]

theorem linkSuspend_other (h : (s.cpe.get p).linkState = .detached ∨ (s.cpe.get p).linkState = .suspended
      ∨ (s.cpe.get p).linkState = .waking) : linkSuspend p s = s.modCpe p (fun e => { e with link := .asleep }) := by
  rcases h with state | state | state <;> simp [linkSuspend, state]

theorem linkResume_recovers (h : (s.cpe.get p).linkState = .suspended ∨ (s.cpe.get p).linkState = .waking) : linkResume p s = { s with
    cpe := s.cpe.set p { s.cpe.get p with linkState := .recovering, link := .up }
    handoffs := s.handoffs ++ handedByMove p (s.cpe.get p).linkState .recovering } := by
  have taken : linkResume p s = moveLink p .recovering (s.modCpe p (fun e => { e with link := .up })) := by
    rcases h with state | state <;> simp [linkResume, state]
  rw [taken, moveLink_modCpe p s .recovering (fun e => { e with link := .up }) rfl]

theorem linkResume_other (suspended : (s.cpe.get p).linkState ≠ .suspended) (waking : (s.cpe.get p).linkState ≠ .waking) :
    linkResume p s = s.modCpe p (fun e => { e with link := .up }) := by
  cases state : (s.cpe.get p).linkState with
  | suspended => exact absurd state suspended
  | waking => exact absurd state waking
  | detached | settling | active | stalled | recovering => simp [linkResume, state]

end

/-! ## Only the port itself changes -/

/-- From one state to another no port engine but one changes. -/
def OnlyPort (p : Port) (s t : State) : Prop := ∃ e : Cpe, t.cpe = s.cpe.set p e

section
variable {p : Port} {s t u : State}

theorem OnlyPort.refl (p : Port) (s : State) : OnlyPort p s s := ⟨s.cpe.get p, (Tab.set_get_self _ _).symm⟩

theorem OnlyPort.trans (a : OnlyPort p s t) (b : OnlyPort p t u) : OnlyPort p s u := by
  obtain ⟨e, he⟩ := a
  obtain ⟨f, hf⟩ := b
  exact ⟨f, by rw [hf, he, Tab.set_set]⟩

theorem OnlyPort.other (a : OnlyPort p s t) {x : Port} (h : x ≠ p) : t.cpe.get x = s.cpe.get x := by
  obtain ⟨e, he⟩ := a
  rw [he, Tab.get_set_other _ h]

end

section
variable (p : Port) (s : State)

theorem onlyPort_moveLink (st : LinkState) : OnlyPort p s (moveLink p st s) := ⟨_, moveLink_cpe p st s⟩

theorem onlyPort_enterActive : OnlyPort p s (enterActive p s) := ⟨activated s p, by rw [enterActive_eq, noticeCatchUp_cpe]⟩

theorem onlyPort_enterSettling : OnlyPort p s (enterSettling p s) := by
  have settling : OnlyPort p s (moveLink p .settling (s.modCpe p (fun e => { e with settle := 0 }))) :=
    .trans ⟨_, rfl⟩ (onlyPort_moveLink p _ _)
  unfold enterSettling
  dsimp only
  split
  · exact settling.trans (onlyPort_enterActive p _)
  · exact settling

theorem onlyPort_retake : OnlyPort p s (retake p s) := by
  have sets : OnlyPort p s (setUpSets p s) := ⟨_, rfl⟩
  unfold retake
  (repeat' split)
  · exact .refl p s
  · exact .refl p s
  · exact sets.trans (onlyPort_enterSettling p _)
  · exact sets.trans (onlyPort_moveLink p _ _)

theorem onlyPort_portRetaken (old : PortEntry) : OnlyPort p s (portRetaken p old s) := by
  unfold portRetaken
  split
  · exact onlyPort_retake p s
  · exact .refl p s

theorem onlyPort_portSettles (old new : PortEntry) : OnlyPort p s (portSettles p old new s) := by
  unfold portSettles
  split
  · exact onlyPort_enterActive p s
  · exact .refl p s

end

/-! ## What a write of its entry makes of a port (R80, R83, R84) -/

section
variable (p : Port) (old : PortEntry) (s : State)

theorem portWritten_cpe (h : ¬(old.enabled = true ∧ (s.portEntry p).enabled = false)) :
    (portWritten p old s).cpe = (portFollows p old s).cpe := by
  rw [portWritten_enabled p old s h]
  split
  · exact noticeCatchUp_cpe p _
  · rfl

theorem onlyPort_portWritten : OnlyPort p s (portWritten p old s) := by
  by_cases off : old.enabled = true ∧ (s.portEntry p).enabled = false
  · exact ⟨_, by rw [portWritten_disabled p old s off.1 off.2, detachPort_eq]⟩
  · obtain ⟨e, follows⟩ := (onlyPort_portRetaken p s old).trans (onlyPort_portSettles p _ old (s.portEntry p))
    exact ⟨e, (portWritten_cpe p old s off).trans follows⟩

/-- The link state that the settle polls leave a port in, when they are written from `old` to `new` (R84). -/
def settledState (old new : PortEntry) (e : Cpe) : LinkState :=
  if old.settlePolls ≠ new.settlePolls ∧ e.linkState = .settling ∧ new.settlePolls ≤ e.settle then .active else e.linkState

theorem portSettles_linkState (new : PortEntry) :
    ((portSettles p old new s).cpe.get p).linkState = settledState old new (s.cpe.get p) := by
  unfold portSettles settledState
  split
  · rw [enterActive_get, activated_linkState]
  · rfl

theorem settledState_of_ne {old new : PortEntry} {e : Cpe} (h : e.linkState ≠ .settling) : settledState old new e = e.linkState :=
  if_neg fun ⟨_, settling, _⟩ => h settling

/-- The link state that a re-taken port comes to (R83, R84). -/
def retakenState (new : PortEntry) (link : LinkCondition) : LinkState :=
  match link with
  | .down => .detached
  | .asleep => .suspended
  | .up => if new.settlePolls = 0 then .active else .settling

/-- A re-taken port has its link's state, and its count of polls does not end the settling at once. -/
theorem retake_settledState (on : (s.portEntry p).enabled = true) (state : (s.cpe.get p).linkState = .detached) :
    settledState old (s.portEntry p) ((retake p s).cpe.get p) = retakenState (s.portEntry p) (s.cpe.get p).link := by
  cases link : (s.cpe.get p).link with
  | down =>
    rw [retake_down p s on state link, settledState_of_ne (by rw [state]; decide)]
    exact state
  | asleep =>
    have suspended := moveLink_linkState p (setUpSets p s) .suspended
    rw [retake_asleep p s on state link, settledState_of_ne (by rw [suspended]; decide)]
    exact suspended
  | up =>
    rw [retake_up p s on state link]
    by_cases polls : (s.portEntry p).settlePolls = 0
    · have active := enterSettling_atOnce p (setUpSets p s) polls
      rw [settledState_of_ne (by rw [active]; decide), active]
      exact (if_pos polls).symm
    · rw [enterSettling_waits p (setUpSets p s) polls]
      simp only [Tab.get_set_self]
      refine (if_neg fun ⟨_, _, counted⟩ => polls (Nat.le_zero.mp counted)).trans ?_
      exact (if_neg polls).symm

theorem portFollows_linkState : ((portFollows p old s).cpe.get p).linkState =
    if old.enabled = false ∧ (s.portEntry p).enabled = true ∧ (s.cpe.get p).linkState = .detached then
      retakenState (s.portEntry p) (s.cpe.get p).link
    else settledState old (s.portEntry p) (s.cpe.get p) := by
  rw [portFollows, portSettles_linkState]
  by_cases enabled : old.enabled = false ∧ (s.portEntry p).enabled = true
  · have taken : portRetaken p old s = retake p s := if_pos (by simp [enabled])
    rw [taken]
    by_cases state : (s.cpe.get p).linkState = .detached
    · rw [if_pos ⟨enabled.1, enabled.2, state⟩, retake_settledState p old s enabled.2 state]
    · rw [if_neg (fun h => state h.2.2), retake_taken p s state]
  · have stays : portRetaken p old s = s := if_neg (by simpa using enabled)
    rw [stays, if_neg (fun h => enabled ⟨h.1, h.2.1⟩)]

theorem portWritten_linkState : ((portWritten p old s).cpe.get p).linkState =
    if old.enabled = true ∧ (s.portEntry p).enabled = false then .detached
    else if old.enabled = false ∧ (s.portEntry p).enabled = true ∧ (s.cpe.get p).linkState = .detached then
      retakenState (s.portEntry p) (s.cpe.get p).link
    else settledState old (s.portEntry p) (s.cpe.get p) := by
  by_cases off : old.enabled = true ∧ (s.portEntry p).enabled = false
  · rw [if_pos off, portWritten_disabled p old s off.1 off.2, detachPort, moveLink_linkState]
  · rw [if_neg off, portWritten_cpe p old s off, portFollows_linkState]

/-- A write that leaves the enable as it is acts on a Settling port only. -/
theorem portWritten_quiet (same : old.enabled = (s.portEntry p).enabled) (state : (s.cpe.get p).linkState ≠ .settling) :
    (portWritten p old s).cpe = s.cpe ∧ (portWritten p old s).handoffs = s.handoffs := by
  have follows : portFollows p old s = s := by
    have stays : portRetaken p old s = s := if_neg (by simp [same])
    rw [portFollows, stays]
    exact if_neg fun ⟨_, settling, _⟩ => state settling
  have on : ¬(old.enabled = true ∧ (s.portEntry p).enabled = false) := fun ⟨was, off⟩ => by
    rw [same, off] at was
    cases was
  rw [portWritten_enabled p old s on, follows]
  split
  · exact ⟨noticeCatchUp_cpe p s, noticeCatchUp_handoffs p s⟩
  · exact ⟨rfl, rfl⟩

end

/-- A port entry stored, before it acts on its port (R80). -/
def portStored (p : Port) (e : PortEntry) (s : State) : State := s.modTables (fun t => { t with ports := t.ports.set p e })

theorem portStored_portEntry (p : Port) (e : PortEntry) (s : State) : (portStored p e s).portEntry p = e := Tab.get_set_self _ _ _

theorem storePort_eq (p : Port) (e : PortEntry) (s : State) : storePort p e s = portWritten p (s.portEntry p) (portStored p e s) := rfl

/-- A served write of a port entry leaves the ports and the hand-offs as the stored entry does. -/
theorem exec_writePortEntry_stored (q : Request) (w : RawPort) (p : Port) (s : State) (served : Served s q) (index : q.arg2 = p.val + 1)
    (new : PortEntry × Bool) (ok : checkPort w = some new) (allowed : p ≠ q.port ∨ new.1.managementAllowed = true) :
    ∃ t, exec (.writePortEntry q w) s = .next t
      ∧ t.cpe = (storePort p new.1 s).cpe ∧ t.handoffs = (storePort p new.1 s).handoffs := by
  obtain ⟨managed, idle, free, -, -⟩ := served
  have passes : portDenied q p new.1 = false := by
    rw [← Bool.not_eq_true, portDenied_iff]
    rintro ⟨own, unmanaged⟩
    rcases allowed with other | given
    · exact other own
    · rw [unmanaged] at given
      cases given
  refine ⟨_, write_stored (.writePortEntry q w) q (checkPort w) (portDenied q) (fun _ _ => false) storePort _ s rfl rfl managed
    idle free p index new.1 new.2 ok passes rfl, ?_⟩
  generalize ({ status := .ok, clamped := new.2, saveFailed := false, payload := [] } : Reply) = r
  have keeps : Keeps [.sent] (storePort p new.1 s) (sendReply 2 q r (storePort p new.1 s)) := by simp
  exact ⟨keeps .cpe (by decide), keeps .handoffs (by decide)⟩

/-- Settles O28: each link event by the port's state, and a write of the port's entry by what it changes. -/
theorem linkEventsTaken : Obligations.LinkEventsTaken := by
  refine ⟨fun p s loaded => ?_, fun q w p s served index new ok allowed => ?_⟩
  · dsimp only
    rw [exec_linkDetached p s loaded, exec_linkSuspended p s loaded, exec_linkResumed p s loaded, exec_wakeArmed p s loaded,
      exec_wakeDisarmed p s loaded]
    have down : (linkDown p s).loading = false := by rw [linkDown_eq]; exact loaded
    refine ⟨⟨_, rfl, ?_⟩, fun state t next => ?_, fun state off => ?_,
      fun state on => ⟨_, exec_linkConfigured p s loaded, fun polls => ?_, fun polls => ?_⟩,
      fun h => ⟨_, rfl, ?_⟩, fun state => ⟨_, rfl, ?_⟩, fun h => ?_, fun h => ⟨_, rfl, ?_⟩, fun suspended waking => ?_, rfl, rfl, fun lamps => ?_⟩
    · rw [linkDown_eq]
      exact ⟨rfl, rfl⟩
    · cases next
      rw [exec_linkConfigured p s loaded, exec_linkConfigured p _ down, linkUp_again p s state]
    · rw [exec_linkConfigured p s loaded, linkUp_detached p s state]
      exact congrArg Host.Outcome.next (retake_disabled p (s.modCpe p _) off)
    · rw [linkUp_settles p s on state polls]
      exact ⟨rfl, rfl⟩
    · rw [linkUp_enabled p s on state]
      exact enterSettling_atOnce p _ polls
    · rw [linkSuspend_flushes p s h]
      exact ⟨rfl, rfl⟩
    · rw [linkSuspend_settling p s state]
      exact ⟨rfl, rfl⟩
    · rw [linkSuspend_other p s h]
      rfl
    · rw [linkResume_recovers p s h]
      exact ⟨rfl, rfl⟩
    · rw [linkResume_other p s suspended waking]
      rfl
    · rw [exec_ledOutputReport p s loaded lamps]
      rfl
  · obtain ⟨t, next, cpe, handoffs⟩ := exec_writePortEntry_stored q w p s served index new ok allowed
    rw [storePort_eq] at cpe handoffs
    have entry := portStored_portEntry p new.1 s
    have state := portWritten_linkState p (s.portEntry p) (portStored p new.1 s)
    rw [entry] at state
    refine ⟨t, next, ?_, ?_, fun was off => ?_, fun same settled => ?_, fun x other => ?_⟩
    · rw [cpe]
      exact state
    · rw [cpe]
      exact sameLinks_storePort p new.1 s p
    · rw [cpe, portWritten_disabled p _ _ was (by rw [entry]; exact off), detachPort_eq]
      exact Tab.get_set_self _ _ _
    · rw [cpe, handoffs]
      exact portWritten_quiet p _ (portStored p new.1 s) (by rw [entry]; exact same) settled
    · rw [cpe]
      exact (onlyPort_portWritten p _ (portStored p new.1 s)).other other

end Sys2Proof.Machine

/-!
PROOFS. Keyboard and pointer polls by the port's state (R84, R96, R98, R99).
-/

namespace Sys2Proof.Machine

/-! ## The answer in Active (R96, R98) -/

/-- The stall timer of a port after a poll that leaves its queues with these entries (R98). -/
def pollTimer (p : Port) (s : State) (keys : List Snapshot) (reports : List PointerReport) : Timer :=
  if keys = [] ∧ reports = [] then none else some (s.timebase + (s.portEntry p).stallTimeout * 1000)

section
variable (p : Port) (s : State)

theorem pollStall_eq : pollStall p s = { s with
    cpe := s.cpe.set p { s.cpe.get p with stall := pollTimer p s (s.cpe.get p).keyQueue (s.cpe.get p).pointerQueue } } := by
  simp only [pollStall, queuesEmpty_iff, pollTimer]
  split
  · exact modCpe_eq p _ s
  · exact startStall_eq p s

theorem answerKeyboard_eq : answerKeyboard p s = { s with
    sent := s.sent ++ [.keyboardAnswer p (s.cpe.get p).keyQueue.head?]
    cpe := s.cpe.set p { s.cpe.get p with
      keyQueue := (s.cpe.get p).keyQueue.tail
      stall := pollTimer p s (s.cpe.get p).keyQueue.tail (s.cpe.get p).pointerQueue } } := by
  rw [answerKeyboard, pollStall_eq, modCpe_eq]
  simp only [State.send, Tab.get_set_self, Tab.set_set]
  rfl

theorem answerPointer_eq : answerPointer p s = { s with
    sent := s.sent ++ [.pointerAnswer p (s.cpe.get p).pointerQueue.head?]
    cpe := s.cpe.set p { s.cpe.get p with
      pointerQueue := (s.cpe.get p).pointerQueue.tail
      stall := pollTimer p s (s.cpe.get p).keyQueue (s.cpe.get p).pointerQueue.tail } } := by
  rw [answerPointer, pollStall_eq, modCpe_eq]
  simp only [State.send, Tab.get_set_self, Tab.set_set]
  rfl

/-! ## The answer on entering Active from Stalled (R85, R98) -/

theorem answerKeyboard_entered : ((answerKeyboard p (enterActive p s)).cpe.get p).linkState = .active
    ∧ (answerKeyboard p (enterActive p s)).sent.getLast? = some (.keyboardAnswer p
      (if (s.cpe.get p).keyQueue = [] then some (snapshotOf (s.cpe.get p).reported) else (s.cpe.get p).keyQueue.head?)) := by
  have front : (activated s p).keyQueue.head? =
      if (s.cpe.get p).keyQueue = [] then some (snapshotOf (s.cpe.get p).reported) else (s.cpe.get p).keyQueue.head? := by
    rw [activated_keyQueue, apply_ite List.head?]
    rfl
  rw [answerKeyboard_eq, Tab.get_set_self, enterActive_get, front]
  exact ⟨activated_linkState s p, List.getLast?_concat⟩

theorem answerPointer_entered : ((answerPointer p (enterActive p s)).cpe.get p).linkState = .active
    ∧ (answerPointer p (enterActive p s)).sent.getLast? = some (.pointerAnswer p
      (if (s.cpe.get p).pointerQueue = [] ∧ s.fcu.owner = some p then (s.cpe.get p).lastReport.map (fun r => { r with wheel := 0 })
      else (s.cpe.get p).pointerQueue.head?)) := by
  have front : (activated s p).pointerQueue.head? =
      if (s.cpe.get p).pointerQueue = [] ∧ s.fcu.owner = some p then (s.cpe.get p).lastReport.map (fun r => { r with wheel := 0 })
      else (s.cpe.get p).pointerQueue.head? := by
    rw [activated_pointerQueue, apply_ite List.head?, Option.head?_toList]
  rw [answerPointer_eq, Tab.get_set_self, enterActive_get, front]
  exact ⟨activated_linkState s p, List.getLast?_concat⟩

/-! ## A poll in Settling (R84) -/

theorem settleCount_counts (waits : (s.cpe.get p).settle + 1 < (s.portEntry p).settlePolls) : settleCount p s = { s with
    cpe := s.cpe.set p { s.cpe.get p with settle := (s.cpe.get p).settle + 1 } } := by
  rw [settleCount, modCpe_eq]
  refine if_neg ?_
  rw [Tab.get_set_self]
  exact Nat.not_le.mpr waits

theorem enterActive_sent : (enterActive p s).sent = s.sent ++ owedNotice p (enterActive p s) := by
  rw [enterActive_eq, noticeCatchUp_sent, owedNotice_noticeCatchUp]

theorem settleCount_enters (ends : (s.portEntry p).settlePolls ≤ (s.cpe.get p).settle + 1) :
    settleCount p s = enterActive p (s.modCpe p (fun e => { e with settle := e.settle + 1 })) := by
  refine if_pos ?_
  rw [modCpe_eq, Tab.get_set_self]
  exact ends

/-- The last poll in Settling is answered before the port enters Active, which may send it a notice report. -/
theorem settleCount_answered (o : Sent) (ends : (s.portEntry p).settlePolls ≤ (s.cpe.get p).settle + 1) :
    ((settleCount p (s.send o)).cpe.get p).linkState = .active
    ∧ (settleCount p (s.send o)).sent[s.sent.length]? = some o := by
  rw [settleCount_enters p (s.send o) ends, enterActive_get, enterActive_sent]
  refine ⟨activated_linkState _ p, ?_⟩
  rw [modCpe_sent, send_sent, List.append_assoc, List.getElem?_append_right (le_refl _), Nat.sub_self]
  rfl

/-! ## A poll by the port's state (R96) -/

theorem exec_keyboardPoll (loaded : s.loading = false) : exec (.keyboardPoll p) s = .next (keyboardPolled p s) :=
  congrArg Host.Outcome.next (onLink_loaded s _ loaded)

theorem exec_pointerPoll (loaded : s.loading = false) : exec (.pointerPoll p) s = .next (pointerPolled p s) :=
  congrArg Host.Outcome.next (onLink_loaded s _ loaded)

theorem polled_active (state : (s.cpe.get p).linkState = .active) :
    keyboardPolled p s = answerKeyboard p s ∧ pointerPolled p s = answerPointer p s := by
  simp only [keyboardPolled, pointerPolled, state, and_self]

theorem polled_stalled (state : (s.cpe.get p).linkState = .stalled) :
    keyboardPolled p s = answerKeyboard p (enterActive p s) ∧ pointerPolled p s = answerPointer p (enterActive p s) := by
  simp only [keyboardPolled, pointerPolled, state, and_self]

theorem polled_settling (state : (s.cpe.get p).linkState = .settling) :
    keyboardPolled p s = settleCount p (s.send (.keyboardAnswer p (some { modifiers := [], keys := [] })))
    ∧ pointerPolled p s = settleCount p (s.send (.pointerAnswer p none)) := by
  simp only [keyboardPolled, pointerPolled, state, and_self]

theorem polled_noChange (h : (s.cpe.get p).linkState = .suspended ∨ (s.cpe.get p).linkState = .waking
      ∨ (s.cpe.get p).linkState = .recovering ∨ ((s.cpe.get p).linkState = .detached ∧ (s.cpe.get p).link = .up)) :
    keyboardPolled p s = s.send (.keyboardAnswer p none) ∧ pointerPolled p s = s.send (.pointerAnswer p none) := by
  rcases h with state | state | state | ⟨state, up⟩
  · simp only [keyboardPolled, pointerPolled, state, and_self]
  · simp only [keyboardPolled, pointerPolled, state, and_self]
  · simp only [keyboardPolled, pointerPolled, state, and_self]
  · simp only [keyboardPolled, pointerPolled, state, up, if_true, and_self]

theorem polled_unanswered (state : (s.cpe.get p).linkState = .detached) (link : (s.cpe.get p).link ≠ .up) :
    keyboardPolled p s = s ∧ pointerPolled p s = s := by
  simp only [keyboardPolled, pointerPolled, state, if_neg link, and_self]

end

/-- Settles O29: the answer and the timers by the port's state. -/
theorem pollsAnswered : Obligations.PollsAnswered := by
  intro p s loaded
  dsimp only
  simp only [exec_keyboardPoll p s loaded, exec_pointerPoll p s loaded]
  refine ⟨fun state => ?_, fun state => ?_, fun state waits => ?_, fun state ends => ?_, fun h => ?_, fun state link => ?_⟩
  · obtain ⟨keyboard, pointer⟩ := polled_active p s state
    rw [keyboard, pointer, answerKeyboard_eq, answerPointer_eq]
    exact ⟨rfl, rfl⟩
  · obtain ⟨keyboard, pointer⟩ := polled_stalled p s state
    rw [keyboard, pointer]
    exact ⟨⟨_, rfl, answerKeyboard_entered p s⟩, _, rfl, answerPointer_entered p s⟩
  · obtain ⟨keyboard, pointer⟩ := polled_settling p s state
    rw [keyboard, pointer, settleCount_counts p (s.send _) waits, settleCount_counts p (s.send _) waits]
    exact ⟨rfl, rfl⟩
  · obtain ⟨keyboard, pointer⟩ := polled_settling p s state
    rw [keyboard, pointer]
    exact ⟨⟨_, rfl, settleCount_answered p s _ ends⟩, _, rfl, settleCount_answered p s _ ends⟩
  · obtain ⟨keyboard, pointer⟩ := polled_noChange p s h
    rw [keyboard, pointer]
    exact ⟨rfl, rfl⟩
  · obtain ⟨keyboard, pointer⟩ := polled_unanswered p s state link
    rw [keyboard, pointer]
    exact ⟨rfl, rfl⟩

end Sys2Proof.Machine

/-!
PROOFS. Frame starts, line starts and the loss timer at a Frame Monitor (R105 to R111).
-/

namespace Sys2Proof.Machine

theorem modFmn_eq (v : Source) (f : Fmn → Fmn) (s : State) : s.modFmn v f = { s with fmn := s.fmn.set v (f (s.fmn.get v)) } := rfl

/-! ## A period weighed (R107 to R109) -/

section
variable (f : Fmn) (count period b now l q lines : Nat)

theorem inWindow_iff : inWindow period = true ↔ 8000 ≤ period ∧ period ≤ 50000 := by
  rw [inWindow, Bool.and_eq_true, decide_eq_true_eq, decide_eq_true_eq]
  rfl

theorem inWindow_eq_false : inWindow period = false ↔ period < 8000 ∨ 50000 < period := by
  rw [← Bool.not_eq_true, inWindow_iff]
  omega

theorem agree_iff (a b : Nat) : agree a b = true ↔ a ≤ b + 64 ∧ b ≤ a + 64 := by
  rw [agree, Bool.and_eq_true, decide_eq_true_eq, decide_eq_true_eq]
  rfl

/-- Without a measured period before it, a period in the window is the first of a run. -/
theorem weighPeriod_first : weighPeriod none count period = if period < 8000 ∨ 50000 < period then 0 else 1 := by
  simp only [weighPeriod, inWindow_eq_false]

theorem weighPeriod_next : weighPeriod (some b) count period = if period < 8000 ∨ 50000 < period then 0
    else if 1 ≤ count ∧ period ≤ b + 64 ∧ b ≤ period + 64 then count + 1 else 1 := by
  simp only [weighPeriod, inWindow_eq_false, agree_iff]

theorem gather_short (before : Option Nat) (short : weighPeriod before f.agreement period < 3) :
    gather f before period lines = { f with agreement := weighPeriod before f.agreement period } :=
  if_neg (Nat.not_le.mpr short)

theorem gather_locks (before : Option Nat) (third : 3 ≤ weighPeriod before f.agreement period) :
    gather f before period lines =
      { f with state := .locked, agreement := 3, lockedPeriod := some period, linesPerFrame := some lines } :=
  if_pos third

theorem holdLock_agrees (locked : f.lockedPeriod = some q) (near : period ≤ q + 64 ∧ q ≤ period + 64) : holdLock f period = f := by
  simp only [holdLock, locked, agree_iff, if_pos near]

theorem holdLock_differs (locked : f.lockedPeriod = some q) (far : ¬(period ≤ q + 64 ∧ q ≤ period + 64)) :
    holdLock f period =
      { f with state := .unstable, agreement := if 8000 ≤ period ∧ period ≤ 50000 then 1 else 0 } := by
  simp only [holdLock, locked, agree_iff, if_neg far, inWindow_iff]

/-! ## The monitor at a frame start (R105) -/

/-- What every frame start does to the monitor, whatever the state: the start is recorded, the lines begin anew, and so does the
loss timer (R105, R106, R110). -/
def Fmn.started : Fmn := { f with lastStart := some now, currentLine := 0, loss := some (now + 100000) }

theorem frame_noSignal (state : f.state = .noSignal) (first : f.lastStart = none) :
    f.frame now = { f.started now with state := .acquiring, agreement := 0 } := by
  simp only [Fmn.frame, Fmn.started, state, first]
  rfl

/-- In Acquiring and Unstable a period is weighed (R107, R109). -/
theorem frame_gathers (state : f.state = .acquiring ∨ f.state = .unstable) (last : f.lastStart = some l) :
    f.frame now = gather { f.started now with measured := some (now - l) } f.measured (now - l) (min (f.currentLine + 1) 4095) := by
  rcases state with state | state
  · simp only [Fmn.frame, Fmn.started, state, last]
    rfl
  · simp only [Fmn.frame, Fmn.started, state, last]
    rfl

/-- In Locked a period is compared with the locked period (R108). -/
theorem frame_holds (state : f.state = .locked) (last : f.lastStart = some l) :
    f.frame now = holdLock { f.started now with measured := some (now - l) } (now - l) := by
  simp only [Fmn.frame, Fmn.started, state, last]
  rfl

end

/-! ## What a frame start hands on (R107, R109, R111) -/

section
variable (v : Source) (now : Nat) (s : State)

/-- What a frame start hands on as the source goes from one state to another: SourceLocked for a source that locks, the change, and
the frame of a Locked source. -/
def handedAtFrameStart (old new : SourceState) : List Handoff :=
  (if new = .locked ∧ old ≠ .locked then [{ src := .fmn v, cmd := .noticeRaise .sourceLocked }] else [])
  ++ (if new = old then [] else handedByState v old new)
  ++ (if new = .locked then handedByFrame s v else [])

theorem handedAtFrameStart_stays (st : SourceState) (free : st ≠ .locked) : handedAtFrameStart v s st st = [] := by
  rw [handedAtFrameStart, if_neg (fun h => free h.1), if_pos rfl, if_neg free, List.append_nil, List.append_nil]

theorem handedAtFrameStart_moves (old new : SourceState) (free : new ≠ .locked) (moves : new ≠ old) :
    handedAtFrameStart v s old new = handedByState v old new := by
  rw [handedAtFrameStart, if_neg (fun h => free h.1), if_neg moves, if_neg free, List.nil_append, List.append_nil]

theorem handedAtFrameStart_locks (old : SourceState) (free : old ≠ .locked) : handedAtFrameStart v s old .locked =
    [{ src := .fmn v, cmd := .noticeRaise .sourceLocked }] ++ handedByState v old .locked ++ handedByFrame s v := by
  rw [handedAtFrameStart, if_pos ⟨rfl, free⟩, if_neg free.symm, if_pos rfl]

theorem handedAtFrameStart_locked : handedAtFrameStart v s .locked .locked = handedByFrame s v := by
  rw [handedAtFrameStart, if_neg (fun h => h.2 rfl), if_pos rfl, if_pos rfl, List.nil_append, List.nil_append]

theorem noteLock_eq (old : SourceState) : noteLock v old s = { s with handoffs := s.handoffs ++
    if (s.fmn.get v).state = .locked ∧ old ≠ .locked then [{ src := .fmn v, cmd := .noticeRaise .sourceLocked }] else [] } := by
  by_cases locks : (s.fmn.get v).state = .locked ∧ old ≠ .locked
  · obtain ⟨new, other⟩ := locks
    simp [noteLock, State.sourceLocked, new, other, State.raise, State.hand]
  · have quiet : (s.sourceLocked v && decide (old ≠ .locked)) = false := by
      rw [← Bool.not_eq_true, State.sourceLocked, Bool.and_eq_true, decide_eq_true_eq, decide_eq_true_eq]
      exact locks
    rw [noteLock, quiet, if_neg Bool.false_ne_true, if_neg locks, List.append_nil]

theorem frameResults_eq (old : SourceState) :
    frameResults v old s = { s with handoffs := s.handoffs ++ handedAtFrameStart v s old (s.fmn.get v).state } := by
  unfold frameResults handedAtFrameStart
  dsimp only
  rw [noteLock_eq]
  generalize (s.fmn.get v).state = new
  by_cases same : new = old
  · by_cases locked : new = .locked
    · rw [if_pos same, if_pos locked, handFrame_eq, if_pos same, if_pos locked, List.append_nil, ← List.append_assoc]
      rfl
    · rw [if_pos same, if_neg locked, if_pos same, if_neg locked, List.append_nil, List.append_nil]
  · by_cases locked : new = .locked
    · rw [if_neg same, if_pos locked, handFrame_eq, handSourceState_eq, if_neg same, if_pos locked, ← List.append_assoc,
        ← List.append_assoc]
      rfl
    · rw [if_neg same, if_neg locked, handSourceState_eq, if_neg same, if_neg locked, List.append_nil, ← List.append_assoc]

/-- The loss timer's expiry forgets what the monitor measured, and hands on that the source is lost (R110). -/
theorem signalLost_eq : signalLost v s = { s with
    fmn := s.fmn.set v Fmn.reset
    handoffs := s.handoffs
      ++ (if (s.fmn.get v).state = .locked ∨ (s.fmn.get v).state = .unstable then [{ src := .fmn v, cmd := .noticeRaise .sourceLost }]
        else [])
      ++ (if (s.fmn.get v).state = .noSignal then [] else handedByState v (s.fmn.get v).state .noSignal) } := by
  simp only [signalLost, modFmn_eq, handSourceState_eq]
  cases (s.fmn.get v).state with
  | noSignal => simp
  | acquiring => simp
  | locked => simp [State.raise, State.hand]
  | unstable => simp [State.raise, State.hand]

/-! ## The commands -/

/-- The monitor's loss timer, when it runs, has not run out before a timebase value. -/
def Fmn.OnTime (f : Fmn) (at_ : Nat) : Prop := ∀ x : Nat, f.loss = some x → at_ ≤ x

theorem lossBefore_onTime (f : Fmn) (at_ : Nat) (onTime : f.OnTime at_) : lossBefore f.loss at_ = false := by
  cases loss : f.loss with
  | none => rfl
  | some x => exact decide_eq_false (Nat.not_lt.mpr (onTime x loss))

theorem exec_frameStart_onTime (onTime : (s.fmn.get v).OnTime (max s.timebase now)) (new : Fmn) (handed : List Handoff)
    (frame : (s.fmn.get v).frame (max s.timebase now) = new)
    (hands : handedAtFrameStart v s (s.fmn.get v).state new.state = handed) : exec (.frameStart v now) s = .next { s with
      timebase := max s.timebase now, fmn := s.fmn.set v new, handoffs := s.handoffs ++ handed } := by
  subst hands
  refine congrArg Host.Outcome.next (show takeFrameStart v now s = _ from ?_)
  have kept : lossBefore (s.fmn.get v).loss (max s.timebase now) = false := lossBefore_onTime _ _ onTime
  simp only [takeFrameStart, reach_fmn, reach_timebase, kept, Bool.false_eq_true, if_false, frameResults_eq, modFmn_eq, frame,
    Tab.get_set_self]
  rfl

/-- A frame start that the loss timer ran out before finds the source in NoSignal (R105, R110, log 6). -/
theorem takeFrameStart_late (x : Nat) (loss : (s.fmn.get v).loss = some x) (late : x < max s.timebase now) :
    (takeFrameStart v now s).fmn = s.fmn.set v
      { Fmn.reset with state := .acquiring, lastStart := some (max s.timebase now), loss := some (max s.timebase now + 100000) } := by
  have out : lossBefore (s.fmn.get v).loss (max s.timebase now) = true := by
    rw [loss]
    exact decide_eq_true late
  simp only [takeFrameStart, reach_fmn, reach_timebase, out, if_true, frameResults_eq, signalLost_eq, modFmn_eq, Tab.get_set_self, Tab.set_set]
  rfl

theorem exec_lossTimerExpiry : exec (.lossTimerExpiry v) s = .next (s.onExpiry (s.fmn.get v).loss (signalLost v)) := rfl

theorem exec_lineStart : exec (.lineStart v) s = .next (takeLineStart v s) := rfl

end

/-- Settles O34: the monitor after the frame start by its state, and what its new state hands on. -/
theorem frameStartTaken : Obligations.FrameStartTaken := by
  intro v now s f at_ onTime weigh g
  have weigh_eq : weigh = weighPeriod := by
    funext before count period
    cases before with
    | none => exact (weighPeriod_first count period).symm
    | some b => exact (weighPeriod_next count period b).symm
  rw [weigh_eq]
  have taken (timely : onTime) {new : Fmn} {handed : List Handoff} := exec_frameStart_onTime v now s timely new handed
  have unlocked (h : f.state = .acquiring ∨ f.state = .unstable) : f.state ≠ .locked := by
    rcases h with h | h
    · rw [h]; decide
    · rw [h]; decide
  refine ⟨fun state first timely => ?_, fun l state last timely short => ?_, fun l state last timely third => ?_,
    fun l q state last locked timely => ⟨fun near => ?_, fun far => ?_⟩, fun x loss late => ?_, fun stopped => ?_, fun x running => ?_⟩
  · refine taken timely (frame_noSignal f at_ state first) ?_
    rw [show (s.fmn.get v).state = _ from state]
    exact handedAtFrameStart_moves v s .noSignal .acquiring (by decide) (by decide)
  · refine (taken timely ((frame_gathers f at_ l state last).trans (gather_short _ _ _ _ short))
      (handedAtFrameStart_stays v s f.state (unlocked state))).trans ?_
    rw [List.append_nil]
    rfl
  · refine (taken timely ((frame_gathers f at_ l state last).trans (gather_locks _ _ _ _ third))
      (handedAtFrameStart_locks v s f.state (unlocked state))).trans ?_
    rw [← List.append_assoc, ← List.append_assoc]
    rfl
  · refine taken timely ((frame_holds f at_ l state last).trans (holdLock_agrees _ _ q locked near)) ?_
    refine Eq.trans ?_ (handedAtFrameStart_locked v s)
    exact congrArg (fun st => handedAtFrameStart v s st st) state
  · refine taken timely ((frame_holds f at_ l state last).trans (holdLock_differs _ _ q locked far)) ?_
    rw [show (s.fmn.get v).state = _ from state]
    exact handedAtFrameStart_moves v s .locked .unstable (by decide) (by decide)
  · exact ⟨_, rfl, takeFrameStart_late v now s x loss late⟩
  · rw [exec_lossTimerExpiry, show (s.fmn.get v).loss = none from stopped, onExpiry_stopped]
  · rw [exec_lossTimerExpiry, show (s.fmn.get v).loss = some x from running, onExpiry_running, signalLost_eq]
    rfl

/-- Settles O35: a line start by the source's state and its current line. -/
theorem linesCounted : Obligations.LinesCounted := by
  intro v s f
  rw [exec_lineStart]
  refine ⟨fun still => congrArg Host.Outcome.next (if_pos still), fun signal below => congrArg Host.Outcome.next ?_⟩
  have counts : ¬(f.state = .noSignal ∨ lineLimit ≤ f.currentLine) := not_or.mpr ⟨signal, Nat.not_le.mpr below⟩
  refine (if_neg counts).trans ?_
  by_cases locked : f.state = .locked
  · rw [if_pos locked, if_pos locked]
    rfl
  · rw [if_neg locked, if_neg locked, List.append_nil]
    rfl

end Sys2Proof.Machine

/-!
SUPPORT. The Dim Stages' operations, each said once as a change of one stage's record and of the hand-offs (R112, R138 to R145).
-/

namespace Sys2Proof.Machine

/-! ## Target and phase (R137, R138) -/

section
variable (sc : Screen) (s : State)

theorem modDms_eq (f : Dms → Dms) : s.modDms sc f = { s with dms := s.dms.set sc (f (s.dms.get sc)) } := rfl

/-- The target outside a fade reads Focus Control and the tables alone. -/
theorem ordinaryTarget_congr {t : State} (source : Option Source) (fcu : t.fcu = s.fcu) (tables : t.tables = s.tables) :
    ordinaryTarget t source = ordinaryTarget s source := by
  have owner : t.ownerOf source = s.ownerOf source := by rw [State.ownerOf, tables]; rfl
  have targets : t.isTarget = s.isTarget := funext fun p => by rw [State.isTarget, fcu, tables]; rfl
  unfold ordinaryTarget
  rw [owner, targets, fcu, tables]

theorem dimTarget_eq (d : Dms) :
    dimTarget s d = if d.phase = .fadeOut ∨ d.phase = .fadeWait then 0 else ordinaryTarget s d.source := by
  cases phase : d.phase <;> simp [dimTarget, phase]

/-- The phase that a Dim Stage enters decides its target with its screen source (R137, R138). -/
theorem enterPhase_eq (ph : FadePhase) : enterPhase sc ph s = { s with
    dms := s.dms.set sc { s.dms.get sc with
      phase := ph, target := dimTarget s { s.dms.get sc with phase := ph } } } := by
  simp only [enterPhase, retarget, modDms_eq, Tab.get_set_self, Tab.set_set]
  rfl

/-- A report of FadeWait leaves every Dim Stage as it is. -/
theorem reportFadeWait_dms : (reportFadeWait sc s).dms = s.dms :=
  (show Keeps [.handoffs] s (reportFadeWait sc s) by simp) .dms (by decide)

theorem enterFadeWait_get : (enterFadeWait sc s).dms.get sc = { s.dms.get sc with phase := .fadeWait, target := 0 } := by
  rw [enterFadeWait, reportFadeWait_dms, enterPhase_eq, Tab.get_set_self]
  rfl

theorem enterFadeWait_eq (n : Nat) (inHand : (s.dms.get sc).inHand = some n) : enterFadeWait sc s = { s with
    handoffs := s.handoffs ++ [{ src := .dms sc, cmd := .fadeWaitReport sc n }]
    dms := s.dms.set sc { s.dms.get sc with phase := .fadeWait, target := 0 } } := by
  simp only [enterFadeWait, enterPhase_eq, reportFadeWait, Tab.get_set_self, inHand]
  rfl

/-! ## A step (R139, R142, R143) -/

/-- The level that a step of a Dim Stage makes (R139). -/
def steppedLevel : Nat := stepLevel s.tables.desk.rampRate (s.dms.get sc).level (s.dms.get sc).target

/-- A step ends no phase: there is none to end, or its level is not reached (R142, R143). -/
def StepGoesOn : Prop :=
  (s.dms.get sc).phase = .normal ∨ (s.dms.get sc).phase = .fadeWait
  ∨ ((s.dms.get sc).phase = .fadeOut ∧ steppedLevel sc s ≠ 0)
  ∨ ((s.dms.get sc).phase = .fadeIn ∧ steppedLevel sc s ≠ (s.dms.get sc).target)

theorem dimStep_goesOn (on : StepGoesOn sc s) :
    dimStep sc s = { s with dms := s.dms.set sc { s.dms.get sc with level := steppedLevel sc s } } := by
  rcases on with phase | phase | ⟨phase, lit⟩ | ⟨phase, short⟩
  · simp only [dimStep, modDms_eq, Tab.get_set_self, phase]
    rfl
  · simp only [dimStep, modDms_eq, Tab.get_set_self, phase]
    rfl
  · simp only [dimStep, modDms_eq, Tab.get_set_self, phase]
    exact if_neg lit
  · simp only [dimStep, modDms_eq, Tab.get_set_self, phase]
    exact if_neg short

/-- A step in FadeOut that ends at level 0 (R142). -/
theorem dimStep_dark (phase : (s.dms.get sc).phase = .fadeOut) (dark : steppedLevel sc s = 0) :
    dimStep sc s = enterFadeWait sc { s with dms := s.dms.set sc { s.dms.get sc with level := steppedLevel sc s } } := by
  simp only [dimStep, modDms_eq, Tab.get_set_self, phase]
  exact if_pos dark

theorem dimStep_fadesOut (n : Nat) (phase : (s.dms.get sc).phase = .fadeOut) (dark : steppedLevel sc s = 0)
    (inHand : (s.dms.get sc).inHand = some n) : dimStep sc s = { s with
      handoffs := s.handoffs ++ [{ src := .dms sc, cmd := .fadeWaitReport sc n }]
      dms := s.dms.set sc { s.dms.get sc with level := 0, target := 0, phase := .fadeWait } } := by
  rw [dimStep_dark sc s phase dark, enterFadeWait_eq sc _ n (by rw [Tab.get_set_self]; exact inHand), dark]
  simp only [Tab.get_set_self, Tab.set_set]

/-- A step in FadeIn that reaches the target (R143). -/
theorem dimStep_fadesIn (phase : (s.dms.get sc).phase = .fadeIn) (reached : steppedLevel sc s = (s.dms.get sc).target) :
    dimStep sc s = { s with dms := s.dms.set sc { s.dms.get sc with
      level := steppedLevel sc s, target := ordinaryTarget s (s.dms.get sc).source, phase := .normal } } := by
  simp only [dimStep, modDms_eq, Tab.get_set_self, phase]
  refine (if_pos reached).trans ?_
  simp only [enterPhase_eq, Tab.get_set_self, Tab.set_set]
  rfl

/-- What every step makes of the level, and leaves of the tick, whatever phase it ends. -/
theorem dimStep_level_tick : ((dimStep sc s).dms.get sc).level = steppedLevel sc s
    ∧ ((dimStep sc s).dms.get sc).tick = (s.dms.get sc).tick := by
  have goesOn (on : StepGoesOn sc s) : ((dimStep sc s).dms.get sc).level = steppedLevel sc s
      ∧ ((dimStep sc s).dms.get sc).tick = (s.dms.get sc).tick := by
    rw [dimStep_goesOn sc s on, Tab.get_set_self]
    exact ⟨rfl, rfl⟩
  cases phase : (s.dms.get sc).phase with
  | normal => exact goesOn (.inl phase)
  | fadeWait => exact goesOn (.inr (.inl phase))
  | fadeOut =>
    by_cases dark : steppedLevel sc s = 0
    · rw [dimStep_dark sc s phase dark, enterFadeWait_get, Tab.get_set_self]
      exact ⟨rfl, rfl⟩
    · exact goesOn (.inr (.inr (.inl ⟨phase, dark⟩)))
  | fadeIn =>
    by_cases reached : steppedLevel sc s = (s.dms.get sc).target
    · rw [dimStep_fadesIn sc s phase reached, Tab.get_set_self]
      exact ⟨rfl, rfl⟩
    · exact goesOn (.inr (.inr (.inr ⟨phase, reached⟩)))

/-! ## The substitute tick (R112) -/

/-- The state in which the tick's expiry steps: the timebase has come to the expiry, and the tick has started anew (log 5). -/
def tickRestarted (x : Nat) : State := { s with
  timebase := max s.timebase x
  dms := s.dms.set sc { s.dms.get sc with tick := some (max s.timebase x + 16667) } }

theorem exec_substituteTickExpiry_stopped (stopped : (s.dms.get sc).tick = none) : exec (.substituteTickExpiry sc) s = .next s := by
  refine congrArg Host.Outcome.next (show s.onExpiry (s.dms.get sc).tick (tickExpires sc) = _ from ?_)
  rw [stopped, onExpiry_stopped]

theorem exec_substituteTickExpiry_running (x : Nat) (running : (s.dms.get sc).tick = some x) :
    exec (.substituteTickExpiry sc) s = .next (dimStep sc (tickRestarted sc s x)) := by
  refine congrArg Host.Outcome.next (show s.onExpiry (s.dms.get sc).tick (tickExpires sc) = _ from ?_)
  rw [running, onExpiry_running]
  rfl

theorem tickRestarted_get (x : Nat) :
    (tickRestarted sc s x).dms.get sc = { s.dms.get sc with tick := some (max s.timebase x + 16667) } :=
  Tab.get_set_self ..

theorem steppedLevel_tickRestarted (x : Nat) : steppedLevel sc (tickRestarted sc s x) = steppedLevel sc s := by
  rw [steppedLevel, tickRestarted_get]
  rfl

/-! ## The picture sent (R140, R149) -/

theorem screenComponent_off (pixel : Source → Nat) (off : (s.wkc.power.get sc).on = false) : s.screenComponent sc pixel = none := by
  rw [State.screenComponent, off]
  rfl

theorem screenComponent_on (pixel : Source → Nat) (on : (s.wkc.power.get sc).on = true) :
    s.screenComponent sc pixel = some (s.fedToScreen sc pixel * ((s.dms.get sc).level + 1) / 256) := if_pos on

end

end Sys2Proof.Machine
/-!
PROOFS. The steps of a Dim Stage and the picture that its screen sends (R112, R139, R140, R142, R143, R149).
-/

namespace Sys2Proof.Machine

section
variable (sc : Screen) (s : State)

theorem exec_rampStep_other (v : Source) (other : (s.dms.get sc).source ≠ some v) :
    exec (.rampStep sc v) s = .next (s.taking (.rampStep sc v)) := congrArg Host.Outcome.next (if_neg other)

theorem exec_rampStep_shown (v : Source) (shown : (s.dms.get sc).source = some v) :
    exec (.rampStep sc v) s = .next (dimStep sc (s.taking (.rampStep sc v))) := congrArg Host.Outcome.next (if_pos shown)

/-- A component of the active source, scaled; black for one in NoSignal. -/
theorem screenComponent_shown (pixel : Source → Nat) (on : (s.wkc.power.get sc).on = true) (v : Source) (active : s.active sc = some v) :
    s.screenComponent sc pixel =
      some (if (s.fmn.get v).state = .noSignal then 0 else pixel v * ((s.dms.get sc).level + 1) / 256) := by
  rw [screenComponent_on sc s pixel on, State.fedToScreen, active]
  by_cases dark : (s.fmn.get v).state = .noSignal
  · simp [State.fed, dark]
  · simp [State.fed, dark]

theorem screenComponent_none (pixel : Source → Nat) (on : (s.wkc.power.get sc).on = true) (active : s.active sc = none) :
    s.screenComponent sc pixel = some 0 := by
  rw [screenComponent_on sc s pixel on, State.fedToScreen, active]
  simp

end

/-- Settles O40: a step by its phase, at a frame start and at the tick. -/
theorem dimSteps : Obligations.DimSteps := by
  intro sc s d rate level
  refine ⟨fun v => ⟨fun other => ?_, fun shown => ?_⟩, fun stopped => ?_, fun x running => ?_, fun x running => ?_,
    fun pixel => ⟨fun off => ?_, fun on => ⟨fun active => ?_, fun v active => ?_⟩⟩⟩
  · exact exec_rampStep_other sc s v other
  · rw [exec_rampStep_shown sc s v shown]
    refine ⟨fun on => ?_, fun n phase dark inHand => ?_, fun phase reached => ⟨_, rfl, ?_⟩⟩
    · exact congrArg Host.Outcome.next (dimStep_goesOn sc (s.taking _) on)
    · exact congrArg Host.Outcome.next (dimStep_fadesOut sc (s.taking _) n phase dark inHand)
    · rw [dimStep_fadesIn sc (s.taking _) phase reached, Tab.get_set_self]
      exact ⟨rfl, rfl, rfl⟩
  · exact exec_substituteTickExpiry_stopped sc s stopped
  · refine ⟨_, exec_substituteTickExpiry_running sc s x running, ?_⟩
    obtain ⟨stepped, ticks⟩ := dimStep_level_tick sc (tickRestarted sc s x)
    have keeps : Keeps [.handoffs, .dms] (tickRestarted sc s x) (dimStep sc (tickRestarted sc s x)) := by simp
    rw [stepped, ticks, steppedLevel_tickRestarted, tickRestarted_get]
    exact ⟨rfl, rfl, keeps .timebase (by decide)⟩
  · rw [exec_substituteTickExpiry_running sc s x running]
    have restarted := tickRestarted_get sc s x
    have stepped := steppedLevel_tickRestarted sc s x
    refine ⟨fun on => ?_, fun n phase dark inHand => ?_, fun phase reached => ?_⟩
    · rw [dimStep_goesOn sc _ (by rw [StepGoesOn, restarted, stepped]; exact on), restarted, stepped, tickRestarted, Tab.set_set]
      rfl
    · rw [dimStep_fadesOut sc _ n (by rw [restarted]; exact phase) (by rw [stepped]; exact dark) (by rw [restarted]; exact inHand),
        restarted, tickRestarted, Tab.set_set]
    · rw [dimStep_fadesIn sc _ (by rw [restarted]; exact phase) (by rw [restarted, stepped]; exact reached), restarted, stepped,
        tickRestarted, Tab.set_set]
      rfl
  · exact screenComponent_off sc s pixel off
  · exact screenComponent_none sc s pixel on active
  · exact screenComponent_shown sc s pixel on v active

end Sys2Proof.Machine

/-!
PROOFS. Fade requests, drops and switches at a Dim Stage, and the table writes that concern it (R138, R141 to R145).
-/

namespace Sys2Proof.Machine

/-! ## A request by the phase and the fade field (R141) -/

section
variable (sc : Screen) (n : Nat) (s : State)

/-- A Dim Stage has a request in hand, and is otherwise as it was. -/
def fadeHeld : State := { s with dms := s.dms.set sc { s.dms.get sc with inHand := some n, number := n } }

theorem fadeHeld_get : (fadeHeld sc n s).dms.get sc = { s.dms.get sc with inHand := some n, number := n } := Tab.get_set_self ..

theorem reportFadeWait_eq (inHand : (s.dms.get sc).inHand = some n) :
    reportFadeWait sc s = { s with handoffs := s.handoffs ++ [{ src := .dms sc, cmd := .fadeWaitReport sc n }] } := by
  rw [reportFadeWait, inHand]
  rfl

theorem takeFade_eq : takeFade sc n s =
    match (s.dms.get sc).phase, (s.screenEntry sc).fade with
    | .normal, true | .fadeIn, true =>
      if (s.dms.get sc).level = 0 then enterFadeWait sc (fadeHeld sc n s) else enterPhase sc .fadeOut (fadeHeld sc n s)
    | .fadeWait, true => reportFadeWait sc (fadeHeld sc n s)
    | .fadeOut, false | .fadeWait, false => enterPhase sc .normal (fadeHeld sc n s)
    | .fadeOut, true | .normal, false | .fadeIn, false => fadeHeld sc n s := by
  have held : s.modDms sc (fun d => { d with inHand := some n, number := n }) = fadeHeld sc n s := rfl
  have entry : (fadeHeld sc n s).screenEntry sc = s.screenEntry sc := rfl
  simp only [takeFade, held, fadeHeld_get, entry]
  cases (s.dms.get sc).phase <;> cases (s.screenEntry sc).fade <;> rfl

/-- A lit screen outside FadeOut and FadeWait begins its fade (R141). -/
theorem takeFade_lit (phase : (s.dms.get sc).phase = .normal ∨ (s.dms.get sc).phase = .fadeIn) (fade : (s.screenEntry sc).fade = true)
    (lit : (s.dms.get sc).level ≠ 0) : takeFade sc n s = { s with
      dms := s.dms.set sc { s.dms.get sc with inHand := some n, number := n, phase := .fadeOut, target := 0 } } := by
  have enters : takeFade sc n s = enterPhase sc .fadeOut (fadeHeld sc n s) := by
    rcases phase with phase | phase
    · rw [takeFade_eq, phase, fade]
      exact if_neg lit
    · rw [takeFade_eq, phase, fade]
      exact if_neg lit
  rw [enters, enterPhase_eq, fadeHeld_get, fadeHeld, Tab.set_set]
  rfl

/-- A dark screen outside FadeOut and FadeWait waits at once (R141, R142). -/
theorem takeFade_dark (phase : (s.dms.get sc).phase = .normal ∨ (s.dms.get sc).phase = .fadeIn) (fade : (s.screenEntry sc).fade = true)
    (dark : (s.dms.get sc).level = 0) : takeFade sc n s = { s with
      handoffs := s.handoffs ++ [{ src := .dms sc, cmd := .fadeWaitReport sc n }]
      dms := s.dms.set sc { s.dms.get sc with inHand := some n, number := n, phase := .fadeWait, target := 0 } } := by
  have waits : takeFade sc n s = enterFadeWait sc (fadeHeld sc n s) := by
    rcases phase with phase | phase
    · rw [takeFade_eq, phase, fade]
      exact if_pos dark
    · rw [takeFade_eq, phase, fade]
      exact if_pos dark
  rw [waits, enterFadeWait_eq sc _ n (by rw [fadeHeld_get]), fadeHeld_get, fadeHeld, Tab.set_set]

theorem takeFade_fadeOut (phase : (s.dms.get sc).phase = .fadeOut) (fade : (s.screenEntry sc).fade = true) :
    takeFade sc n s = fadeHeld sc n s := by
  rw [takeFade_eq, phase, fade]

/-- A request that finds the screen waiting is reported at once (R141). -/
theorem takeFade_fadeWait (phase : (s.dms.get sc).phase = .fadeWait) (fade : (s.screenEntry sc).fade = true) :
    takeFade sc n s = { s with
      handoffs := s.handoffs ++ [{ src := .dms sc, cmd := .fadeWaitReport sc n }]
      dms := s.dms.set sc { s.dms.get sc with inHand := some n, number := n } } := by
  rw [takeFade_eq, phase, fade]
  exact reportFadeWait_eq sc n _ (by rw [fadeHeld_get])

theorem takeFade_plain (phase : (s.dms.get sc).phase = .normal ∨ (s.dms.get sc).phase = .fadeIn)
    (plain : (s.screenEntry sc).fade = false) : takeFade sc n s = fadeHeld sc n s := by
  rcases phase with phase | phase
  · rw [takeFade_eq, phase, plain]
  · rw [takeFade_eq, phase, plain]

/-- A fade in progress on a screen with fade off ends in Normal (R141). -/
theorem takeFade_ends (phase : (s.dms.get sc).phase = .fadeOut ∨ (s.dms.get sc).phase = .fadeWait)
    (plain : (s.screenEntry sc).fade = false) : (takeFade sc n s).dms.get sc = { s.dms.get sc with
      inHand := some n, number := n, phase := .normal, target := ordinaryTarget s (s.dms.get sc).source } := by
  have ends : takeFade sc n s = enterPhase sc .normal (fadeHeld sc n s) := by
    rcases phase with phase | phase
    · rw [takeFade_eq, phase, plain]
    · rw [takeFade_eq, phase, plain]
  rw [ends, enterPhase_eq, Tab.get_set_self, fadeHeld_get]
  rfl

/-! ## A drop and a switch (R143, R144) -/

/-- A phase entered with no request in hand. -/
theorem enterPhase_released (ph : FadePhase) : enterPhase sc ph (s.modDms sc (fun d => { d with inHand := none })) = { s with
    dms := s.dms.set sc { s.dms.get sc with
      inHand := none, phase := ph, target := dimTarget s { s.dms.get sc with phase := ph } } } := by
  simp only [enterPhase_eq, modDms_eq, Tab.get_set_self, Tab.set_set]
  rfl

theorem takeDrop_fading (phase : (s.dms.get sc).phase = .fadeOut ∨ (s.dms.get sc).phase = .fadeWait) :
    takeDrop sc s = enterPhase sc .fadeIn (s.modDms sc (fun d => { d with inHand := none })) := by
  rcases phase with phase | phase
  · rw [takeDrop, phase]
  · rw [takeDrop, phase]

theorem takeDrop_idle (phase : (s.dms.get sc).phase = .normal ∨ (s.dms.get sc).phase = .fadeIn) : takeDrop sc s = s := by
  rcases phase with phase | phase
  · rw [takeDrop, phase]
  · rw [takeDrop, phase]

theorem tickUpdate_eq (locked : Bool) : tickUpdate sc locked s = { s with
    dms := s.dms.set sc { s.dms.get sc with
      tick := if locked = true then none
        else if (s.dms.get sc).tick = none then some (s.timebase + 16667) else (s.dms.get sc).tick } } := by
  rw [tickUpdate, modDms_eq]
  cases (s.dms.get sc).tick with
  | none => rfl
  | some x => rfl

theorem dimSwitch_eq (source : Option Source) : dimSwitch sc source s = { s with
    dms := s.dms.set sc { s.dms.get sc with
      source := source, inHand := none, phase := if (s.screenEntry sc).fade = true then .fadeIn else .normal
      target := ordinaryTarget s source
      tick := if s.showsLocked source = true then none
        else if (s.dms.get sc).tick = none then some (s.timebase + 16667) else (s.dms.get sc).tick } } := by
  have switched : dimSwitch sc source s = tickUpdate sc (s.showsLocked source)
      (enterPhase sc (if (s.screenEntry sc).fade = true then .fadeIn else .normal)
        (s.modDms sc (fun d => { d with source := source, inHand := none }))) := rfl
  rw [switched, tickUpdate_eq, enterPhase_eq, modDms_eq]
  simp only [Tab.get_set_self, Tab.set_set]
  cases (s.screenEntry sc).fade with
  | true => rfl
  | false => rfl

end

/-! ## A screen entry written (R145) -/

section
variable (sc : Screen) (e : ScreenEntry) (s : State)

/-- Fade written off ends a fade of any phase in Normal (R145). -/
theorem fadeWrittenOff_fading (phase : (s.dms.get sc).phase ≠ .normal) : fadeWrittenOff sc s = { s with
    dms := s.dms.set sc { s.dms.get sc with
      phase := .normal, inHand := none, target := ordinaryTarget s (s.dms.get sc).source } } := by
  have ends : fadeWrittenOff sc s = enterPhase sc .normal (s.modDms sc (fun d => { d with inHand := none })) := by
    unfold fadeWrittenOff
    split
    · next normal => exact absurd normal phase
    all_goals rfl
  rw [ends, enterPhase_released]
  rfl

theorem fadeWrittenOff_normal (phase : (s.dms.get sc).phase = .normal) : fadeWrittenOff sc s = s := by
  rw [fadeWrittenOff, phase]

/-- A screen entry stored, with its placement acted on (R59). -/
def screenPlaced : State :=
  if samePlacement e (s.screenEntry sc) then s.modTables (fun t => { t with screens := t.screens.set sc e })
  else placementWritten sc (s.modTables (fun t => { t with screens := t.screens.set sc e }))

theorem screenPlaced_dms : (screenPlaced sc e s).dms = s.dms := by
  have keeps : Keeps [.handoffs, .tables, .glu, .fcu, .cpe] s (screenPlaced sc e s) := by
    unfold screenPlaced
    split <;> simp
  exact keeps .dms (by decide)

/-- After the placement, a stored screen entry reaches the Dim Stage and then the Crosspoint Controller, which leaves it as it is. -/
theorem keeps_storeScreen_faded : Keeps [.handoffs, .xpc, .sou]
    (if (s.screenEntry sc).fade && !e.fade then fadeWrittenOff sc (screenPlaced sc e s) else screenPlaced sc e s) (storeScreen sc e s) :=
  (keeps_switchFieldsWritten (by decide) sc (s.screenEntry sc) _ _).mpr (Keeps.refl _ _)

theorem storeScreen_dms_off (on : (s.screenEntry sc).fade = true) (off : e.fade = false) (phase : (s.dms.get sc).phase ≠ .normal) :
    (storeScreen sc e s).dms = s.dms.set sc { s.dms.get sc with
      phase := .normal, inHand := none, target := ordinaryTarget (storeScreen sc e s) (s.dms.get sc).source } := by
  have keeps := keeps_storeScreen_faded sc e s
  have placed := screenPlaced_dms sc e s
  rw [on, off, Bool.not_false, Bool.and_true, if_pos rfl,
    fadeWrittenOff_fading sc (screenPlaced sc e s) (by rw [placed]; exact phase), placed] at keeps
  have target := ordinaryTarget_congr (screenPlaced sc e s) (s.dms.get sc).source (keeps .fcu (by decide)) (keeps .tables (by decide))
  rw [target]
  exact keeps .dms (by decide)

theorem storeScreen_dms_kept (h : (s.screenEntry sc).fade = false ∨ e.fade = true ∨ (s.dms.get sc).phase = .normal) :
    (storeScreen sc e s).dms = s.dms := by
  have same : (if (s.screenEntry sc).fade && !e.fade then fadeWrittenOff sc (screenPlaced sc e s) else screenPlaced sc e s) =
      screenPlaced sc e s := by
    rcases h with was | is | normal
    · rw [was]; rfl
    · rw [is, Bool.not_true, Bool.and_false]; rfl
    · rw [fadeWrittenOff_normal sc _ (by rw [screenPlaced_dms]; exact normal), ite_self]
  have keeps := keeps_storeScreen_faded sc e s
  rw [same] at keeps
  exact (keeps .dms (by decide)).trans (screenPlaced_dms sc e s)

/-- A screen entry written by a served request is stored, and answered OK. -/
theorem exec_writeScreenEntry_stored (q : Request) (w : RawScreen) (served : Served s q) (index : q.arg2 = sc.val + 1)
    (ok : checkScreen w = some e) (fits : screenConflict s.tables sc e = false) :
    exec (.writeScreenEntry q w) s = .next (sendReply 2 q (plainReply .ok) (storeScreen sc e s)) := by
  obtain ⟨managed, idle, free, -, -⟩ := served
  exact write_stored (.writeScreenEntry q w) q (unclamped (checkScreen w)) (fun _ _ => false) (screenConflict s.tables) storeScreen _ s
    rfl rfl managed idle free sc index e false (unclamped_of_some ok) rfl fits

end

/-! ## A desk record written (R138) -/

section
variable (e : DeskRecord) (s : State)

theorem foldl_retarget_get (sc : Screen) (l : List Screen) : ((l.foldl (fun s sc => retarget sc s) s).dms.get sc) =
    if sc ∈ l then { s.dms.get sc with target := dimTarget s (s.dms.get sc) } else s.dms.get sc := by
  induction l generalizing s with
  | nil => rfl
  | cons a l ih =>
    rw [List.foldl_cons, ih, retarget, modDms_eq]
    by_cases first : sc = a
    · subst first
      simp only [Tab.get_set_self, List.mem_cons_self, if_true]
      split <;> rfl
    · simp only [Tab.get_set_other _ first, List.mem_cons, first, false_or]
      rfl

theorem retargetAll_get (sc : Screen) :
    (retargetAll s).dms.get sc = { s.dms.get sc with target := dimTarget s (s.dms.get sc) } :=
  (foldl_retarget_get s sc allScreens).trans (if_pos (List.mem_finRange sc))

/-- A desk record stored, with the targets of keys, the matcher and route hold acted on (R34, R75, R125). -/
def deskRecorded : State :=
  let s' := refreshDims (leaveJoin s (s.modTables (fun t => { t with desk := e })))
  let m := if e.prefixKey ≠ s.tables.desk.prefixKey ∨ e.tapCount ≠ s.tables.desk.tapCount ∨ e.tapWindow ≠ s.tables.desk.tapWindow then
      matcherTablesChanged s'
    else s'
  if e.routeHoldLimit ≠ s.tables.desk.routeHoldLimit then holdLimitWritten m else m

theorem deskRecorded_dms : (deskRecorded e s).dms = s.dms := by
  have keeps : Keeps [.handoffs, .tables, .hkm, .xpc, .sou] s (deskRecorded e s) := by
    unfold deskRecorded
    dsimp only
    (repeat' split) <;> simp
  exact keeps .dms (by decide)

/-- A desk record without pacing stops the pacing timer and does nothing else (R180). -/
theorem keeps_unpaced :
    Keeps [.mfe] s (if e.noticePacing = 0 then s.modMfe (fun m => { m with pacing := none }) else s) := by
  split <;> simp

/-- After that, a stored desk record reaches the Dim Stages and then the pacing timer alone. -/
theorem keeps_storeDesk_dimmed : Keeps [.mfe]
    (if e.dimFloor ≠ s.tables.desk.dimFloor ∨ e.unfocusedLevel ≠ s.tables.desk.unfocusedLevel then retargetAll (deskRecorded e s)
      else deskRecorded e s) (storeDesk e s) :=
  keeps_unpaced e _

theorem storeDesk_dms_kept (same : e.dimFloor = s.tables.desk.dimFloor ∧ e.unfocusedLevel = s.tables.desk.unfocusedLevel) :
    (storeDesk e s).dms = s.dms := by
  have keeps := keeps_storeDesk_dimmed e s
  rw [if_neg (by simp [same])] at keeps
  exact (keeps .dms (by decide)).trans (deskRecorded_dms e s)

theorem storeDesk_dms_get (changed : e.dimFloor ≠ s.tables.desk.dimFloor ∨ e.unfocusedLevel ≠ s.tables.desk.unfocusedLevel)
    (sc : Screen) : (storeDesk e s).dms.get sc = { s.dms.get sc with
      target := if (s.dms.get sc).phase = .fadeOut ∨ (s.dms.get sc).phase = .fadeWait then 0
        else ordinaryTarget (storeDesk e s) (s.dms.get sc).source } := by
  have keeps := keeps_storeDesk_dimmed e s
  rw [if_pos changed] at keeps
  have retargets : Keeps [.dms] (deskRecorded e s) (retargetAll (deskRecorded e s)) := by simp
  have target := ordinaryTarget_congr (deskRecorded e s) (s.dms.get sc).source
    ((keeps .fcu (by decide)).trans (retargets .fcu (by decide))) ((keeps .tables (by decide)).trans (retargets .tables (by decide)))
  have dms : (storeDesk e s).dms = (retargetAll (deskRecorded e s)).dms := keeps .dms (by decide)
  rw [dms, retargetAll_get, deskRecorded_dms, dimTarget_eq, target]

end

/-- Settles O41: a request, a drop and a switch at a Dim Stage, and the two table writes by what they leave of the Dim Stages. -/
theorem fadePhasesMove : Obligations.FadePhasesMove := by
  refine ⟨fun sc n s => ?_, fun q w sc s served index e ok fits => ?_, fun q w s served index e ok fits => ?_⟩
  · intro d fade c report
    refine ⟨fun phase on lit => ?_, fun phase on dark => ?_, fun phase on => ?_, fun phase on => ?_, fun phase off => ?_,
      fun phase off => ⟨_, rfl, ?_⟩, fun phase => ?_, fun phase => ?_, fun source => ?_⟩
    · exact congrArg Host.Outcome.next (takeFade_lit sc n (s.taking c) phase on lit)
    · exact congrArg Host.Outcome.next (takeFade_dark sc n (s.taking c) phase on dark)
    · exact congrArg Host.Outcome.next (takeFade_fadeOut sc n (s.taking c) phase on)
    · exact congrArg Host.Outcome.next (takeFade_fadeWait sc n (s.taking c) phase on)
    · exact congrArg Host.Outcome.next (takeFade_plain sc n (s.taking c) phase off)
    · rw [takeFade_ends sc n (s.taking c) phase off]
      exact ⟨rfl, rfl, rfl⟩
    · exact congrArg Host.Outcome.next ((takeDrop_fading sc (s.taking _) phase).trans (enterPhase_released sc (s.taking _) .fadeIn))
    · exact congrArg Host.Outcome.next (takeDrop_idle sc (s.taking _) phase)
    · exact congrArg Host.Outcome.next (dimSwitch_eq sc (s.taking _) source)
  · have keeps : Keeps [.sent] (storeScreen sc e s) (sendReply 2 q (plainReply .ok) (storeScreen sc e s)) := by simp
    have dms : (sendReply 2 q (plainReply .ok) (storeScreen sc e s)).dms = (storeScreen sc e s).dms := keeps .dms (by decide)
    refine ⟨_, exec_writeScreenEntry_stored sc e s q w served index ok fits, fun on off phase => ?_, fun kept => ?_⟩
    · rw [dms, ordinaryTarget_congr (storeScreen sc e s) _ (keeps .fcu (by decide)) (keeps .tables (by decide))]
      exact storeScreen_dms_off sc e s on off phase
    · exact dms.trans (storeScreen_dms_kept sc e s kept)
  · generalize hr : ({ status := .ok, clamped := e.2, saveFailed := false, payload := [] } : Reply) = r
    have keeps : Keeps [.sent] (storeDesk e.1 s) (sendReply 2 q r (storeDesk e.1 s)) := by simp
    have dms : (sendReply 2 q r (storeDesk e.1 s)).dms = (storeDesk e.1 s).dms := keeps .dms (by decide)
    refine ⟨_, hr ▸ exec_writeDeskRecord_stored q w s served index e ok fits, fun same => ?_, fun changed sc => ?_⟩
    · exact dms.trans (storeDesk_dms_kept e.1 s same)
    · rw [dms, ordinaryTarget_congr (storeDesk e.1 s) _ (keeps .fcu (by decide)) (keeps .tables (by decide))]
      exact storeDesk_dms_get e.1 s changed sc

end Sys2Proof.Machine

/-!
PROOFS. The dim target by its cases, target refreshes, screen wakes and state changes at a Dim Stage (R112, R137, R138, R147).
-/

namespace Sys2Proof.Machine

/-! ## The target outside a fade, case by case (R137) -/

section
variable (s : State) (source : Option Source)

theorem isTarget_iff (c : Computer) : s.isTarget c = true ↔
    s.fcu.focus = some c ∨ (s.fcu.broadcast = true ∧ s.tables.desk.broadcastMask.get c = true) := by
  rw [State.isTarget, Bool.or_eq_true, decide_eq_true_eq, Bool.and_eq_true]

theorem ordinaryTarget_override (on : s.fcu.dimOverride = true) : ordinaryTarget s source = 255 := if_pos on

theorem ordinaryTarget_unowned (off : s.fcu.dimOverride ≠ true) (unowned : s.ownerOf source = none) :
    ordinaryTarget s source = s.tables.desk.dimFloor := by
  rw [ordinaryTarget, if_neg off, unowned]

/-- The screen of a keyboard target is lit, and that of another computer is at the unfocused level, or at a floor above it. -/
theorem ordinaryTarget_owned (off : s.fcu.dimOverride ≠ true) (c : Computer) (owned : s.ownerOf source = some c) :
    ordinaryTarget s source = if s.fcu.focus = some c ∨ (s.fcu.broadcast = true ∧ s.tables.desk.broadcastMask.get c = true) then 255
      else max s.tables.desk.unfocusedLevel s.tables.desk.dimFloor := by
  rw [ordinaryTarget, if_neg off, owned]
  simp only [isTarget_iff]

/-- Every case is at the floor or above it, or full. -/
theorem min_dimFloor_le_ordinaryTarget : min s.tables.desk.dimFloor 255 ≤ ordinaryTarget s source := by
  by_cases on : s.fcu.dimOverride = true
  · rw [ordinaryTarget_override s source on]
    exact min_le_right _ _
  · cases owner : s.ownerOf source with
    | none =>
      rw [ordinaryTarget_unowned s source on owner]
      exact min_le_left _ _
    | some c =>
      rw [ordinaryTarget_owned s source on c owner]
      split
      · exact min_le_right _ _
      · exact (min_le_left _ _).trans (le_max_right _ _)

end

/-! ## Refreshes, wakes and state changes -/

section
variable (sc : Screen) (s : State)

theorem retarget_eq : retarget sc s =
    { s with dms := s.dms.set sc { s.dms.get sc with target := dimTarget s (s.dms.get sc) } } := rfl

/-- A screen wake outside FadeOut makes the screen dark, from where it moves to its target (R147). -/
theorem dimWake_dark (phase : (s.dms.get sc).phase ≠ .fadeOut) : dimWake sc s =
    { s with dms := s.dms.set sc { s.dms.get sc with
      level := 0, target := if (s.dms.get sc).phase = .fadeWait then 0 else ordinaryTarget s (s.dms.get sc).source } } := by
  have dark : dimWake sc s = retarget sc (s.modDms sc (fun d => { d with level := 0 })) := by
    cases other : (s.dms.get sc).phase with
    | fadeOut => exact absurd other phase
    | normal | fadeWait | fadeIn => simp only [dimWake, modDms_eq, Tab.get_set_self, other]
  rw [dark, retarget_eq, modDms_eq, Tab.get_set_self, Tab.set_set, dimTarget_eq]
  simp only [phase, false_or]
  rfl

/-- A screen wake in FadeOut ends the fade at once, since the level is 0 (R142, R147). -/
theorem dimWake_fadesOut (n : Nat) (phase : (s.dms.get sc).phase = .fadeOut) (inHand : (s.dms.get sc).inHand = some n) :
    dimWake sc s = { s with
      handoffs := s.handoffs ++ [{ src := .dms sc, cmd := .fadeWaitReport sc n }]
      dms := s.dms.set sc { s.dms.get sc with level := 0, target := 0, phase := .fadeWait } } := by
  have waits : dimWake sc s = enterFadeWait sc (s.modDms sc (fun d => { d with level := 0 })) := by
    simp only [dimWake, modDms_eq, Tab.get_set_self, phase]
  rw [waits, modDms_eq, enterFadeWait_eq sc _ n (by rw [Tab.get_set_self]; exact inHand)]
  simp only [Tab.get_set_self, Tab.set_set]

theorem dimSourceChange_other (v : Source) (st : SourceState) (other : (s.dms.get sc).source ≠ some v) :
    dimSourceChange sc v st s = s := if_neg other

theorem dimSourceChange_shown (v : Source) (st : SourceState) (shown : (s.dms.get sc).source = some v) :
    dimSourceChange sc v st s = { s with dms := s.dms.set sc { s.dms.get sc with
      tick := if st = .locked then none
        else if (s.dms.get sc).tick = none then some (s.timebase + 16667) else (s.dms.get sc).tick } } := by
  rw [dimSourceChange, if_pos shown, tickUpdate_eq]
  simp only [decide_eq_true_eq]

end

/-- Settles O42: the target outside a fade is `ordinaryTarget`, and each command is one change of the Dim Stage's record. -/
theorem dimStageRefreshed : Obligations.DimStageRefreshed := by
  intro sc s d desk outside
  have target : outside = ordinaryTarget s d.source := by
    by_cases on : s.fcu.dimOverride = true
    · exact (if_pos on).trans (ordinaryTarget_override s d.source on).symm
    · refine (if_neg on).trans ?_
      cases owner : s.ownerOf d.source with
      | none => exact (ordinaryTarget_unowned s d.source on owner).symm
      | some c => exact (ordinaryTarget_owned s d.source on c owner).symm
  rw [target]
  refine ⟨?_, fun bounded => ?_, fun phase => ?_, fun n phase inHand => ?_, fun v st => ⟨fun other => ?_, fun shown => ?_⟩⟩
  · rw [← dimTarget_eq]
    exact congrArg Host.Outcome.next (retarget_eq sc (s.taking _))
  · exact min_eq_left bounded ▸ min_dimFloor_le_ordinaryTarget s d.source
  · exact congrArg Host.Outcome.next (dimWake_dark sc (s.taking _) phase)
  · exact congrArg Host.Outcome.next (dimWake_fadesOut sc (s.taking _) n phase inHand)
  · exact congrArg Host.Outcome.next (dimSourceChange_other sc (s.taking _) v st other)
  · exact congrArg Host.Outcome.next (dimSourceChange_shown sc (s.taking _) v st shown)

end Sys2Proof.Machine

/-!
PROOFS. Every monitor holds what its source state asks for, after every step (section 6.2, R105 to R110).
-/

namespace Sys2Proof.Machine

/-! ## What each source state asks for -/

section
variable {f : Fmn}

theorem monitorFits_noSignal (state : f.state = .noSignal) : MonitorFits f ↔ f.currentLine ≤ lineLimit ∧ f = Fmn.reset := by
  simp only [MonitorFits, state]

theorem monitorFits_acquiring (state : f.state = .acquiring) : MonitorFits f ↔ f.currentLine ≤ lineLimit
    ∧ f.lastStart ≠ none ∧ f.loss ≠ none ∧ f.agreement < periodsToLock ∧ f.lockedPeriod = none := by
  simp only [MonitorFits, state]

theorem monitorFits_locked (state : f.state = .locked) : MonitorFits f ↔ f.currentLine ≤ lineLimit
    ∧ f.lastStart ≠ none ∧ f.loss ≠ none ∧ f.agreement = periodsToLock
    ∧ (∃ l, f.lockedPeriod = some l ∧ periodWindowLow ≤ l ∧ l ≤ periodWindowHigh)
    ∧ ∃ n, f.linesPerFrame = some n ∧ 1 ≤ n ∧ n ≤ lineLimit := by
  simp only [MonitorFits, state]

theorem monitorFits_unstable (state : f.state = .unstable) : MonitorFits f ↔ f.currentLine ≤ lineLimit
    ∧ f.lastStart ≠ none ∧ f.loss ≠ none ∧ f.agreement < periodsToLock ∧ f.lockedPeriod ≠ none := by
  simp only [MonitorFits, state]

theorem monitorFits_reset : MonitorFits Fmn.reset := (monitorFits_noSignal rfl).mpr ⟨Nat.zero_le _, rfl⟩

/-- A monitor with a signal may be on any line up to the limit. -/
theorem MonitorFits.onLine (fits : MonitorFits f) (signal : f.state ≠ .noSignal) (n : Nat) (below : n ≤ lineLimit) :
    MonitorFits { f with currentLine := n } := by
  cases state : f.state with
  | noSignal => exact absurd state signal
  | acquiring => exact (monitorFits_acquiring rfl).mpr ⟨below, ((monitorFits_acquiring state).mp fits).2⟩
  | locked => exact (monitorFits_locked rfl).mpr ⟨below, ((monitorFits_locked state).mp fits).2⟩
  | unstable => exact (monitorFits_unstable rfl).mpr ⟨below, ((monitorFits_unstable state).mp fits).2⟩

end

/-! ## A frame start (R105, R107 to R109) -/

/-- A period that counts toward agreement lies in the window. -/
theorem window_of_weighPeriod_pos (before : Option Nat) (count period : Nat) (counts : 1 ≤ weighPeriod before count period) :
    8000 ≤ period ∧ period ≤ 50000 := by
  by_contra outside
  have nothing : weighPeriod before count period = 0 := if_pos ((inWindow_eq_false period).mpr (by omega))
  omega

section
variable {f : Fmn} (line : f.currentLine ≤ lineLimit) (started : f.lastStart ≠ none) (timed : f.loss ≠ none)
include line started timed

/-- A period weighed in Acquiring or Unstable locks the source with a period in the window, or leaves it in its state. -/
theorem monitorFits_gather (before : Option Nat) (period lines : Nat) (counted : 1 ≤ lines ∧ lines ≤ lineLimit)
    (gathers : (f.state = .acquiring ∧ f.lockedPeriod = none) ∨ (f.state = .unstable ∧ f.lockedPeriod ≠ none)) :
    MonitorFits (gather f before period lines) := by
  rcases Nat.lt_or_ge (weighPeriod before f.agreement period) 3 with short | third
  · rw [gather_short f period lines before short]
    rcases gathers with ⟨state, fresh⟩ | ⟨state, known⟩
    · exact (monitorFits_acquiring (by exact state)).mpr ⟨line, started, timed, short, fresh⟩
    · exact (monitorFits_unstable (by exact state)).mpr ⟨line, started, timed, short, known⟩
  · rw [gather_locks f period lines before third]
    have window := window_of_weighPeriod_pos before f.agreement period (by omega)
    exact (monitorFits_locked rfl).mpr ⟨line, started, timed, rfl, ⟨period, rfl, window⟩, lines, rfl, counted⟩

/-- A period compared in Locked keeps the lock, or makes the source Unstable with its locked period kept. -/
theorem monitorFits_holdLock (period l n : Nat) (state : f.state = .locked) (agreement : f.agreement = periodsToLock)
    (locked : f.lockedPeriod = some l) (window : periodWindowLow ≤ l ∧ l ≤ periodWindowHigh)
    (lines : f.linesPerFrame = some n) (counted : 1 ≤ n ∧ n ≤ lineLimit) : MonitorFits (holdLock f period) := by
  by_cases near : period ≤ l + 64 ∧ l ≤ period + 64
  · rw [holdLock_agrees f period l locked near]
    exact (monitorFits_locked state).mpr ⟨line, started, timed, agreement, ⟨l, locked, window⟩, n, lines, counted⟩
  · rw [holdLock_differs f period l locked near]
    refine (monitorFits_unstable rfl).mpr ⟨line, started, timed, ?_, by simp [locked]⟩
    dsimp only
    split <;> decide

end

/-- A frame start leaves the monitor fit for the state in which it finds or leaves its source. -/
theorem monitorFits_frame {f : Fmn} (fits : MonitorFits f) (now : Nat) : MonitorFits (f.frame now) := by
  have lines : 1 ≤ min (f.currentLine + 1) 4095 ∧ min (f.currentLine + 1) 4095 ≤ lineLimit := by
    rw [lineLimit]
    omega
  have none_ne {x : Nat} : some x ≠ none := Option.some_ne_none x
  cases state : f.state with
  | noSignal =>
    obtain ⟨-, reset⟩ := (monitorFits_noSignal state).mp fits
    rw [frame_noSignal f now state (by rw [reset]; rfl)]
    exact (monitorFits_acquiring rfl).mpr ⟨Nat.zero_le _, none_ne, none_ne, Nat.succ_pos _, by rw [reset]; rfl⟩
  | acquiring =>
    obtain ⟨-, started, -, -, fresh⟩ := (monitorFits_acquiring state).mp fits
    obtain ⟨l, last⟩ := Option.ne_none_iff_exists'.mp started
    rw [frame_gathers f now l (.inl state) last]
    exact monitorFits_gather (Nat.zero_le _) none_ne none_ne _ _ _ lines (.inl ⟨state, fresh⟩)
  | unstable =>
    obtain ⟨-, started, -, -, known⟩ := (monitorFits_unstable state).mp fits
    obtain ⟨l, last⟩ := Option.ne_none_iff_exists'.mp started
    rw [frame_gathers f now l (.inr state) last]
    exact monitorFits_gather (Nat.zero_le _) none_ne none_ne _ _ _ lines (.inr ⟨state, known⟩)
  | locked =>
    obtain ⟨-, started, -, agreement, ⟨period, locked, window⟩, n, perFrame, counted⟩ := (monitorFits_locked state).mp fits
    obtain ⟨l, last⟩ := Option.ne_none_iff_exists'.mp started
    rw [frame_holds f now l state last]
    exact monitorFits_holdLock (Nat.zero_le _) none_ne none_ne _ period n state agreement locked window perFrame counted

/-! ## Every command -/

section
variable {s t : State} (sound : MonitorsSound s) (v : Source)
include sound

theorem MonitorsSound.set {f : Fmn} (fmn : t.fmn = s.fmn.set v f) (fits : MonitorFits f) : MonitorsSound t := by
  intro w
  rw [fmn, Tab.get_set]
  split
  · exact fits
  · exact sound w

theorem MonitorsSound.keeps {m : List StateField} (k : Keeps m s t) (out : .fmn ∉ m := by decide) : MonitorsSound t := by
  rw [MonitorsSound, show t.fmn = s.fmn from k .fmn out]
  exact sound

theorem monitorsSound_signalLost : MonitorsSound (signalLost v s) :=
  sound.set v (by rw [signalLost_eq]) monitorFits_reset

theorem monitorsSound_takeFrameStart (now : Nat) : MonitorsSound (takeFrameStart v now s) := by
  have timely (x : State) (h : MonitorsSound x) :
      MonitorsSound (frameResults v (x.fmn.get v).state (x.modFmn v (fun f => f.frame x.timebase))) :=
    h.set v (by rw [frameResults_eq, modFmn_eq]) (monitorFits_frame (h v) x.timebase)
  unfold takeFrameStart
  dsimp only
  split
  · exact timely _ (monitorsSound_signalLost (s := s.reach now) sound v)
  · exact timely (s.reach now) sound

theorem monitorsSound_takeLineStart : MonitorsSound (takeLineStart v s) := by
  unfold takeLineStart
  dsimp only
  split
  · exact sound
  · next counts =>
    obtain ⟨signal, below⟩ := not_or.mp counts
    have counted : MonitorsSound (s.modFmn v (fun f => { f with currentLine := f.currentLine + 1 })) :=
      sound.set v rfl ((sound v).onLine signal _ (Nat.not_le.mp below))
    split
    · exact counted
    · exact counted

end

theorem exec_monitorsSound (c : Instr) (s t : State) (sound : MonitorsSound s) (next : exec c s = .next t) : MonitorsSound t := by
  cases c
  case reset => cases next; exact reset_monitorsSound
  case frameStart v now => cases next; exact monitorsSound_takeFrameStart sound v now
  case lineStart v => cases next; exact monitorsSound_takeLineStart sound v
  case lossTimerExpiry v =>
    cases next
    unfold State.onExpiry
    split
    · exact sound
    · next e _ => exact monitorsSound_signalLost (s := s.reach e) sound v
  all_goals exact sound.keeps (exec_keeps _ s t next) (by simp [touches])

theorem step_monitorsSound (s t : State) (sound : MonitorsSound s) (next : step s = .next t) : MonitorsSound t :=
  step_invariant MonitorsSound exec_monitorsSound
    (fun s h => h.keeps (show Keeps [.handoffs, .sent, .cip, .hkm] s (consoleGoesOn s) by simp)) (fun _ _ h => h) (fun _ _ h => h)
    (fun _ _ h => h) s t sound next

end Sys2Proof.Machine

/-!
PROOFS. The wake signal and the wake timer run only in phase Signalling, and a no-signal timer only on a screen that is On, after
every step (R163, R167).
-/

namespace Sys2Proof.Machine

/-! ## One record -/

/-- A wake record outside Signalling runs neither the wake signal nor the wake timer (R163). -/
def WakeRecord.Sound (w : WakeRecord) : Prop := w.phase ≠ .signalling → w.signal = none ∧ w.timer = none

/-- A power record with a no-signal timer is that of a screen that is On (R167). -/
def PowerRecord.Sound (r : PowerRecord) : Prop := r.noSignal ≠ none → r.on = true

theorem wakesSound_iff (s : State) : WakesSound s ↔ ∀ p : Port, (s.wkc.wakes.get p).Sound := Iff.rfl

theorem powerSound_iff (s : State) : PowerSound s ↔ ∀ sc : Screen, (s.wkc.power.get sc).Sound := Iff.rfl

theorem wakeRecord_sound_stopped {w : WakeRecord} (signal : w.signal = none) (timer : w.timer = none) : w.Sound :=
  fun _ => ⟨signal, timer⟩

theorem wakeRecord_sound_signalling {w : WakeRecord} (phase : w.phase = .signalling) : w.Sound := fun other => absurd phase other

/-! ## What keeps both invariants of the Wake Controller -/

/-- From one state to another the wake records stay sound, and so do the power records. -/
structure WakeMoves (s t : State) : Prop where
  wakes : WakesSound s → WakesSound t
  power : PowerSound s → PowerSound t

section
variable {s t u : State}

theorem WakeMoves.refl (s : State) : WakeMoves s s := ⟨id, id⟩

theorem WakeMoves.trans (h : WakeMoves s t) (k : WakeMoves t u) : WakeMoves s u := ⟨k.wakes ∘ h.wakes, k.power ∘ h.power⟩

theorem WakeMoves.of_same (wakes : t.wkc.wakes = s.wkc.wakes) (power : t.wkc.power = s.wkc.power) : WakeMoves s t where
  wakes sound := by rw [wakesSound_iff, wakes]; exact sound
  power sound := by rw [powerSound_iff, power]; exact sound

theorem wakeMoves_hand (s : State) (b : Block) (c : Instr) : WakeMoves s (s.hand b c) := .of_same rfl rfl

theorem wakeMoves_raise (s : State) (b : Block) (k : NoticeKind) : WakeMoves s (s.raise b k) := .of_same rfl rfl

theorem wakeMoves_taking (s : State) (c : Instr) : WakeMoves s (s.taking c) := .of_same rfl rfl

theorem wakeMoves_reach (s : State) (n : Nat) : WakeMoves s (s.reach n) := .of_same rfl rfl

/-- What leaves the Wake Controller alone. -/
theorem WakeMoves.of_keeps {m : List StateField} (k : Keeps m s t) (out : .wkc ∉ m := by decide) : WakeMoves s t :=
  have same : t.wkc = s.wkc := k .wkc out
  .of_same (by rw [same]) (by rw [same])

theorem wakeMoves_modWake (p : Port) (f : WakeRecord → WakeRecord)
    (fits : (s.wkc.wakes.get p).Sound → (f (s.wkc.wakes.get p)).Sound) : WakeMoves s (s.modWake p f) where
  wakes sound := by
    intro q
    rw [modWake_wkc, Tab.get_upd]
    split
    · exact fits (sound p)
    · exact sound q
  power sound := sound

theorem wakeMoves_modPower (sc : Screen) (f : PowerRecord → PowerRecord)
    (fits : (s.wkc.power.get sc).Sound → (f (s.wkc.power.get sc)).Sound) : WakeMoves s (s.modPower sc f) where
  wakes sound := sound
  power sound := by
    intro other
    rw [modPower_wkc, Tab.get_upd]
    split
    · exact fits (sound sc)
    · exact sound other

theorem WakeMoves.foldl {α : Type} (f : State → α → State) (step : ∀ s a, WakeMoves s (f s a)) (l : List α) (s : State) :
    WakeMoves s (l.foldl f s) :=
  foldl_invariant (WakeMoves s) f (fun t a moves => moves.trans (step t a)) l s (.refl s)

theorem WakeMoves.ite {c : Prop} [Decidable c] (yes : WakeMoves s t) (no : WakeMoves s u) : WakeMoves s (if c then t else u) := by
  split
  · exact yes
  · exact no

theorem WakeMoves.onExpiry {timer : Timer} {f : State → State} (expires : ∀ e, timer = some e → WakeMoves (s.reach e) (f (s.reach e))) :
    WakeMoves s (s.onExpiry timer f) := by
  cases running : timer with
  | none => exact .refl s
  | some e => exact (wakeMoves_reach s e).trans (expires e running)

end

/-! ## Computer wake (R162 to R166) -/

section
variable (p : Port) (s : State)

theorem wakeMoves_wakeRefused : WakeMoves s (wakeRefused s) := wakeMoves_raise s _ _

/-- A wake record may change its phase from one that is not Signalling. -/
theorem wakeMoves_phase (phase : WakePhase) (off : (s.wkc.wakes.get p).phase ≠ .signalling) :
    WakeMoves s (s.modWake p (fun w => { w with phase := phase })) :=
  wakeMoves_modWake p _ fun sound _ => sound off

theorem wakeMoves_takeWakeRequest : WakeMoves s (takeWakeRequest p s) := by
  unfold takeWakeRequest
  split
  · exact .refl s
  · next idle =>
    split
    · have off : (s.wkc.wakes.get p).phase ≠ .signalling := by rw [not_not.mp idle]; decide
      exact .ite ((wakeMoves_hand s _ _).trans (wakeMoves_phase p (s.hand .wkc (.wakeBegins p)) .asked off))
        (wakeMoves_wakeRefused s)
    · exact wakeMoves_wakeRefused s
    all_goals exact .refl s

theorem wakeMoves_wakeBeginsRefused : WakeMoves s (wakeBeginsRefused p s) := by
  unfold wakeBeginsRefused
  split
  · next asked => exact (wakeMoves_phase p s .idle (by rw [asked]; decide)).trans (wakeMoves_wakeRefused _)
  · exact .refl s

/-- An attempt starts both timers, in phase Signalling. -/
theorem wakeMoves_startAttempt (signalling : (s.wkc.wakes.get p).phase = .signalling) : WakeMoves s (startAttempt p s) :=
  wakeMoves_modWake p _ fun _ => wakeRecord_sound_signalling signalling

theorem wakeMoves_linkStateChanged (st : LinkState) : WakeMoves s (linkStateChanged p st s) := by
  have stopped (w : WakeRecord) (signal : w.signal = none) (timer : w.timer = none) : WakeMoves s (s.modWake p (fun _ => w)) :=
    wakeMoves_modWake p _ fun _ => wakeRecord_sound_stopped signal timer
  cases st with
  | waking =>
    refine .ite ?_ (.refl s)
    refine (wakeMoves_modWake p (fun w => { w with phase := .signalling, retries := 0 }) fun _ => wakeRecord_sound_signalling rfl).trans
      (wakeMoves_startAttempt p _ ?_)
    rw [modWake_wkc, Tab.get_upd_self]
  | recovering => exact stopped _ rfl rfl
  | detached | settling | active | stalled | suspended => exact stopped WakeRecord.reset rfl rfl

theorem wakeMoves_wakeSignalEnds : WakeMoves s (wakeSignalEnds p s) :=
  wakeMoves_modWake p _ fun sound other => ⟨rfl, (sound other).2⟩

/-- The wake timer's expiry leaves the screens' power alone, whatever it does to the wake record. -/
theorem wakeTimerExpires_power : (wakeTimerExpires p s).wkc.power = s.wkc.power := by
  unfold wakeTimerExpires
  dsimp only
  (repeat' split) <;> rfl

/-- In phase Signalling, another attempt is made or the record goes back to Idle with its timers stopped (R164). -/
theorem wakeMoves_wakeTimerExpires_signalling (signalling : (s.wkc.wakes.get p).phase = .signalling) :
    WakeMoves s (wakeTimerExpires p s) := by
  have expired : WakeMoves s (s.modWake p (fun w => { w with timer := none })) :=
    wakeMoves_modWake p _ fun _ => wakeRecord_sound_signalling signalling
  refine expired.trans (.ite (.refl _) (.ite ?_ ?_))
  · refine (wakeMoves_modWake p (fun w => { w with retries := w.retries + 1 }) id).trans (wakeMoves_startAttempt p _ ?_)
    rw [modWake_wkc, Tab.get_upd_self, modWake_wkc, Tab.get_upd_self]
    exact signalling
  · refine (wakeMoves_modWake p (fun w => { w with phase := .idle, signal := none }) fun _ => wakeRecord_sound_stopped rfl ?_).trans
      ((wakeMoves_raise _ _ _).trans (wakeMoves_hand _ _ _))
    rw [modWake_wkc, Tab.get_upd_self]

/-- A wake timer that runs is that of a record in phase Signalling, when the wake records are sound. -/
theorem wakeMoves_wakeTimerExpires (running : (s.wkc.wakes.get p).timer ≠ none) : WakeMoves s (wakeTimerExpires p s) := by
  by_cases signalling : (s.wkc.wakes.get p).phase = .signalling
  · exact wakeMoves_wakeTimerExpires_signalling p s signalling
  · refine ⟨fun sound => absurd (sound p signalling).2 running, fun sound => ?_⟩
    rw [powerSound_iff, wakeTimerExpires_power]
    exact sound

theorem wakeMoves_recoveryExpires : WakeMoves s (recoveryExpires p s) :=
  have expired : WakeMoves s (s.modWake p (fun w => { w with recovery := none })) := wakeMoves_modWake p _ id
  .ite (expired.trans (wakeMoves_hand _ _ _)) expired

end

/-! ## Screen power and desk sleep (R167 to R171) -/

section
variable (sc : Screen) (s : State)

/-- The no-signal timer starts and goes on only on a screen that is On (R167). -/
theorem wakeMoves_noSignalUpdate (dark : Bool) : WakeMoves s (noSignalUpdate sc dark s) := by
  refine wakeMoves_modPower sc _ fun _ running => ?_
  by_contra off
  simp [off] at running

theorem wakeMoves_wakeScreen : WakeMoves s (wakeScreen sc s) :=
  .ite (.refl s) ((wakeMoves_modPower sc (fun r => { r with on := true }) fun _ _ => rfl).trans (wakeMoves_hand _ _ _))

theorem wakeMoves_wakeScreenAwake : WakeMoves s (wakeScreenAwake sc s) := .ite (.refl s) (wakeMoves_wakeScreen sc s)

theorem wakeMoves_powerSwitch (source : Option Source) : WakeMoves s (powerSwitch sc source s) :=
  (WakeMoves.ite (wakeMoves_wakeScreenAwake sc s) (.refl s)).trans (wakeMoves_noSignalUpdate sc _ _)

theorem wakeMoves_powerSourceChange (st : SourceState) : WakeMoves s (powerSourceChange st sc s) :=
  (WakeMoves.ite (wakeMoves_wakeScreenAwake sc s) (.refl s)).trans (wakeMoves_noSignalUpdate sc _ _)

theorem wakeMoves_powerStateChange (v : Source) (st : SourceState) : WakeMoves s (powerStateChange v st s) :=
  .foldl _ (fun t sc => .ite (wakeMoves_powerSourceChange sc t st) (.refl t)) _ s

theorem wakeMoves_noSignalExpires : WakeMoves s (noSignalExpires sc s) := wakeMoves_modPower sc _ fun _ running => absurd rfl running

theorem wakeMoves_startNoSignal : WakeMoves s (startNoSignal s) :=
  .foldl _ (fun t sc => wakeMoves_noSignalUpdate sc t _) _ s

theorem wakeMoves_deskSleeps : WakeMoves s (deskSleeps s) := by
  refine .ite (.refl s) ⟨fun sound => sound, fun _ => (powerSound_iff _).mpr fun sc => ?_⟩
  have off : (Tab.fill { on := false, noSignal := none } : Tab 8 PowerRecord).get sc = { on := false, noSignal := none } := Tab.get_fill ..
  exact fun running => absurd (congrArg PowerRecord.noSignal off) running

theorem wakeMoves_deskWakes : WakeMoves s (deskWakes s) := by
  have awake : WakeMoves s (s.modWkc (fun w => { w with deskAsleep := false })) := .of_same rfl rfl
  have screens := awake.trans (.foldl (fun s sc => if s.showsLocked (s.active sc) then wakeScreen sc s else s)
    (fun t sc => .ite (wakeMoves_wakeScreen sc t) (.refl t)) allScreens _)
  have ports := screens.trans (.foldl (fun s p => if deskWakeAsks s p then takeWakeRequest p s else s)
    (fun t p => .ite (wakeMoves_takeWakeRequest p t) (.refl t)) allPorts _)
  exact ports.trans (wakeMoves_raise _ _ _)

theorem wakeMoves_deskWakeTaken (k : Option Key) : WakeMoves s (deskWakeTaken k s) := by
  have taken (t : State) (moves : WakeMoves s t) : WakeMoves s (if t.wkc.deskAsleep then deskWakes t else t) :=
    moves.trans (.ite (wakeMoves_deskWakes t) (.refl t))
  cases k with
  | none => exact taken s (.refl s)
  | some k => exact taken _ (wakeMoves_hand s _ _)

end

/-! ## Restarts (R172, R173, R183) -/

section
variable (s : State)

theorem wakeMoves_settleScreens : WakeMoves s (settleScreens s) := by
  have before : WakeMoves s (startTicks (glideRestart s)) := .of_keeps (m := [.handoffs, .glu, .dms]) (by simp)
  have after (t : State) : WakeMoves t (recomputeAllBlanked (retargetAll t)) := .of_keeps (m := [.handoffs, .sou, .dms]) (by simp)
  exact before.trans ((wakeMoves_startNoSignal _).trans (after _))

theorem wakeMoves_restart : WakeMoves s (settleScreens (restartRouting s)) :=
  (WakeMoves.of_keeps (show Keeps [.handoffs, .xpc, .sou] s (restartRouting s) by simp)).trans (wakeMoves_settleScreens _)

theorem wakeMoves_consoleGoesOn : WakeMoves s (consoleGoesOn s) :=
  .of_keeps (show Keeps [.handoffs, .sent, .cip, .hkm] s (consoleGoesOn s) by simp)

theorem wakeMoves_loadEnds (answers keyboard pointer : Bool) : WakeMoves s (loadEnds answers keyboard pointer s) := by
  have loaded : WakeMoves s { loadTables answers s with loading := false } :=
    (WakeMoves.of_keeps (t := loadTables answers s) (m := [.tables, .mfe]) (by simp)).trans (.of_same rfl rfl)
  have keyed (t : State) : WakeMoves t (if keyboard then consoleAdd .attach t else t) :=
    .ite (.of_keeps (m := [.handoffs, .sent, .cip, .hkm]) (by simp)) (.refl t)
  have pointed (t : State) : WakeMoves t (if pointer then attachPointer t else t) :=
    .ite (.of_keeps (m := [.cip]) (by simp)) (.refl t)
  exact .ite (loaded.trans ((keyed _).trans ((pointed _).trans (wakeMoves_restart _)))) (.refl s)

theorem wakeMoves_wkcReset : WakeMoves s (s.modWkc (fun _ => Wkc.reset)) where
  wakes _ := fun p => by simp [Wkc.reset, WakeRecord.reset]
  power _ := fun sc => by simp [Wkc.reset]

theorem wakeMoves_takeRestart (q : Request) : WakeMoves s (takeRestart q s) := by
  have input (t : State) : WakeMoves t (restartInput t) :=
    .of_keeps (m := [.handoffs, .sent, .hkm, .glu, .fcu, .cpe, .dms]) (by simp)
  have cleared (t : State) : WakeMoves t (sharesOff (dimRestart t)) := .of_keeps (m := [.sou, .dms]) (by simp)
  have restarts (t : State) : WakeMoves t (deskRestarts t) :=
    (input t).trans ((wakeMoves_wkcReset _).trans ((cleared _).trans ((wakeMoves_restart _).trans (wakeMoves_consoleGoesOn _))))
  have flown : WakeMoves s (s.modMfe (fun m => { m with inFlight := m.inFlight.set q.port (some { kind := 16, request := q }) })) :=
    .of_same rfl rfl
  refine .ite (.ite (.of_keeps (m := [.sent]) (by simp)) ?_) (.refl s)
  exact flown.trans ((restarts _).trans (wakeMoves_hand _ _ _))

end

/-! ## Every command -/

/-- A command that touches the Wake Controller keeps its records sound, as every other does. -/
theorem exec_wakeMoves (c : Instr) (s t : State) (next : exec c s = .next t) : WakeMoves s t := by
  have taken (c : Instr) (u : State) (moves : WakeMoves (s.taking c) u) : WakeMoves s u :=
    (wakeMoves_taking s c).trans moves
  cases c
  case reset =>
    obtain ⟨-, -, -, -, -, -, -, -, wakes, power, -⟩ := resetIsSound
    cases next
    exact ⟨fun _ => wakes, fun _ => power⟩
  case settingsLoadEnd a k p => cases next; exact wakeMoves_loadEnds s a k p
  case wakeRequest p => cases next; exact taken _ _ (wakeMoves_takeWakeRequest p _)
  case wakeBeginsRefusal p => cases next; exact taken _ _ (wakeMoves_wakeBeginsRefused p _)
  case linkStateChange p st => cases next; exact taken _ _ (wakeMoves_linkStateChanged p _ st)
  case wakeSignalEnd p => cases next; exact .onExpiry fun e _ => wakeMoves_wakeSignalEnds p _
  case wakeTimerExpiry p =>
    cases next
    exact .onExpiry fun e running => wakeMoves_wakeTimerExpires p (s.reach e) (by rw [reach_wkc, running]; exact Option.some_ne_none e)
  case recoveryTimerExpiry p => cases next; exact .onExpiry fun e _ => wakeMoves_recoveryExpires p _
  case switchAtWakeController sc source => cases next; exact taken _ _ (wakeMoves_powerSwitch sc _ source)
  case stateChangeAtWakeController v st => cases next; exact taken _ _ (wakeMoves_powerStateChange _ v st)
  case noSignalTimerExpiry sc => cases next; exact .onExpiry fun e _ => wakeMoves_noSignalExpires sc _
  case deskSleepAction => cases next; exact taken _ _ (wakeMoves_deskSleeps _)
  case deskWakeInput k => cases next; exact taken _ _ (wakeMoves_deskWakeTaken _ k)
  case deskSleep q =>
    cases next
    exact serve_invariant 8 q _ s (WakeMoves s) (fun _ _ moves => moves.trans (.of_same rfl rfl)) (.refl s) (wakeMoves_deskSleeps s)
  case deskRestart q => cases next; exact wakeMoves_takeRestart s q
  all_goals exact .of_keeps (exec_keeps _ s t next) (by simp [touches])

theorem step_wakesSound (s t : State) (sound : WakesSound s) (next : step s = .next t) : WakesSound t :=
  step_invariant WakesSound (fun c s t sound next => (exec_wakeMoves c s t next).wakes sound)
    (fun s => (wakeMoves_consoleGoesOn s).wakes) (fun _ _ h => h) (fun _ _ h => h) (fun _ _ h => h) s t sound next

theorem step_powerSound (s t : State) (sound : PowerSound s) (next : step s = .next t) : PowerSound t :=
  step_invariant PowerSound (fun c s t sound next => (exec_wakeMoves c s t next).power sound)
    (fun s => (wakeMoves_consoleGoesOn s).power) (fun _ _ h => h) (fun _ _ h => h) (fun _ _ h => h) s t sound next

end Sys2Proof.Machine

/-!
PROOFS. No dim target outside FadeOut and FadeWait is below the floor, after every step (R137, R138).
-/

namespace Sys2Proof.Machine

/-! ## One Dim Stage's record -/

/-- A Dim Stage outside FadeOut and FadeWait has a target that is not below a floor (R137). -/
def Dms.LitAbove (floor : Nat) (d : Dms) : Prop := d.phase = .normal ∨ d.phase = .fadeIn → min floor 255 ≤ d.target

theorem targetsLit_iff (s : State) :
    TargetsLit s ↔ (s.loading = false → ∀ sc : Screen, (s.dms.get sc).LitAbove s.tables.desk.dimFloor) := Iff.rfl

/-- A record with the target of R137 is lit, since the four cases outside a fade are. -/
theorem litAbove_of_dimTarget (s : State) (d : Dms) (target : d.target = dimTarget s d) : d.LitAbove s.tables.desk.dimFloor := by
  intro phase
  have outside : ¬(d.phase = .fadeOut ∨ d.phase = .fadeWait) := by
    rcases phase with phase | phase
    · rw [phase]; decide
    · rw [phase]; decide
  rw [target, dimTarget_eq, if_neg outside]
  exact min_dimFloor_le_ordinaryTarget s d.source

/-! ## The operations -/

section
variable {s t : State}

/-- Every target recomputed is lit, whatever the targets were before. -/
theorem targetsLit_retargetAll (s : State) : TargetsLit (retargetAll s) := by
  have tables : (retargetAll s).tables = s.tables := (show Keeps [.dms] s (retargetAll s) by simp).tables
  refine (targetsLit_iff _).mpr fun _ sc => ?_
  rw [tables, retargetAll_get]
  exact litAbove_of_dimTarget s _ rfl

variable (lit : TargetsLit s)
include lit

theorem TargetsLit.congr (loading : t.loading = s.loading) (desk : t.tables.desk = s.tables.desk) (dms : t.dms = s.dms) :
    TargetsLit t := by
  rw [TargetsLit, loading, desk, dms]
  exact lit

theorem TargetsLit.keeps {m : List StateField} (k : Keeps m s t) (loading : .loading ∉ m := by decide)
    (tables : .tables ∉ m := by decide) (dms : .dms ∉ m := by decide) : TargetsLit t :=
  lit.congr (k .loading loading) (by rw [k.tables tables]) (k .dms dms)

variable (sc : Screen)

theorem TargetsLit.set {d : Dms} (loading : t.loading = s.loading) (desk : t.tables.desk = s.tables.desk)
    (dms : t.dms = s.dms.set sc d)
    (stage : (s.dms.get sc).LitAbove s.tables.desk.dimFloor → d.LitAbove s.tables.desk.dimFloor) : TargetsLit t := by
  refine (targetsLit_iff t).mpr fun loaded other => ?_
  have before := (targetsLit_iff s).mp lit (loading ▸ loaded)
  rw [dms, desk, Tab.get_set]
  split
  · exact stage (before sc)
  · exact before other

/-- A change of what is neither the phase nor the target. -/
theorem TargetsLit.modDms_rest (f : Dms → Dms) (phase : ∀ d, (f d).phase = d.phase := by exact fun _ => rfl)
    (target : ∀ d, (f d).target = d.target := by exact fun _ => rfl) : TargetsLit (s.modDms sc f) :=
  lit.set sc rfl rfl rfl fun before => by
    rw [Dms.LitAbove, phase, target]
    exact before

theorem targetsLit_retarget : TargetsLit (retarget sc s) := lit.set sc rfl rfl rfl fun _ => litAbove_of_dimTarget s _ rfl

theorem targetsLit_enterPhase (ph : FadePhase) : TargetsLit (enterPhase sc ph s) := by
  rw [enterPhase_eq]
  exact lit.set sc rfl rfl rfl fun _ => litAbove_of_dimTarget s _ rfl

theorem targetsLit_reportFadeWait : TargetsLit (reportFadeWait sc s) := lit.keeps (m := [.handoffs]) (by simp)

theorem targetsLit_enterFadeWait : TargetsLit (enterFadeWait sc s) := targetsLit_reportFadeWait (targetsLit_enterPhase lit sc .fadeWait) sc

theorem targetsLit_dimStep : TargetsLit (dimStep sc s) := by
  have stepped : TargetsLit (s.modDms sc (fun d => { d with level := stepLevel s.tables.desk.rampRate d.level d.target })) :=
    lit.modDms_rest sc _
  unfold dimStep
  dsimp only
  split
  · split
    · exact targetsLit_enterFadeWait stepped sc
    · exact stepped
  · split
    · exact targetsLit_enterPhase stepped sc .normal
    · exact stepped
  · exact stepped
  · exact stepped

theorem targetsLit_frameStepped (v : Source) : TargetsLit (frameStepped sc v s) := by
  unfold frameStepped
  split
  · exact targetsLit_dimStep lit sc
  · exact lit

theorem targetsLit_takeFade (n : Nat) : TargetsLit (takeFade sc n s) := by
  have held : TargetsLit (fadeHeld sc n s) := lit.modDms_rest sc (fun d => { d with inHand := some n, number := n })
  rw [takeFade_eq]
  split
  · split
    · exact targetsLit_enterFadeWait held sc
    · exact targetsLit_enterPhase held sc .fadeOut
  · split
    · exact targetsLit_enterFadeWait held sc
    · exact targetsLit_enterPhase held sc .fadeOut
  · exact targetsLit_reportFadeWait held sc
  · exact targetsLit_enterPhase held sc .normal
  · exact targetsLit_enterPhase held sc .normal
  all_goals exact held

theorem targetsLit_takeDrop : TargetsLit (takeDrop sc s) := by
  have released : TargetsLit (enterPhase sc .fadeIn (s.modDms sc (fun d => { d with inHand := none }))) :=
    targetsLit_enterPhase (lit.modDms_rest sc _) sc .fadeIn
  unfold takeDrop
  split
  · exact released
  · exact released
  · exact lit
  · exact lit

theorem targetsLit_tickUpdate (locked : Bool) : TargetsLit (tickUpdate sc locked s) := lit.modDms_rest sc _

theorem targetsLit_tickExpires : TargetsLit (tickExpires sc s) := targetsLit_dimStep (lit.modDms_rest sc _) sc

theorem targetsLit_dimSourceChange (v : Source) (st : SourceState) : TargetsLit (dimSourceChange sc v st s) := by
  unfold dimSourceChange
  split
  · exact targetsLit_tickUpdate lit sc _
  · exact lit

theorem targetsLit_dimSwitch (source : Option Source) : TargetsLit (dimSwitch sc source s) := by
  rw [dimSwitch_eq]
  exact lit.set sc rfl rfl rfl fun _ _ => min_dimFloor_le_ordinaryTarget s source

theorem targetsLit_dimWake : TargetsLit (dimWake sc s) := by
  have dark : TargetsLit (s.modDms sc (fun d => { d with level := 0 })) := lit.modDms_rest sc _
  unfold dimWake
  dsimp only
  split
  · exact targetsLit_enterFadeWait dark sc
  all_goals exact targetsLit_retarget dark sc

/-! ## The stored entries -/

/-- A write of the floor or the unfocused level recomputes every target; any other leaves both the floor and the targets (R138). -/
theorem targetsLit_storeDesk (e : DeskRecord) : TargetsLit (storeDesk e s) := by
  by_cases changed : e.dimFloor ≠ s.tables.desk.dimFloor ∨ e.unfocusedLevel ≠ s.tables.desk.unfocusedLevel
  · refine (targetsLit_iff _).mpr fun _ sc => litAbove_of_dimTarget (storeDesk e s) _ ?_
    rw [storeDesk_dms_get e s changed sc, dimTarget_eq]
  · have same : e.dimFloor = s.tables.desk.dimFloor ∧ e.unfocusedLevel = s.tables.desk.unfocusedLevel := by
      rwa [not_or, not_not, not_not] at changed
    have loading : (storeDesk e s).loading = s.loading := keeps_storeDesk_stored e s .loading (by decide)
    rw [TargetsLit, loading, storeDesk_dms_kept e s same, storeDesk_tables, same.1]
    exact lit

/-- A write that turns fade off ends a fade at the target of R137; any other leaves the targets (R145). -/
theorem targetsLit_storeScreen (e : ScreenEntry) : TargetsLit (storeScreen sc e s) := by
  have desk : (storeScreen sc e s).tables.desk = s.tables.desk := by rw [storeScreen_tables]
  have keeps : Keeps [.handoffs, .tables, .glu, .fcu, .cpe, .xpc, .dms, .sou] s (storeScreen sc e s) := by simp
  have loading : (storeScreen sc e s).loading = s.loading := keeps .loading (by decide)
  by_cases ends : (s.screenEntry sc).fade = true ∧ e.fade = false ∧ (s.dms.get sc).phase ≠ .normal
  · obtain ⟨on, off, phase⟩ := ends
    refine lit.set sc loading desk (storeScreen_dms_off sc e s on off phase) fun _ _ => ?_
    rw [← desk]
    exact min_dimFloor_le_ordinaryTarget (storeScreen sc e s) _
  · refine lit.congr loading desk (storeScreen_dms_kept sc e s ?_)
    rwa [not_and_or, not_and_or, Bool.not_eq_true, Bool.not_eq_false, not_not] at ends

end

/-! ## Restarts (R148) -/

/-- The targets are computed last in both restarts (R148). -/
theorem targetsLit_settleScreens (s : State) : TargetsLit (settleScreens s) :=
  (targetsLit_retargetAll (startNoSignal (startTicks (glideRestart s)))).keeps (m := [.handoffs, .sou]) (by simp [settleScreens])

section
variable {s : State} (lit : TargetsLit s)
include lit

theorem targetsLit_loadEnds (answers keyboard pointer : Bool) : TargetsLit (loadEnds answers keyboard pointer s) := by
  unfold loadEnds
  split
  · exact targetsLit_settleScreens _
  · exact lit

theorem targetsLit_consoleGoesOn : TargetsLit (consoleGoesOn s) := lit.keeps (m := [.handoffs, .sent, .cip, .hkm]) (by simp)

theorem targetsLit_hand (b : Block) (c : Instr) : TargetsLit (s.hand b c) := lit

theorem targetsLit_takeRestart (q : Request) : TargetsLit (takeRestart q s) := by
  have restarts (t : State) : TargetsLit (deskRestarts t) := by
    rw [deskRestarts_eq]
    exact targetsLit_consoleGoesOn (targetsLit_settleScreens _)
  unfold takeRestart
  split
  · split
    · exact lit.keeps (m := [.sent]) (by simp)
    · exact targetsLit_hand (restarts _) _ _
  · exact lit

/-! ## Every command -/

theorem targetsLit_serve (kind : Nat) (q : Request) (f : State → State × Reply) (effect : TargetsLit (f s).1) :
    TargetsLit (serve kind q f s) :=
  serve_invariant kind q f s TargetsLit (fun _ _ h => h) lit effect

end

/-- A command that touches the Dim Stages or the floor leaves the targets lit, as every other does. -/
theorem exec_targetsLit (c : Instr) (s t : State) (lit : TargetsLit s) (next : exec c s = .next t) : TargetsLit t := by
  have taken (c : Instr) : TargetsLit (s.taking c) := lit
  cases c
  case reset => cases next; exact fun loaded => Bool.noConfusion loaded
  case settingsLoadEnd a k p => cases next; exact targetsLit_loadEnds lit a k p
  case rampStep sc v => cases next; exact targetsLit_frameStepped (taken _) sc v
  case substituteTickExpiry sc =>
    cases next
    unfold State.onExpiry
    split
    · exact lit
    · next e _ => exact targetsLit_tickExpires (s := s.reach e) lit sc
  case stateChangeAtDimStage sc v st => cases next; exact targetsLit_dimSourceChange (taken _) sc v st
  case fadeRequest sc n => cases next; exact targetsLit_takeFade (taken _) sc n
  case drop sc => cases next; exact targetsLit_takeDrop (taken _) sc
  case switchAtDimStage sc source => cases next; exact targetsLit_dimSwitch (taken _) sc source
  case targetRefresh sc => cases next; exact targetsLit_retarget (taken _) sc
  case screenWake sc => cases next; exact targetsLit_dimWake (taken _) sc
  case writeDeskRecord q w =>
    cases next
    exact targetsLit_serve lit _ _ _ (writeEntry_invariant _ _ _ _ _ _ TargetsLit lit fun _ e _ _ _ _ _ => targetsLit_storeDesk lit e)
  case writePortEntry q w =>
    cases next
    refine targetsLit_serve lit _ _ _ (writeEntry_invariant _ _ _ _ _ _ TargetsLit lit fun p e _ _ _ _ _ => ?_)
    have keeps : Keeps [.handoffs, .sent, .tables, .cpe] s (storePort p e s) := by simp
    exact lit.congr (keeps .loading (by decide)) (by rw [storePort_tables]) (keeps .dms (by decide))
  case writeSourceEntry q w =>
    cases next
    refine targetsLit_serve lit _ _ _ (writeEntry_invariant _ _ _ _ _ _ TargetsLit lit fun v e _ _ _ _ _ => ?_)
    have keeps : Keeps [.handoffs, .tables, .fcu, .cpe, .sou] s (storeSource v e s) := by simp
    exact lit.congr (keeps .loading (by decide)) (by rw [storeSource_tables]) (keeps .dms (by decide))
  case writeScreenEntry q w =>
    cases next
    exact targetsLit_serve lit _ _ _ (writeEntry_invariant _ _ _ _ _ _ TargetsLit lit fun sc e _ _ _ _ _ =>
      targetsLit_storeScreen lit sc e)
  case writeLayoutEntry q w =>
    cases next
    exact targetsLit_serve lit _ _ _ (writeEntry_invariant _ _ _ _ _ _ TargetsLit lit fun _ _ _ _ _ _ _ => lit)
  case writeHotkeyEntry q w =>
    cases next
    refine targetsLit_serve lit _ _ _ (writeEntry_invariant _ _ _ _ _ _ TargetsLit lit fun n e _ _ _ _ _ => ?_)
    rw [storeHotkey_eq]
    exact lit
  case deskRestart q => cases next; exact targetsLit_takeRestart lit q
  all_goals exact lit.keeps (exec_keeps _ s t next) (by simp [touches]) (by simp [touches]) (by simp [touches])

theorem step_targetsLit (s t : State) (lit : TargetsLit s) (next : step s = .next t) : TargetsLit t :=
  step_invariant TargetsLit exec_targetsLit (fun _ h => targetsLit_consoleGoesOn h) (fun _ _ h => h) (fun _ _ h => h)
    (fun _ _ h => h) s t lit next

/-- Settles O59, one invariant after the other. -/
theorem clocksStaySound : Obligations.ClocksStaySound :=
  ⟨step_monitorsSound, step_wakesSound, step_powerSound, step_targetsLit⟩

end Sys2Proof.Machine

/-!
PROOFS. The Share Output Unit (sections 9.2 to 9.4): what one change of an output's record makes of it and raises, a change taken by the
outputs one after another, and from these the Share actions, a switch of a followed screen, a write of a source's privacy, and an
output's picture.
-/

namespace Sys2Proof.Machine

/-! ## One output -/

/-- One output takes a change of its share record, raising ShareBlanked where the change asks for it; the tables stand. -/
structure ShareChanged (change : ShareRecord → ShareRecord) (raises : ShareRecord → Bool) (o : ShareOut) (s t : State) : Prop where
  sou : t.sou = s.sou.set o (change (s.sou.get o))
  handoffs : t.handoffs = s.handoffs ++ if raises (s.sou.get o) = true then [blankedNotice] else []
  tables : t.tables = s.tables

/-- A change that leaves the record and raises nothing is no change. -/
theorem ShareChanged.refl {change : ShareRecord → ShareRecord} {raises : ShareRecord → Bool} {o : ShareOut} {s : State}
    (stands : change (s.sou.get o) = s.sou.get o) (quiet : raises (s.sou.get o) = false) : ShareChanged change raises o s s := by
  refine ⟨?_, ?_, rfl⟩
  · rw [stands, Tab.set_get_self]
  · rw [quiet, if_neg Bool.false_ne_true, List.append_nil]

/-- The blanked field recomputed, and ShareBlanked raised when that goes from no to yes (R150, R154). -/
theorem recomputeBlanked_eq (o : ShareOut) (s : State) : recomputeBlanked o s = { s with
    sou := s.sou.set o { s.sou.get o with blanked := s.isPrivate (s.sou.get o).wanted }
    handoffs := s.handoffs ++
      if s.isPrivate (s.sou.get o).wanted = true ∧ (s.sou.get o).blanked = false then [blankedNotice] else [] } := by
  cases private_ : s.isPrivate (s.sou.get o).wanted <;> cases blanked : (s.sou.get o).blanked <;>
    simp [recomputeBlanked, private_, blanked, State.raise, State.hand, State.modSou, Tab.upd, blankedNotice]

theorem isPrivate_congr {s t : State} (tables : t.tables = s.tables) (v : Option Source) : t.isPrivate v = s.isPrivate v := by
  cases v <;> simp [State.isPrivate, tables]

/-- A Share action on an output that does not follow the screen yet (R151, R154). -/
theorem shareScreen_apart (o : ShareOut) (sc : Screen) (s : State) (apart : follows (s.sou.get o) sc = false) :
    shareScreen o sc s = { s with
    sou := s.sou.set o { mode := .follow sc (s.active sc), blanked := s.isPrivate (s.active sc) }
    handoffs := s.handoffs ++
      if s.isPrivate (s.active sc) = true ∧ (s.sou.get o).blanked = false then [blankedNotice] else [] } := by
  rw [shareScreen, if_neg (Bool.eq_false_iff.mp apart), setShareMode_eq]
  rfl

/-! ## The outputs one after another -/

/-- Outputs that each take a change of their own record take it together: each takes it on the record it had, and ShareBlanked is raised
once for each whose record asked for it. -/
theorem foldl_shareChanged (change : ShareRecord → ShareRecord) (raises : ShareRecord → Bool) (f : State → ShareOut → State)
    (l : List ShareOut) (nodup : l.Nodup) (s : State)
    (step : ∀ (t : State) (o : ShareOut), t.tables = s.tables → ShareChanged change raises o t (f t o)) :
    (∀ o, (l.foldl f s).sou.get o = if o ∈ l then change (s.sou.get o) else s.sou.get o)
    ∧ (l.foldl f s).handoffs = s.handoffs ++ (l.filter (fun o => raises (s.sou.get o))).map (fun _ => blankedNotice) := by
  induction l generalizing s with
  | nil => exact ⟨fun o => rfl, (List.append_nil _).symm⟩
  | cons a l ih =>
    obtain ⟨fresh, nodup⟩ := List.nodup_cons.mp nodup
    obtain ⟨sou, handoffs, tables⟩ := step s a rfl
    obtain ⟨records, handed⟩ := ih nodup (f s a) fun t o same => step t o (same.trans tables)
    have first : (f s a).sou.get a = change (s.sou.get a) := by rw [sou, Tab.get_set_self]
    have others (o : ShareOut) (other : o ≠ a) : (f s a).sou.get o = s.sou.get o := by rw [sou, Tab.get_set_other _ other]
    refine ⟨fun o => ?_, ?_⟩
    · rw [List.foldl_cons, records]
      by_cases same : o = a
      · subst same
        rw [if_neg fresh, if_pos List.mem_cons_self, first]
      · rw [others o same]
        simp [same]
    · have later : l.filter (fun o => raises ((f s a).sou.get o)) = l.filter (fun o => raises (s.sou.get o)) :=
        List.filter_congr fun o m => by rw [others o (ne_of_mem_of_not_mem m fresh)]
      rw [List.foldl_cons, handed, handoffs, later, List.filter_cons]
      split <;> simp

/-- A change taken by both outputs. -/
theorem foldl_allOutputs (change : ShareRecord → ShareRecord) (raises : ShareRecord → Bool) (f : State → ShareOut → State) (s : State)
    (step : ∀ (t : State) (o : ShareOut), t.tables = s.tables → ShareChanged change raises o t (f t o)) :
    (∀ o, (allOutputs.foldl f s).sou.get o = change (s.sou.get o))
    ∧ (allOutputs.foldl f s).handoffs =
      s.handoffs ++ (allOutputs.filter (fun o => raises (s.sou.get o))).map (fun _ => blankedNotice) := by
  obtain ⟨records, handed⟩ := foldl_shareChanged change raises f allOutputs (List.nodup_finRange 2) s step
  exact ⟨fun o => (records o).trans (if_pos (List.mem_finRange o)), handed⟩

/-! ## A switch of a followed screen (R153, R154) -/

/-- The record of an output after a switch on a screen: one that follows the screen wants its new active source. -/
def followed (sc : Screen) (source : Option Source) (private_ : Bool) (r : ShareRecord) : ShareRecord :=
  if follows r sc = true then { mode := .follow sc source, blanked := private_ } else r

/-- Each output that follows the screen takes its new active source, and ShareBlanked is raised for each that goes blank. -/
theorem followSwitch_outputs (sc : Screen) (source : Option Source) (s : State) :
    (∀ o, (followSwitch sc source s).sou.get o = followed sc source (s.isPrivate source) (s.sou.get o))
    ∧ (followSwitch sc source s).handoffs = s.handoffs ++
      (allOutputs.filter (fun o => follows (s.sou.get o) sc && s.isPrivate source && !(s.sou.get o).blanked)).map
        (fun _ => blankedNotice) := by
  refine foldl_allOutputs (followed sc source (s.isPrivate source))
    (fun r => follows r sc && s.isPrivate source && !r.blanked) _ s fun t o tables => ?_
  split
  · next follow =>
    rw [setShareMode_eq]
    refine ⟨?_, congrArg (t.handoffs ++ ·) (if_congr ?_ rfl rfl), rfl⟩
    · rw [followed, if_pos follow, ← isPrivate_congr tables]
      rfl
    · simp [follow, isPrivate_congr tables, ShareRecord.wanted]
  · next apart => exact .refl (if_neg apart) (by simp [Bool.eq_false_iff.mpr apart])

/-! ## A write of a source's privacy (R154) -/

/-- The record of an output after a source's `priv` field has been written: one that wants the source is blanked by it. -/
def reblanked (v : Source) (private_ : Bool) (r : ShareRecord) : ShareRecord :=
  if r.wanted = some v then { r with blanked := private_ } else r

/-- Each output that wants the source is blanked by its `priv` field, and ShareBlanked is raised for each that goes blank. -/
theorem privateWritten_outputs (v : Source) (s : State) :
    (∀ o, (privateWritten v s).sou.get o = reblanked v (s.isPrivate (some v)) (s.sou.get o))
    ∧ (privateWritten v s).handoffs = s.handoffs ++
      (allOutputs.filter (fun o => decide ((s.sou.get o).wanted = some v) && s.isPrivate (some v) && !(s.sou.get o).blanked)).map
        (fun _ => blankedNotice) := by
  refine foldl_allOutputs (reblanked v (s.isPrivate (some v)))
    (fun r => decide (r.wanted = some v) && s.isPrivate (some v) && !r.blanked) _ s fun t o tables => ?_
  split
  · next wants =>
    rw [recomputeBlanked_eq, wants, isPrivate_congr tables]
    refine ⟨?_, ?_, rfl⟩
    · rw [reblanked, if_pos wants]
    · simp [wants]
  · next apart => exact .refl (if_neg apart) (by simp [apart])

section
variable (v : Source) (e : SourceEntry) (s : State)

/-- What Focus Control makes of a stored entry leaves the share records and the tables as stored. -/
theorem sourceStored_keeps_sourceTaken : Keeps [.handoffs, .fcu, .cpe] (sourceStored v e s) (sourceTaken v e s) := by
  unfold sourceTaken
  (repeat' split) <;> simp

theorem sourceTaken_sou : (sourceTaken v e s).sou = s.sou := sourceStored_keeps_sourceTaken v e s .sou (by decide)

theorem sourceTaken_isPrivate : (sourceTaken v e s).isPrivate (some v) = e.priv := by
  rw [isPrivate_congr (sourceStored_keeps_sourceTaken v e s).tables]
  exact congrArg SourceEntry.priv (Tab.get_set_self s.tables.sources v e)

theorem storeSource_sou_kept (same : e.priv = (s.tables.sources.get v).priv) : (storeSource v e s).sou = s.sou := by
  rw [storeSource_eq, if_neg (not_not_intro same)]
  exact sourceTaken_sou v e s

/-- A stored entry that changes the `priv` field blanks the outputs that want the source by it, with the notice (R154). -/
theorem storeSource_reblanked (changed : e.priv ≠ (s.tables.sources.get v).priv) (o : ShareOut) :
    (storeSource v e s).sou.get o = reblanked v e.priv (s.sou.get o)
    ∧ ((s.sou.get o).wanted = some v → e.priv = true → (s.sou.get o).blanked = false →
      blankedNotice ∈ (storeSource v e s).handoffs) := by
  obtain ⟨records, handed⟩ := privateWritten_outputs v (sourceTaken v e s)
  rw [sourceTaken_sou, sourceTaken_isPrivate] at records handed
  rw [storeSource_eq, if_pos changed]
  refine ⟨records o, fun wants private_ lit => ?_⟩
  rw [handed]
  refine List.mem_append_right _ (List.mem_map.mpr ⟨o, List.mem_filter.mpr ⟨List.mem_finRange o, ?_⟩, rfl⟩)
  simp [wants, private_, lit]

end

/-! ## An output's picture (R149, R150) -/

section
variable (o : ShareOut) (pixel : Source → Nat) (s : State)

theorem outputComponent_off (off : (s.sou.get o).wanted = none) : s.outputComponent o pixel = none := by
  simp [State.outputComponent, State.carried, off]

theorem outputComponent_wanted (v : Source) (wants : (s.sou.get o).wanted = some v) : s.outputComponent o pixel =
    if (s.tables.sources.get v).priv = true then none
    else some (if (s.fmn.get v).state = .noSignal then 0 else pixel v) := by
  rw [State.outputComponent, State.carried, wants]
  exact apply_ite (Option.map fun v => s.fed v (pixel v)) _ _ _

end

/-! ## The statement -/

/-- Settles O43: the actions by the mode that they set, the switch and the write by what they make of each output's record, and the
picture by the wanted source. -/
theorem shareActionsTaken : Obligations.ShareActionsTaken := by
  unfold Obligations.ShareActionsTaken
  refine ⟨fun o sc s => ⟨fun follow => ?_, fun apart => ?_⟩, fun o s => ?_, fun sc source s => ?_,
    fun q w v s served index e ok => ?_, fun o pixel s => ⟨outputComponent_off o pixel s, outputComponent_wanted o pixel s⟩⟩
  · exact congrArg Host.Outcome.next (if_pos follow)
  · exact congrArg Host.Outcome.next (shareScreen_apart o sc (s.taking (.share o sc)) apart)
  · exact congrArg Host.Outcome.next (shareNothing_eq o (s.taking (.shareOff o)))
  · exact ⟨_, rfl, followSwitch_outputs sc source (s.taking (.followedScreenSwitch sc source))⟩
  · refine ⟨_, exec_writeSourceEntry_stored q w v s served index e ok, ?_⟩
    have replied : Keeps [.sent] (storeSource v e s) (sendReply 2 q (plainReply .ok) (storeSource v e s)) := by simp
    have sou : (sendReply 2 q (plainReply .ok) (storeSource v e s)).sou = (storeSource v e s).sou := replied .sou (by decide)
    have handoffs : (sendReply 2 q (plainReply .ok) (storeSource v e s)).handoffs = (storeSource v e s).handoffs :=
      replied .handoffs (by decide)
    rw [sou, handoffs]
    exact ⟨storeSource_sou_kept v e s, storeSource_reblanked v e s⟩

end Sys2Proof.Machine

/-!
PROOFS. The wake record of a port (section 10.2): a wake request by the port's phase and link state, a refusal of wake begins, a change
of the port's link state, and the ends of the wake signal, the wake timer and the recovery timer (R162 to R166).
-/

namespace Sys2Proof.Machine

section
variable (p : Port) (s : State)

/-! ## One wake record -/

theorem modWake_eq (f : WakeRecord → WakeRecord) :
    s.modWake p f = { s with wkc := { s.wkc with wakes := s.wkc.wakes.set p (f (s.wkc.wakes.get p)) } } := rfl

/-- Two changes of one wake record are one change. -/
theorem modWake_modWake (f g : WakeRecord → WakeRecord) : (s.modWake p f).modWake p g = s.modWake p (fun w => g (f w)) := by
  simp only [modWake_eq, Tab.get_set_self, Tab.set_set]

/-- An attempt by a port whose wake record has just changed (R163, R164). -/
theorem startAttempt_modWake (f : WakeRecord → WakeRecord) : startAttempt p (s.modWake p f) = s.modWake p (fun w => { f w with
    signal := some (s.timebase + 10000), timer := some (s.timebase + s.tables.desk.wakeTimeout * 1000) }) :=
  modWake_modWake p s f _

/-! ## Wake requests (R162) -/

theorem takeWakeRequest_busy (busy : (s.wkc.wakes.get p).phase ≠ .idle) : takeWakeRequest p s = s := if_pos busy

/-- A port that is neither asleep nor absent needs no wake. -/
theorem takeWakeRequest_present (asleep : (s.cpe.get p).linkState ≠ .suspended) (absent : (s.cpe.get p).linkState ≠ .detached) :
    takeWakeRequest p s = s := by
  unfold takeWakeRequest
  split
  · rfl
  · split
    · next state => exact absurd state asleep
    · next state => exact absurd state absent
    all_goals rfl

theorem takeWakeRequest_armed (idle : (s.wkc.wakes.get p).phase = .idle) (state : (s.cpe.get p).linkState = .suspended)
    (armed : (s.cpe.get p).wakeArmed = true) :
    takeWakeRequest p s = (s.hand .wkc (.wakeBegins p)).modWake p (fun w => { w with phase := .asked }) := by
  simp [takeWakeRequest, idle, state, armed]

theorem takeWakeRequest_disarmed (idle : (s.wkc.wakes.get p).phase = .idle) (state : (s.cpe.get p).linkState = .suspended)
    (disarmed : (s.cpe.get p).wakeArmed = false) : takeWakeRequest p s = s.raise .wkc .wakeRefused := by
  simp [takeWakeRequest, idle, state, disarmed, wakeRefused]

theorem takeWakeRequest_detached (idle : (s.wkc.wakes.get p).phase = .idle) (state : (s.cpe.get p).linkState = .detached) :
    takeWakeRequest p s = s.raise .wkc .wakeRefused := by
  simp [takeWakeRequest, idle, state, wakeRefused]

/-! ## Changes of the port's link state (R163, R165) -/

theorem linkStateChanged_signals (asked : (s.wkc.wakes.get p).phase = .asked) : linkStateChanged p .waking s =
    s.modWake p (fun w => { w with
      phase := .signalling, retries := 0, signal := some (s.timebase + 10000)
      timer := some (s.timebase + s.tables.desk.wakeTimeout * 1000) }) :=
  (if_pos asked).trans (startAttempt_modWake p s _)

theorem linkStateChanged_unasked (other : (s.wkc.wakes.get p).phase ≠ .asked) : linkStateChanged p .waking s = s := if_neg other

/-- Any link state but Waking and Recovering puts the wake record back to its reset values. -/
theorem linkStateChanged_clears (st : LinkState) (waking : st ≠ .waking) (recovering : st ≠ .recovering) :
    linkStateChanged p st s = s.modWake p (fun _ => WakeRecord.reset) := by
  cases st with
  | waking => exact absurd rfl waking
  | recovering => exact absurd rfl recovering
  | detached | settling | active | stalled | suspended => rfl

/-! ## The wake timer and the recovery timer (R164, R166) -/

theorem wakeTimerExpires_dropped (state : (s.cpe.get p).linkState ≠ .waking) :
    wakeTimerExpires p s = s.modWake p (fun w => { w with timer := none }) := if_pos state

section
variable (state : (s.cpe.get p).linkState = .waking)

include state

/-- A retry that is left counts, and makes another attempt. -/
theorem wakeTimerExpires_again (left : (s.wkc.wakes.get p).retries < s.tables.desk.wakeRetries ∧ (s.cpe.get p).wakeArmed = true) :
    wakeTimerExpires p s = s.modWake p (fun w => { w with
      retries := w.retries + 1, signal := some (s.timebase + 10000)
      timer := some (s.timebase + s.tables.desk.wakeTimeout * 1000) }) := by
  unfold wakeTimerExpires
  simp only [modWake_wkc, modWake_cpe, modWake_tables, Tab.get_upd_self]
  rw [if_neg (not_not_intro state), if_pos left, startAttempt_modWake, modWake_modWake]
  rfl

theorem wakeTimerExpires_fails (spent : ¬((s.wkc.wakes.get p).retries < s.tables.desk.wakeRetries ∧ (s.cpe.get p).wakeArmed = true)) :
    wakeTimerExpires p s =
      ((s.modWake p (fun w => { w with phase := .idle, timer := none, signal := none })).raise .wkc .wakeFailed).hand
        .wkc (.wakeFailed p) := by
  unfold wakeTimerExpires
  simp only [modWake_wkc, modWake_cpe, modWake_tables, Tab.get_upd_self]
  rw [if_neg (not_not_intro state), if_neg spent, modWake_modWake]

end

/-- The recovery timer stops, and the port is told that its recovery has ended while it is Recovering. -/
theorem recoveryExpires_eq : recoveryExpires p s = { s with
    wkc := { s.wkc with wakes := s.wkc.wakes.set p { s.wkc.wakes.get p with recovery := none } }
    handoffs := s.handoffs ++
      (if (s.cpe.get p).linkState = .recovering then [{ src := .wkc, cmd := .recoveryEnded p }] else []) } := by
  by_cases state : (s.cpe.get p).linkState = .recovering
  · rw [if_pos state]
    exact if_pos state
  · rw [if_neg state, List.append_nil]
    exact if_neg state

end

/-! ## The statements -/

/-- Settles O44: the request and the refusal by the record's phase and the port's link state, the change by the new link state. -/
theorem wakeRequestsTaken : Obligations.WakeRequestsTaken := by
  intro p s
  refine ⟨fun h => ?_, fun idle state armed => ?_, fun idle h => ?_, fun asked => ?_, fun other => ?_, fun st => ⟨?_, ?_, ?_, ?_⟩⟩
  · have untaken : takeWakeRequest p (s.taking (.wakeRequest p)) = s.taking (.wakeRequest p) := by
      rcases h with busy | ⟨asleep, absent⟩
      · exact takeWakeRequest_busy p (s.taking _) busy
      · exact takeWakeRequest_present p (s.taking _) asleep absent
    exact congrArg Host.Outcome.next untaken
  · exact congrArg Host.Outcome.next (takeWakeRequest_armed p (s.taking _) idle state armed)
  · have refused : takeWakeRequest p (s.taking (.wakeRequest p)) = (s.taking (.wakeRequest p)).raise .wkc .wakeRefused := by
      rcases h with ⟨state, disarmed⟩ | state
      · exact takeWakeRequest_disarmed p (s.taking _) idle state disarmed
      · exact takeWakeRequest_detached p (s.taking _) idle state
    exact congrArg Host.Outcome.next refused
  · exact congrArg Host.Outcome.next (if_pos asked)
  · exact congrArg Host.Outcome.next (if_neg other)
  · rintro rfl asked
    exact congrArg Host.Outcome.next (linkStateChanged_signals p (s.taking _) asked)
  · rintro rfl other
    exact congrArg Host.Outcome.next (linkStateChanged_unasked p (s.taking _) other)
  · rintro rfl
    rfl
  · exact fun waking recovering =>
      congrArg Host.Outcome.next (linkStateChanged_clears p (s.taking _) st waking recovering)

section
variable (p : Port) (s : State)

theorem exec_wakeSignalEnd : exec (.wakeSignalEnd p) s = .next (s.onExpiry (s.wkc.wakes.get p).signal (wakeSignalEnds p)) := rfl

theorem exec_wakeTimerExpiry : exec (.wakeTimerExpiry p) s = .next (s.onExpiry (s.wkc.wakes.get p).timer (wakeTimerExpires p)) := rfl

theorem exec_recoveryTimerExpiry :
    exec (.recoveryTimerExpiry p) s = .next (s.onExpiry (s.wkc.wakes.get p).recovery (recoveryExpires p)) := rfl

end

/-- Settles O45: each expiry by its timer, the wake timer's by the port's link state and the retries left. -/
theorem wakeTimersExpire : Obligations.WakeTimersExpire := by
  intro p s
  simp only [exec_wakeSignalEnd, exec_wakeTimerExpiry, exec_recoveryTimerExpiry]
  refine ⟨fun stopped => ?_, fun stopped => ?_, fun stopped => ?_, fun x => ⟨fun running => ?_, fun running state => ?_,
    fun running state left => ?_, fun running state spent => ?_, fun running => ?_⟩⟩
  · rw [stopped, onExpiry_stopped]
  · rw [stopped, onExpiry_stopped]
  · rw [stopped, onExpiry_stopped]
  · rw [running, onExpiry_running]
    rfl
  · rw [running, onExpiry_running, wakeTimerExpires_dropped p (s.reach x) state]
    rfl
  · rw [running, onExpiry_running, wakeTimerExpires_again p (s.reach x) state left]
    rfl
  · rw [running, onExpiry_running, wakeTimerExpires_fails p (s.reach x) state spent]
    simp only [modWake_eq, State.raise, State.hand, List.append_assoc]
    rfl
  · rw [running, onExpiry_running, recoveryExpires_eq]
    rfl

end Sys2Proof.Machine

/-!
PROOFS. Several cells of the state, each taking a change of its own and handing on at most one command: what they come to when they are
taken one after another.
-/

namespace Sys2Proof.Machine

/-- One cell of a family takes its change, handing on its command where the change asks for it; the other cells stand. -/
structure CellTaken {n : Nat} {α : Type} (read : State → Fin n → α) (change : Fin n → α → α) (asks : Fin n → α → Bool)
    (handed : Fin n → Handoff) (i : Fin n) (s t : State) : Prop where
  cell : read t i = change i (read s i)
  others : ∀ j : Fin n, j ≠ i → read t j = read s j
  handoffs : t.handoffs = s.handoffs ++ if asks i (read s i) = true then [handed i] else []

section
variable {n : Nat} {α : Type} {read : State → Fin n → α} {change : Fin n → α → α} {asks : Fin n → α → Bool}
  {handed : Fin n → Handoff}

/-- A change that leaves the cell and hands nothing is no change. -/
theorem CellTaken.refl {i : Fin n} {s : State} (stands : change i (read s i) = read s i) (quiet : asks i (read s i) = false) :
    CellTaken read change asks handed i s s where
  cell := stands.symm
  others _ _ := rfl
  handoffs := by rw [quiet, if_neg Bool.false_ne_true, List.append_nil]

/-- Cells that each take their own change take it together: each takes it on what it was at the start, and the commands are handed in
the order of the list. `Stands` is what the changes may rely on: it holds at the start and each of them keeps it. -/
theorem foldl_cellTaken (f : State → Fin n → State) (Stands : State → Prop) (l : List (Fin n)) (nodup : l.Nodup) (s : State)
    (start : Stands s) (step : ∀ (t : State) (i : Fin n), Stands t → Stands (f t i) ∧ CellTaken read change asks handed i t (f t i)) :
    Stands (l.foldl f s)
    ∧ (∀ i, read (l.foldl f s) i = if i ∈ l then change i (read s i) else read s i)
    ∧ (l.foldl f s).handoffs = s.handoffs ++ (l.filter (fun i => asks i (read s i))).map handed := by
  induction l generalizing s with
  | nil => exact ⟨start, fun _ => rfl, (List.append_nil _).symm⟩
  | cons a l ih =>
    obtain ⟨fresh, nodup⟩ := List.nodup_cons.mp nodup
    obtain ⟨stands, taken⟩ := step s a start
    obtain ⟨standing, cells, handoffs⟩ := ih nodup (f s a) stands
    refine ⟨standing, fun i => ?_, ?_⟩
    · rw [List.foldl_cons, cells]
      by_cases same : i = a
      · subst same
        rw [if_neg fresh, if_pos List.mem_cons_self, taken.cell]
      · rw [taken.others i same]
        simp [same]
    · have later : l.filter (fun i => asks i (read (f s a) i)) = l.filter (fun i => asks i (read s i)) :=
        List.filter_congr fun i m => by rw [taken.others i (ne_of_mem_of_not_mem m fresh)]
      rw [List.foldl_cons, handoffs, taken.handoffs, later, List.filter_cons]
      split <;> simp

/-- The changes of all the cells of a family. -/
theorem foldl_finRange_cellTaken (f : State → Fin n → State) (Stands : State → Prop) (s t : State)
    (all : t = (List.finRange n).foldl f s) (start : Stands s)
    (step : ∀ (t : State) (i : Fin n), Stands t → Stands (f t i) ∧ CellTaken read change asks handed i t (f t i)) :
    Stands t
    ∧ (∀ i, read t i = change i (read s i))
    ∧ t.handoffs = s.handoffs ++ ((List.finRange n).filter (fun i => asks i (read s i))).map handed := by
  obtain ⟨stands, cells, handoffs⟩ := foldl_cellTaken f Stands (List.finRange n) (List.nodup_finRange n) s start step
  rw [← all] at stands cells handoffs
  exact ⟨stands, fun i => (cells i).trans (if_pos (List.mem_finRange i)), handoffs⟩

end

end Sys2Proof.Machine

/-!
PROOFS. The power record of a screen (section 10.3): a screen lit by a Locked source, its no-signal timer, a switch, a change of a
source's state on the screens that show it, and the timer's expiry (R167, R168).
-/

namespace Sys2Proof.Machine

section
variable (sc : Screen) (s : State)

/-! ## One screen -/

/-- A screen is On after a screen wake, which is handed where it was Sleeping (R168). -/
theorem wakeScreen_eq : wakeScreen sc s = { s with
    handoffs := s.handoffs ++ (if (s.wkc.power.get sc).on = true then [] else [{ src := .wkc, cmd := .screenWake sc }])
    wkc := { s.wkc with power := s.wkc.power.set sc { s.wkc.power.get sc with on := true } } } := by
  by_cases on : (s.wkc.power.get sc).on = true
  · have same : ({ s.wkc.power.get sc with on := true } : PowerRecord) = s.wkc.power.get sc := by rw [← on]
    rw [wakeScreen, if_pos on, if_pos on, same, Tab.set_get_self, List.append_nil]
  · rw [wakeScreen, if_neg on, if_neg on]
    rfl

/-- A Sleeping screen is woken by what locks it, unless the desk is asleep (R168). -/
def wokenBy (asleep locked : Bool) (r : PowerRecord) : Bool := locked && !r.on && !asleep

/-- The no-signal timer of a screen, On or Sleeping, whose source is dark or not: it runs while the screen is On and dark (R167). -/
def noSignalTimer (s : State) (on dark : Bool) (r : PowerRecord) : Timer :=
  if on = true ∧ dark = true then
    (if r.noSignal = none then some (s.timebase + s.tables.desk.screenSleepDelay * 1000000) else r.noSignal)
  else none

/-- The power record of a screen whose source is Locked, dark or neither (R167, R168). -/
def poweredBy (s : State) (asleep locked dark : Bool) (r : PowerRecord) : PowerRecord :=
  { on := r.on || wokenBy asleep locked r, noSignal := noSignalTimer s (r.on || wokenBy asleep locked r) dark r }

theorem noSignalUpdate_eq (dark : Bool) : noSignalUpdate sc dark s = { s with
    wkc := { s.wkc with
      power := s.wkc.power.set sc
        { s.wkc.power.get sc with noSignal := noSignalTimer s (s.wkc.power.get sc).on dark (s.wkc.power.get sc) } } } := by
  have timer : (if ((s.wkc.power.get sc).on && dark) = true then
      (if (s.wkc.power.get sc).noSignal.isSome = true then (s.wkc.power.get sc).noSignal
        else s.after (ms (s.tables.desk.screenSleepDelay * 1000)))
      else none) = noSignalTimer s (s.wkc.power.get sc).on dark (s.wkc.power.get sc) := by
    cases running : (s.wkc.power.get sc).noSignal <;> simp [noSignalTimer, running, State.after, ms, Nat.mul_assoc]
  rw [← timer]
  rfl

/-- A screen whose source is Locked is woken, unless the desk is asleep, and its no-signal timer follows (R167, R168). -/
theorem wakeScreenAwake_noSignalUpdate (locked dark : Bool) :
    noSignalUpdate sc dark (if locked = true then wakeScreenAwake sc s else s) = { s with
      handoffs := s.handoffs ++
        (if wokenBy s.wkc.deskAsleep locked (s.wkc.power.get sc) = true then [{ src := .wkc, cmd := .screenWake sc }] else [])
      wkc := { s.wkc with
        power := s.wkc.power.set sc (poweredBy s s.wkc.deskAsleep locked dark (s.wkc.power.get sc)) } } := by
  cases woken : wokenBy s.wkc.deskAsleep locked (s.wkc.power.get sc) with
  | true =>
    obtain ⟨⟨lit, off⟩, awake⟩ : (locked = true ∧ (s.wkc.power.get sc).on = false) ∧ s.wkc.deskAsleep = false := by
      simpa [wokenBy] using woken
    rw [if_pos lit, wakeScreenAwake, if_neg (Bool.eq_false_iff.mp awake), wakeScreen_eq, noSignalUpdate_eq, off]
    simp only [Tab.get_set_self, Tab.set_set, poweredBy, woken, Bool.or_true, Bool.false_eq_true, if_true, if_false]
    rfl
  | false =>
    have unlit : (if locked = true then wakeScreenAwake sc s else s) = s := by
      by_cases lit : locked = true
      · rw [if_pos lit, wakeScreenAwake]
        by_cases asleep : s.wkc.deskAsleep = true
        · exact if_pos asleep
        · have on : (s.wkc.power.get sc).on = true := by simpa [wokenBy, lit, asleep] using woken
          rw [if_neg asleep, wakeScreen, if_pos on]
      · exact if_neg lit
    rw [unlit, noSignalUpdate_eq, if_neg Bool.false_ne_true, List.append_nil, poweredBy, woken, Bool.or_false]

theorem showsDark_congr {s t : State} (fmn : t.fmn = s.fmn) (v : Option Source) : t.showsDark v = s.showsDark v := by
  cases v <;> simp [State.showsDark, fmn]

/-- A switch is taken on the screen by what it switches onto. -/
theorem powerSwitch_eq (source : Option Source) : powerSwitch sc source s = { s with
    handoffs := s.handoffs ++
      (if wokenBy s.wkc.deskAsleep (s.showsLocked source) (s.wkc.power.get sc) = true then [{ src := .wkc, cmd := .screenWake sc }]
        else [])
    wkc := { s.wkc with
      power := s.wkc.power.set sc
        (poweredBy s s.wkc.deskAsleep (s.showsLocked source) (s.showsDark source) (s.wkc.power.get sc)) } } := by
  have woken : Keeps [.handoffs, .wkc] s (if s.showsLocked source then wakeScreenAwake sc s else s) := by simp
  rw [← wakeScreenAwake_noSignalUpdate, ← showsDark_congr (woken .fmn (by decide)) source]
  rfl

theorem powerSourceChange_eq (st : SourceState) : powerSourceChange st sc s = { s with
    handoffs := s.handoffs ++
      (if wokenBy s.wkc.deskAsleep (decide (st = .locked)) (s.wkc.power.get sc) = true then [{ src := .wkc, cmd := .screenWake sc }]
        else [])
    wkc := { s.wkc with
      power := s.wkc.power.set sc
        (poweredBy s s.wkc.deskAsleep (decide (st = .locked)) (decide (st = .noSignal)) (s.wkc.power.get sc)) } } := by
  rw [← wakeScreenAwake_noSignalUpdate]
  simp only [decide_eq_true_eq]
  rfl

end

/-! ## All the screens -/

/-- A state that differs in the screens' power records and the hand-offs alone. -/
def OnlyPower (s t : State) : Prop :=
  ∃ (power : Tab 8 PowerRecord) (handoffs : List Handoff), t = { s with handoffs := handoffs, wkc := { s.wkc with power := power } }

theorem OnlyPower.refl (s : State) : OnlyPower s s := ⟨_, _, rfl⟩

/-- A change of a source's state is taken on each screen that shows it, and on no other (R167, R168). -/
theorem powerStateChange_screens (v : Source) (st : SourceState) (s : State) :
    (∀ sc : Screen, (powerStateChange v st s).wkc.power.get sc =
      if s.active sc = some v then
        poweredBy s s.wkc.deskAsleep (decide (st = .locked)) (decide (st = .noSignal)) (s.wkc.power.get sc)
      else s.wkc.power.get sc)
    ∧ (powerStateChange v st s).handoffs = s.handoffs ++
      (allScreens.filter (fun sc =>
        decide (s.active sc = some v) && wokenBy s.wkc.deskAsleep (decide (st = .locked)) (s.wkc.power.get sc))).map
        (fun sc => { src := .wkc, cmd := .screenWake sc }) := by
  refine (foldl_finRange_cellTaken (read := fun (t : State) (sc : Screen) => t.wkc.power.get sc)
    (change := fun sc r => if s.active sc = some v then
      poweredBy s s.wkc.deskAsleep (decide (st = .locked)) (decide (st = .noSignal)) r else r)
    (asks := fun sc r => decide (s.active sc = some v) && wokenBy s.wkc.deskAsleep (decide (st = .locked)) r)
    (handed := fun sc => { src := .wkc, cmd := .screenWake sc }) _ (OnlyPower s) s _ rfl (.refl s) ?_).2
  rintro _ sc ⟨power, handoffs, rfl⟩
  split
  · next shows =>
    rw [powerSourceChange_eq]
    refine ⟨⟨_, _, rfl⟩, ?_, fun other apart => Tab.get_set_other _ apart _, ?_⟩
    · exact (Tab.get_set_self _ _ _).trans (if_pos shows).symm
    · rw [decide_eq_true shows, Bool.true_and]
  · next apart => exact ⟨⟨_, _, rfl⟩, .refl (if_neg apart) (by rw [decide_eq_false apart, Bool.false_and])⟩

/-! ## The statement -/

section
variable (sc : Screen) (s : State)

theorem exec_stateChangeAtWakeController (v : Source) (st : SourceState) : exec (.stateChangeAtWakeController v st) s =
    .next (powerStateChange v st (s.taking (.stateChangeAtWakeController v st))) := rfl

theorem exec_noSignalTimerExpiry :
    exec (.noSignalTimerExpiry sc) s = .next (s.onExpiry (s.wkc.power.get sc).noSignal (noSignalExpires sc)) := rfl

end

/-- Settles O46: the switch and the state change by what they make of the screen's power record, the expiry by its timer. -/
theorem screenPowerMoves : Obligations.ScreenPowerMoves := by
  intro sc s
  refine ⟨fun source => ?_, fun v st => ⟨_, exec_stateChangeAtWakeController s v st, ?_⟩, fun stopped => ?_, fun x running => ?_⟩
  · exact congrArg Host.Outcome.next (powerSwitch_eq sc (s.taking (.switchAtWakeController sc source)) source)
  · obtain ⟨records, handed⟩ := powerStateChange_screens v st (s.taking (.stateChangeAtWakeController v st))
    refine ⟨fun apart => (records sc).trans (if_neg apart), fun shows => ⟨(records sc).trans (if_pos shows), fun woken => ?_⟩⟩
    rw [handed]
    refine List.mem_append_right _ (List.mem_map.mpr ⟨sc, List.mem_filter.mpr ⟨List.mem_finRange sc, ?_⟩, rfl⟩)
    exact (Bool.and_eq_true _ _).mpr ⟨decide_eq_true shows, woken⟩
  · rw [exec_noSignalTimerExpiry, stopped, onExpiry_stopped]
  · rw [exec_noSignalTimerExpiry, running, onExpiry_running]
    rfl

end Sys2Proof.Machine

/-!
PROOFS. Desk Sleep and the desk-wake input (R169 to R171): a desk wake lights the screens of Locked sources one after another, then asks
the computers that own what a screen shows, and each of the two leaves the other's records alone.
-/

namespace Sys2Proof.Machine

/-! ## The screens of a desk wake (R170, step 3) -/

/-- Every screen of a Locked source takes a screen wake, in screen order. -/
def lightScreens (s : State) : State :=
  allScreens.foldl (fun s sc => if s.showsLocked (s.active sc) then wakeScreen sc s else s) s

/-- The screens of Locked sources are On, and each of them that was Sleeping is handed a screen wake. -/
theorem lightScreens_screens (s : State) :
    OnlyPower s (lightScreens s)
    ∧ (∀ sc : Screen, (lightScreens s).wkc.power.get sc =
      if s.showsLocked (s.active sc) = true then { s.wkc.power.get sc with on := true } else s.wkc.power.get sc)
    ∧ (lightScreens s).handoffs = s.handoffs ++
      (allScreens.filter (fun sc => !(s.wkc.power.get sc).on && s.showsLocked (s.active sc))).map
        (fun sc => { src := .wkc, cmd := .screenWake sc }) := by
  refine foldl_finRange_cellTaken (read := fun (t : State) (sc : Screen) => t.wkc.power.get sc)
    (change := fun sc r => if s.showsLocked (s.active sc) = true then { r with on := true } else r)
    (asks := fun sc r => !r.on && s.showsLocked (s.active sc))
    (handed := fun sc => { src := .wkc, cmd := .screenWake sc })
    (fun s sc => if s.showsLocked (s.active sc) then wakeScreen sc s else s) (OnlyPower s) s _ rfl (.refl s) ?_
  rintro _ sc ⟨power, handoffs, rfl⟩
  split
  · next locked =>
    rw [wakeScreen_eq]
    refine ⟨⟨_, _, rfl⟩, ?_, fun other apart => Tab.get_set_other _ apart _, ?_⟩
    · exact (Tab.get_set_self _ _ _).trans (if_pos locked).symm
    · have shown : s.showsLocked (s.active sc) = true := locked
      rw [shown, Bool.and_true]
      cases (power.get sc).on <;> rfl
  · next unlocked =>
    have dark : s.showsLocked (s.active sc) = false := Bool.eq_false_iff.mpr unlocked
    exact ⟨⟨_, _, rfl⟩, .refl (if_neg unlocked) (by rw [dark, Bool.and_false])⟩

/-! ## The computers of a desk wake (R162, R170, step 4) -/

/-- A state that differs in the ports' wake records and the hand-offs alone. -/
def OnlyWakes (s t : State) : Prop :=
  ∃ (wakes : Tab 6 WakeRecord) (handoffs : List Handoff), t = { s with handoffs := handoffs, wkc := { s.wkc with wakes := wakes } }

theorem OnlyWakes.refl (s : State) : OnlyWakes s s := ⟨_, _, rfl⟩

/-- What a wake request for a Suspended port hands (R162). -/
def wakeAnswer (s : State) (p : Port) : Handoff :=
  { src := .wkc, cmd := if (s.cpe.get p).wakeArmed = true then .wakeBegins p else .noticeRaise .wakeRefused }

theorem deskWakeAsks_suspended {s : State} {p : Port} (asks : deskWakeAsks s p = true) : (s.cpe.get p).linkState = .suspended := by
  simp only [deskWakeAsks, Bool.and_eq_true, decide_eq_true_eq] at asks
  obtain ⟨⟨_, suspended⟩, _⟩ := asks
  exact suspended

/-- The wake record of a Suspended port after a wake request. -/
def askedBy (armed : Bool) (w : WakeRecord) : WakeRecord := if w.phase = .idle ∧ armed = true then { w with phase := .asked } else w

/-- A wake request for a Suspended port asks an Idle one whose wake armed is on, refuses an Idle one whose wake armed is off, and
otherwise does nothing (R162). -/
theorem takeWakeRequest_suspended (p : Port) (s : State) (state : (s.cpe.get p).linkState = .suspended) : takeWakeRequest p s = { s with
    handoffs := s.handoffs ++ (if decide ((s.wkc.wakes.get p).phase = .idle) = true then [wakeAnswer s p] else [])
    wkc := { s.wkc with wakes := s.wkc.wakes.set p (askedBy (s.cpe.get p).wakeArmed (s.wkc.wakes.get p)) } } := by
  by_cases idle : (s.wkc.wakes.get p).phase = .idle
  · rw [decide_eq_true idle, if_pos rfl, wakeAnswer]
    cases armed : (s.cpe.get p).wakeArmed with
    | true =>
      have asked (w : WakeRecord) (idle : w.phase = .idle) : askedBy true w = { w with phase := .asked } := if_pos ⟨idle, rfl⟩
      rw [takeWakeRequest_armed p s idle state armed, asked _ idle]
      rfl
    | false =>
      have stands (w : WakeRecord) : askedBy false w = w := if_neg (fun h => Bool.false_ne_true h.2)
      rw [takeWakeRequest_disarmed p s idle state armed, stands, Tab.set_get_self]
      rfl
  · rw [takeWakeRequest_busy p s idle, decide_eq_false idle, if_neg Bool.false_ne_true, askedBy, if_neg (fun h => idle h.1),
      Tab.set_get_self, List.append_nil]

/-- Every port that a desk wake asks takes a wake request, in port order. -/
def askPorts (s : State) : State := allPorts.foldl (fun s p => if deskWakeAsks s p then takeWakeRequest p s else s) s

/-- The ports that are asked take their wake requests by their own wake records. -/
theorem askPorts_ports (s : State) :
    OnlyWakes s (askPorts s)
    ∧ (∀ p : Port, (askPorts s).wkc.wakes.get p =
      if deskWakeAsks s p = true then askedBy (s.cpe.get p).wakeArmed (s.wkc.wakes.get p) else s.wkc.wakes.get p)
    ∧ (askPorts s).handoffs = s.handoffs ++
      (allPorts.filter (fun p => deskWakeAsks s p && decide ((s.wkc.wakes.get p).phase = .idle))).map (wakeAnswer s) := by
  refine foldl_finRange_cellTaken (read := fun (t : State) (p : Port) => t.wkc.wakes.get p)
    (change := fun p w => if deskWakeAsks s p = true then askedBy (s.cpe.get p).wakeArmed w else w)
    (asks := fun p w => deskWakeAsks s p && decide (w.phase = .idle))
    (handed := wakeAnswer s) (fun s p => if deskWakeAsks s p then takeWakeRequest p s else s) (OnlyWakes s) s _ rfl (.refl s) ?_
  rintro _ p ⟨wakes, handoffs, rfl⟩
  split
  · next asks =>
    have asked : deskWakeAsks s p = true := asks
    rw [takeWakeRequest_suspended p _ (deskWakeAsks_suspended asks)]
    refine ⟨⟨_, _, rfl⟩, ?_, fun other apart => Tab.get_set_other _ apart _, ?_⟩
    · exact (Tab.get_set_self _ _ _).trans (if_pos asked).symm
    · rw [asked, Bool.true_and]
      rfl
  · next unasked =>
    have quiet : deskWakeAsks s p = false := Bool.eq_false_iff.mpr unasked
    exact ⟨⟨_, _, rfl⟩, .refl (if_neg unasked) (by rw [quiet, Bool.false_and])⟩

/-! ## The desk wake (R170) -/

/-- The ports that take a wake request in earnest at a desk wake: the Idle ones among those that it asks. -/
def deskWakeAsked (s : State) : List Port :=
  allPorts.filter (fun p => deskWakeAsks s p && decide ((s.wkc.wakes.get p).phase = .idle))

theorem deskWakeAsked_eq (s : State) : deskWakeAsked s = allPorts.filter (fun p =>
    s.tables.desk.deskWakeWakes && decide ((s.wkc.wakes.get p).phase = .idle)
    && decide ((s.cpe.get p).linkState = .suspended) && allScreens.any (fun sc => decide (s.screenOwner sc = some p))) := by
  refine List.filter_congr fun p _ => ?_
  rw [deskWakeAsks]
  ac_rfl

theorem mem_deskWakeAsked (s : State) (p : Port) :
    p ∈ deskWakeAsked s ↔ deskWakeAsks s p = true ∧ (s.wkc.wakes.get p).phase = .idle := by
  simp [deskWakeAsked, allPorts]

/-- What the ports asked make of their wake records, by the ports that are asked in earnest. -/
theorem askedBy_deskWakeAsked (s : State) (p : Port) :
    (if deskWakeAsks s p = true then askedBy (s.cpe.get p).wakeArmed (s.wkc.wakes.get p) else s.wkc.wakes.get p) =
      if p ∈ deskWakeAsked s ∧ (s.cpe.get p).wakeArmed = true then { s.wkc.wakes.get p with phase := .asked }
      else s.wkc.wakes.get p := by
  rw [askedBy, ← ite_and]
  exact if_congr (by rw [mem_deskWakeAsked, and_assoc]) rfl rfl

theorem deskWakes_eq (s : State) : deskWakes s =
    (askPorts (lightScreens (s.modWkc (fun w => { w with deskAsleep := false })))).raise .wkc .deskSleepChanged := rfl

/-- What a desk wake makes of the flag, of each screen's power and of each port's wake record, and what it hands, in that order. -/
theorem deskWakes_taken (s : State) :
    (deskWakes s).wkc.deskAsleep = false
    ∧ (∀ sc : Screen, (deskWakes s).wkc.power.get sc =
      if s.showsLocked (s.active sc) = true then { s.wkc.power.get sc with on := true } else s.wkc.power.get sc)
    ∧ (∀ p : Port, (deskWakes s).wkc.wakes.get p =
      if p ∈ deskWakeAsked s ∧ (s.cpe.get p).wakeArmed = true then { s.wkc.wakes.get p with phase := .asked }
      else s.wkc.wakes.get p)
    ∧ (deskWakes s).handoffs = s.handoffs
      ++ (allScreens.filter (fun sc => !(s.wkc.power.get sc).on && s.showsLocked (s.active sc))).map
        (fun sc => { src := .wkc, cmd := .screenWake sc })
      ++ (deskWakeAsked s).map (wakeAnswer s) ++ [{ src := .wkc, cmd := .noticeRaise .deskSleepChanged }] := by
  obtain ⟨lit, powers, woken⟩ := lightScreens_screens (s.modWkc (fun w => { w with deskAsleep := false }))
  obtain ⟨asked, wakes, answers⟩ := askPorts_ports (lightScreens (s.modWkc (fun w => { w with deskAsleep := false })))
  rw [deskWakes_eq]
  generalize lightScreens (s.modWkc (fun w => { w with deskAsleep := false })) = t at *
  generalize askPorts t = u at *
  obtain ⟨power, handoffs, rfl⟩ := lit
  obtain ⟨records, handed, rfl⟩ := asked
  refine ⟨rfl, powers, fun p => (wakes p).trans (askedBy_deskWakeAsked s p), ?_⟩
  refine congrArg (· ++ [{ src := .wkc, cmd := .noticeRaise .deskSleepChanged }]) (answers.trans ?_)
  exact congrArg (· ++ (deskWakeAsked s).map (wakeAnswer s)) woken

/-! ## The statement -/

/-- A desk-wake input asks for its key to be consumed, whatever the flag (R171). -/
def requestConsumed (k : Option Key) (s : State) : State :=
  { s with handoffs := s.handoffs ++ k.toList.map (fun k => { src := .wkc, cmd := .consumeRequest k }) }

/-- A desk-wake input hands its key, then wakes a desk that is asleep. -/
theorem deskWakeTaken_eq (k : Option Key) (s : State) :
    deskWakeTaken k s = if s.wkc.deskAsleep = true then deskWakes (requestConsumed k s) else requestConsumed k s := by
  cases k with
  | none =>
    have quiet : requestConsumed none s = s := by simp [requestConsumed]
    rw [quiet]
    rfl
  | some k => rfl

section
variable (s : State) (k : Option Key)

theorem exec_deskWakeInput_awake (awake : s.wkc.deskAsleep = false) :
    exec (.deskWakeInput k) s = .next (requestConsumed k (s.taking (.deskWakeInput k))) :=
  congrArg Host.Outcome.next ((deskWakeTaken_eq k (s.taking _)).trans (if_neg (Bool.eq_false_iff.mp awake)))

theorem exec_deskWakeInput_asleep (asleep : s.wkc.deskAsleep = true) :
    exec (.deskWakeInput k) s = .next (deskWakes (requestConsumed k (s.taking (.deskWakeInput k)))) :=
  congrArg Host.Outcome.next ((deskWakeTaken_eq k (s.taking _)).trans (if_pos asleep))

end

/-- Settles O47: Desk Sleep by the flag, and the desk-wake input as its key handed and then, of a desk that is asleep, the desk wake. -/
theorem deskSleepAndWake : Obligations.DeskSleepAndWake := by
  intro s
  refine ⟨fun asleep => ?_, fun awake => ?_, fun k => ?_⟩
  · exact congrArg Host.Outcome.next ((deskSleeps_eq (s.taking .deskSleepAction)).trans (if_pos asleep))
  · exact congrArg Host.Outcome.next ((deskSleeps_eq (s.taking .deskSleepAction)).trans (if_neg (Bool.eq_false_iff.mp awake)))
  · dsimp only
    rw [← deskWakeAsked_eq]
    have wakes := deskWakes_taken (requestConsumed k (s.taking (.deskWakeInput k)))
    cases k <;> exact ⟨exec_deskWakeInput_awake s _, fun asleep => ⟨_, exec_deskWakeInput_asleep s _ asleep, wakes⟩⟩

end Sys2Proof.Machine

/-!
PROOFS. The save of the settings: what starts one, what it refuses while it is in flight, and what its end leaves (R183, R184).
-/

namespace Sys2Proof.Machine

/-! ## A save or a restart taken (R183, R184) -/

section
variable (q : Request) (s : State) (managed : s.managed q.port = true)
include managed

/-- A Save Settings is BUSY when its port has a request in flight, and while a save is in flight (R175, R184). -/
theorem takeSave_busy (busy : s.mfe.inFlight.get q.port ≠ none ∨ s.mfe.save ≠ none) :
    takeSave q s = sendReply 15 q (plainReply .busy) s := by
  have taken : ((s.mfe.inFlight.get q.port).isSome || s.mfe.save.isSome) = true := by
    rw [Bool.or_eq_true, Option.isSome_iff_ne_none, Option.isSome_iff_ne_none]
    exact busy
  rw [takeSave, if_pos managed, if_pos taken]

theorem takeSave_free (idle : s.mfe.inFlight.get q.port = none) (free : s.mfe.save = none) : takeSave q s = startSave q s := by
  rw [takeSave, if_pos managed, idle, free]
  rfl

/-- A Desk Restart is BUSY when its port has a request in flight, and while a save is in flight (R175, R183). -/
theorem takeRestart_busy (busy : s.mfe.inFlight.get q.port ≠ none ∨ s.mfe.save ≠ none) :
    takeRestart q s = sendReply 16 q (plainReply .busy) s := by
  have taken : ((s.mfe.inFlight.get q.port).isSome || s.mfe.save.isSome) = true := by
    rw [Bool.or_eq_true, Option.isSome_iff_ne_none, Option.isSome_iff_ne_none]
    exact busy
  rw [takeRestart, if_pos managed, if_pos taken]

end

/-! ## The end of a save (R184) -/

theorem finishRequest_inFlight (p : Port) (r : Reply) (s : State) (f : InFlight) (flying : s.mfe.inFlight.get p = some f) :
    finishRequest p r s = sendReply f.kind f.request r (s.modMfe (fun m => { m with inFlight := m.inFlight.set p none })) := by
  rw [finishRequest, flying]

/-- The memory and the save record when a save has ended, before its request is answered (R184). -/
def saveEnded (outcome : SaveOutcome) (v : SaveInFlight) (s : State) : State :=
  { s with
    memory := savedMemory outcome v.prior s.tables
    mfe := { s.mfe with save := none, lastSave := if outcome = .success then .succeeded else .failed } }

theorem endSave_none (outcome : SaveOutcome) (s : State) (none : s.mfe.save = none) : endSave outcome s = s := by
  rw [endSave, none]

theorem endSave_some (outcome : SaveOutcome) (s : State) (v : SaveInFlight) (save : s.mfe.save = some v) :
    endSave outcome s = (finishRequest v.port (saveReply outcome) (saveEnded outcome v s)).raise .mfe .saveEnded := by
  rw [endSave, save]
  rfl

/-- The end of a save whose request is in flight: the memory as the outcome leaves it, the reply sent, and the notice raised (R184). -/
theorem endSave_answered (outcome : SaveOutcome) (s : State) (v : SaveInFlight) (q : Request) (save : s.mfe.save = some v)
    (flying : s.mfe.inFlight.get v.port = some { kind := 15, request := q }) (own : q.port = v.port)
    (enabled : (s.portEntry v.port).enabled = true) (up : (s.cpe.get v.port).link = .up) :
    endSave outcome s = { s with
      memory := savedMemory outcome v.prior s.tables
      mfe := { s.mfe with
        save := none, inFlight := s.mfe.inFlight.set v.port none
        lastSave := if outcome = .success then .succeeded else .failed }
      sent := s.sent ++ [.frame v.port (replyFrame 15 q (saveReply outcome))]
      handoffs := s.handoffs ++ [{ src := .mfe, cmd := .noticeRaise .saveEnded }] } := by
  rw [← own] at enabled up
  rw [endSave_some outcome s v save, finishRequest_inFlight v.port _ (saveEnded outcome v s) _ flying, ← own]
  exact congrArg (State.raise .mfe .saveEnded) (sendReply_eq 15 q _
    ((saveEnded outcome v s).modMfe (fun m => { m with inFlight := m.inFlight.set q.port none })) enabled up)

theorem savedMemory_success (prior : SettingsMemory) (t : Tables) : savedMemory .success prior t = { valid := true, image := t } := rfl

theorem savedMemory_failedAtClear (prior : SettingsMemory) (t : Tables) : savedMemory .failedAtClear prior t = prior := rfl

/-- A save that fails after its first step leaves no valid marker (R184). -/
theorem savedMemory_failedLater (outcome : SaveOutcome) (prior : SettingsMemory) (t : Tables) (failed : outcome ≠ .success)
    (later : outcome ≠ .failedAtClear) : (savedMemory outcome prior t).valid = false := by
  cases outcome with
  | success => exact absurd rfl failed
  | failedAtClear => exact absurd rfl later
  | failedAtTable k => rfl
  | failedAtMark => rfl

/-- Settles O53: what is taken during a save and before one, and the end of a save by its outcome. -/
theorem savesTaken : Obligations.SavesTaken := by
  unfold Obligations.SavesTaken
  refine ⟨fun q s managed idle => ⟨fun saving enabled up => ⟨?_, ?_⟩, fun free => ?_⟩,
    fun outcome s => ⟨fun none => ?_, ?_⟩⟩
  · exact congrArg Host.Outcome.next ((takeSave_busy q s managed (.inr saving)).trans (sendReply_eq 15 q _ s enabled up))
  · exact congrArg Host.Outcome.next ((takeRestart_busy q s managed (.inr saving)).trans (sendReply_eq 16 q _ s enabled up))
  · exact congrArg Host.Outcome.next (takeSave_free q s managed idle free)
  · exact congrArg Host.Outcome.next (endSave_none outcome s none)
  · intro v q save flying own enabled up
    refine ⟨_, congrArg Host.Outcome.next (endSave_answered outcome s v q save flying own enabled up), rfl, rfl, rfl, ?_, ?_, ?_⟩
    · rintro rfl
      exact savedMemory_success v.prior s.tables
    · rintro rfl
      exact savedMemory_failedAtClear v.prior s.tables
    · exact savedMemory_failedLater outcome v.prior s.tables

end Sys2Proof.Machine

/-!
PROOFS. Notices: the set, its reports to the managed ports, the pacing timer, and what a Read Notices, a Set Notice Mask and a write of
the desk record make of them (R179 to R181).
-/

namespace Sys2Proof.Machine

/-! ## A frame to each managed port (R97, R179) -/

/-- The ports of a list that have management and can be sent a frame. -/
def reportTargets (s : State) (l : List Port) : List Port :=
  l.filter (fun p => s.managed p && decide ((s.portEntry p).enabled = true ∧ (s.cpe.get p).link = .up))

/-- A frame handed to every managed port of a list is sent to those that can be sent it, and nothing else changes. -/
theorem foldl_sendFrame (s : State) (b : List Byte) (l : List Port) (x : List Sent) :
    l.foldl (fun t p => if s.managed p then t.sendFrame p b else t) { s with sent := x } =
      { s with sent := x ++ (reportTargets s l).map (fun p => .frame p b) } := by
  induction l generalizing x with
  | nil => simp [reportTargets]
  | cons p l ih =>
    rw [List.foldl_cons, reportTargets, List.filter_cons]
    by_cases managed : s.managed p = true
    · by_cases open_ : (s.portEntry p).enabled = true ∧ (s.cpe.get p).link = .up
      · have sends : ({ s with sent := x } : State).sendFrame p b = { s with sent := x ++ [.frame p b] } := if_pos open_
        rw [if_pos managed, sends, ih, if_pos (by simp [managed, open_]), List.map_cons, List.append_assoc]
        rfl
      · have drops : ({ s with sent := x } : State).sendFrame p b = { s with sent := x } := if_neg open_
        rw [if_pos managed, drops, ih, if_neg (by simp [open_])]
        rfl
    · rw [if_neg managed, ih, if_neg (by simp [managed])]
      rfl

theorem noticeReports_eq (s : State) : s.noticeReports =
    { s with sent := s.sent ++ (reportTargets s allPorts).map (fun p => .frame p (noticeFrame s.mfe.notices)) } :=
  foldl_sendFrame s (noticeFrame s.mfe.notices) allPorts s.sent

/-! ## A notice raised, and the pacing timer (R179, R180) -/

theorem startPacing_eq (s : State) : startPacing s = { s with
    mfe := { s.mfe with
      pacing := if s.tables.desk.noticePacing = 0 then s.mfe.pacing
        else some (s.timebase + s.tables.desk.noticePacing * 1000) } } := by
  unfold startPacing
  split <;> rfl

section
variable (k : NoticeKind) (s : State)

theorem takeNotice_again (joined : s.mfe.notices.get (noticeBit k) = true) : takeNotice k s = s := if_pos joined

theorem takeNotice_masked (new : s.mfe.notices.get (noticeBit k) = false) (masked : s.mfe.mask.get (noticeBit k) = false) :
    takeNotice k s = { s with mfe := { s.mfe with notices := s.mfe.notices.set (noticeBit k) true } } := by
  rw [takeNotice, if_neg (Bool.eq_false_iff.mp new)]
  exact if_neg (Bool.eq_false_iff.mp masked)

/-- A new kind that the mask holds is reported with the whole set, and pacing starts when it is on (R179, R180, log 37). -/
theorem takeNotice_reported (new : s.mfe.notices.get (noticeBit k) = false) (wanted : s.mfe.mask.get (noticeBit k) = true) :
    takeNotice k s = { s with
      sent := s.sent ++
        (reportTargets s allPorts).map (fun p => .frame p (noticeFrame (s.mfe.notices.set (noticeBit k) true)))
      mfe := { s.mfe with
        notices := s.mfe.notices.set (noticeBit k) true
        pacing := if s.tables.desk.noticePacing = 0 then s.mfe.pacing
          else some (s.timebase + s.tables.desk.noticePacing * 1000) } } := by
  rw [takeNotice, if_neg (Bool.eq_false_iff.mp new)]
  refine (if_pos wanted).trans ?_
  rw [noticeReports_eq, startPacing_eq]
  rfl

end

section
variable (s : State)

theorem pacingExpires_quiet (quiet : s.noticesWanted = false) : pacingExpires s = { s with mfe := { s.mfe with pacing := none } } :=
  if_neg (Bool.eq_false_iff.mp quiet)

/-- The set is sent again while it holds a kind that the mask holds (R180). -/
theorem pacingExpires_wanted (wanted : s.noticesWanted = true) : pacingExpires s = { s with
    sent := s.sent ++ (reportTargets s allPorts).map (fun p => .frame p (noticeFrame s.mfe.notices))
    mfe := { s.mfe with
      pacing := if s.tables.desk.noticePacing = 0 then none
        else some (s.timebase + s.tables.desk.noticePacing * 1000) } } := by
  refine (if_pos wanted).trans ?_
  rw [noticeReports_eq, startPacing_eq]
  rfl

end

/-- A stored desk record stops the pacing timer when it turns pacing off, and leaves the management state else (R180). -/
theorem storeDesk_mfe (e : DeskRecord) (s : State) :
    (storeDesk e s).mfe = if e.noticePacing = 0 then { s.mfe with pacing := none } else s.mfe := by
  have paced (x : State) (h : x.mfe = s.mfe) : (if e.noticePacing = 0 then x.modMfe (fun m => { m with pacing := none }) else x).mfe =
      if e.noticePacing = 0 then { s.mfe with pacing := none } else s.mfe := by
    split <;> simp [h]
  refine paced _ (Keeps.mfe (m := [.handoffs, .tables, .hkm, .xpc, .dms, .sou]) ?_)
  (repeat' split) <;> simp

/-- Settles O48: a raised kind and the expiry by the set and the mask, and the two requests and the write by what they serve. -/
theorem noticesTaken : Obligations.NoticesTaken := by
  unfold Obligations.NoticesTaken
  refine ⟨fun k s => ⟨fun joined => ?_, fun new masked => ?_, fun new wanted => ?_, fun stopped => ?_, fun x running => ?_⟩, ?_, ?_⟩
  · exact congrArg Host.Outcome.next (takeNotice_again k (s.taking (.noticeRaise k)) joined)
  · exact congrArg Host.Outcome.next (takeNotice_masked k (s.taking (.noticeRaise k)) new masked)
  · exact congrArg Host.Outcome.next (takeNotice_reported k (s.taking (.noticeRaise k)) new wanted)
  · refine congrArg Host.Outcome.next (show s.onExpiry s.mfe.pacing pacingExpires = s from ?_)
    rw [stopped, onExpiry_stopped]
  · refine congrArg Host.Outcome.next (show s.onExpiry s.mfe.pacing pacingExpires = _ from ?_)
    rw [running, onExpiry_running]
    cases wanted : s.noticesWanted with
    | false =>
      rw [pacingExpires_quiet (s.reach x) wanted]
      simp [State.reach]
    | true =>
      rw [pacingExpires_wanted (s.reach x) wanted]
      by_cases off : (s.reach x).tables.desk.noticePacing = 0
      · rw [if_pos off, if_neg (fun h => h.2 off)]
        rfl
      · rw [if_neg off, if_pos ⟨rfl, off⟩]
        rfl
  · intro q mask s managed idle enabled up
    constructor
    · have taken : exec (.readNotices q) s = .next (serve 12 q readNoticesNow s) := rfl
      exact request_answered managed idle enabled up taken [.mfe] (by simp [readNoticesNow])
    · have taken : exec (.setNoticeMask q mask) s =
          .next (serve 13 q (fun s => (s.modMfe (fun m => { m with mask := mask }), plainReply .ok)) s) := rfl
      exact request_answered managed idle enabled up taken [.mfe] (by simp)
  · intro q w s served index e ok fits
    refine ⟨_, exec_writeDeskRecord_stored q w s served index e ok fits, ?_⟩
    generalize ({ status := .ok, clamped := e.2, saveFailed := false, payload := [] } : Reply) = r
    have replied : Keeps [.sent] (storeDesk e.1 s) (sendReply 2 q r (storeDesk e.1 s)) := by simp
    rw [replied.mfe, storeDesk_mfe]

end Sys2Proof.Machine

/-!
PROOFS. What is ignored, what is BUSY and what is BADREQ (R174, R175): the requests are refused alike, each by its transaction.
-/

namespace Sys2Proof.Machine

/-! ## The two ways in which a request is refused -/

/-- A request is ignored of a port that is not Active or has no management (R174), and BUSY while its port has another in flight
(R175). -/
structure Refused (c : Instr) (kind : Nat) (q : Request) (s : State) : Prop where
  ignored : s.managed q.port = false → exec c s = .next s
  busy : s.managed q.port = true → s.mfe.inFlight.get q.port ≠ none → exec c s = .next (sendReply kind q (plainReply .busy) s)

section
variable (kind : Nat) (q : Request) (s : State)

theorem serve_ignored (f : State → State × Reply) (unmanaged : s.managed q.port = false) : serve kind q f s = s :=
  if_neg (Bool.eq_false_iff.mp unmanaged)

theorem takeSave_ignored (unmanaged : s.managed q.port = false) : takeSave q s = s := if_neg (Bool.eq_false_iff.mp unmanaged)

theorem takeRestart_ignored (unmanaged : s.managed q.port = false) : takeRestart q s = s := if_neg (Bool.eq_false_iff.mp unmanaged)

theorem answerBad_ignored (unmanaged : s.managed q.port = false) : answerBad kind q s = s := if_neg (Bool.eq_false_iff.mp unmanaged)

theorem answerBad_managed (managed : s.managed q.port = true) : answerBad kind q s = sendReply kind q (plainReply .badreq) s :=
  if_pos managed

end

section
variable {c : Instr} {kind : Nat} {q : Request} {s : State}

theorem refused_of_serve (f : State → State × Reply) (taken : exec c s = .next (serve kind q f s)) : Refused c kind q s where
  ignored unmanaged := taken.trans (congrArg Host.Outcome.next (serve_ignored kind q s f unmanaged))
  busy managed flying := taken.trans (congrArg Host.Outcome.next (serve_busy kind q f s managed flying))

theorem refused_saveSettings : Refused (.saveSettings q) 15 q s where
  ignored unmanaged := congrArg Host.Outcome.next (takeSave_ignored q s unmanaged)
  busy managed flying := congrArg Host.Outcome.next (takeSave_busy q s managed (.inl flying))

theorem refused_deskRestart : Refused (.deskRestart q) 16 q s where
  ignored unmanaged := congrArg Host.Outcome.next (takeRestart_ignored q s unmanaged)
  busy managed flying := congrArg Host.Outcome.next (takeRestart_busy q s managed (.inl flying))

end

/-! ## Reads that name a table or a section (log 21) -/

theorem readTable_eq_none (t : Tables) (table number : Nat) : readTable t table number = none ↔ ¬(1 ≤ table ∧ table ≤ 6) := by
  match table with
  | 0 => simp [readTable]
  | 1 | 2 | 3 | 4 | 5 | 6 => simp [readTable]
  | n + 7 => simp [readTable]

theorem sectionBytes_eq_none (s : State) (number : Nat) : sectionBytes s number = none ↔ ¬(1 ≤ number ∧ number ≤ 7) := by
  match number with
  | 0 => simp [sectionBytes]
  | 1 | 2 | 3 | 4 | 5 | 6 | 7 => simp [sectionBytes]
  | n + 8 => simp [sectionBytes]

section
variable (q : Request) (s : State)

theorem exec_readEntry {b : Option (List Byte)} (named : readTable s.tables q.arg1 q.arg2 = some b) :
    exec (.readEntry q) s = .next (serve 1 q (fun s => (s, bytesOrRange b)) s) := by
  change execReadEntry q s = _
  rw [execReadEntry, named]

theorem exec_readState {b : List Byte} (named : sectionBytes s q.arg1 = some b) :
    exec (.readState q) s = .next (serve 11 q (fun s => (s, bytesOrRange (sectionPart b q.arg2))) s) := by
  change execReadState q s = _
  rw [execReadState, named]

theorem refused_readEntry (named : 1 ≤ q.arg1 ∧ q.arg1 ≤ 6) : Refused (.readEntry q) 1 q s := by
  obtain ⟨b, bytes⟩ := Option.ne_none_iff_exists'.mp (fun none => (readTable_eq_none s.tables q.arg1 q.arg2).mp none named)
  exact refused_of_serve _ (exec_readEntry q s bytes)

theorem refused_readState (named : 1 ≤ q.arg1 ∧ q.arg1 ≤ 7) : Refused (.readState q) 11 q s := by
  obtain ⟨b, bytes⟩ := Option.ne_none_iff_exists'.mp (fun none => (sectionBytes_eq_none s q.arg1).mp none named)
  exact refused_of_serve _ (exec_readState q s bytes)

/-! ## Every request -/

/-- Every request but the two reads, which must name a table or a section, each with its kind (R187). -/
def ordinaryRequests (desk : RawDesk) (port : RawPort) (source : RawSource) (screen : RawScreen) (layout : RawLayout) (hotkey : RawHotkey)
    (mask : NoticeSet) : List (Instr × Nat) :=
  [(.writeDeskRecord q desk, 2), (.writePortEntry q port, 2), (.writeSourceEntry q source, 2),
    (.writeScreenEntry q screen, 2), (.writeLayoutEntry q layout, 2), (.writeHotkeyEntry q hotkey, 2),
    (.routeScreen q, 3), (.recallLayout q, 4), (.setFocus q, 5), (.setShareOff q, 6), (.setShareFollow q, 6),
    (.setShareFixed q, 6), (.wake q, 7), (.deskSleep q, 8), (.holdRoutes q, 9), (.releaseRoutes q, 10),
    (.readNotices q, 12), (.setNoticeMask q mask, 13), (.readCountersLatch q, 14), (.readCountersLatchAndClear q, 14),
    (.readCountersRepeat q, 14), (.saveSettings q, 15), (.deskRestart q, 16)]

theorem refused_ordinaryRequests (desk : RawDesk) (port : RawPort) (source : RawSource) (screen : RawScreen) (layout : RawLayout)
    (hotkey : RawHotkey) (mask : NoticeSet) :
    ∀ x ∈ ordinaryRequests q desk port source screen layout hotkey mask, Refused x.1 x.2 q s := by
  simp only [ordinaryRequests, List.forall_mem_cons]
  have served {c : Instr} {kind : Nat} {f : State → State × Reply} := refused_of_serve (c := c) (kind := kind) (q := q) (s := s) f
  exact ⟨served rfl, served rfl, served rfl, served rfl, served rfl, served rfl, served rfl, served rfl, served rfl, served rfl,
    served rfl, served rfl, served rfl, served rfl, served rfl, served rfl, served rfl, served rfl, served rfl, served rfl, served rfl,
    refused_saveSettings, refused_deskRestart, List.forall_mem_nil _⟩

end

/-- Settles O49: a frame that is no request by its answer, and each request by the two ways in which it is refused. -/
theorem requestsRefused : Obligations.RequestsRefused := by
  intro q s desk port source screen layout hotkey mask kind requests answered
  have refused : ∀ x ∈ requests, Refused x.1 x.2 q s := by
    refine List.forall_mem_append.mpr ⟨List.forall_mem_append.mpr
      ⟨refused_ordinaryRequests q s desk port source screen layout hotkey mask, ?_⟩, ?_⟩
    · split
      · next named => exact List.forall_mem_singleton.mpr (refused_readEntry q s named)
      · exact List.forall_mem_nil _
    · split
      · next named => exact List.forall_mem_singleton.mpr (refused_readState q s named)
      · exact List.forall_mem_nil _
  refine ⟨fun unmanaged => ⟨?_, fun x mem => (refused x mem).ignored unmanaged⟩,
    fun managed enabled up => ⟨?_, fun flying x mem => ?_⟩⟩
  · exact congrArg Host.Outcome.next (answerBad_ignored kind q s unmanaged)
  · exact congrArg Host.Outcome.next ((answerBad_managed kind q s managed).trans (sendReply_eq kind q _ s enabled up))
  · exact ((refused x mem).busy managed flying).trans (congrArg Host.Outcome.next (sendReply_eq x.2 q _ s enabled up))

end Sys2Proof.Machine

/-!
PROOFS. The reads served (R177, R178, R182): what each answers, the bytes of the six entries, and the bytes of the seven sections.
-/

namespace Sys2Proof.Machine

/-! ## The live counters (R182) -/

/-- A table of a list's members is the list. -/
theorem map_getD_finRange {n : Nat} (l : List Nat) (size : l.length = n) : (List.finRange n).map (fun i => l[i.val]?.getD 0) = l := by
  subst size
  refine (List.map_congr_left fun i _ => ?_).trans (List.map_get_finRange l)
  rw [List.getElem?_eq_getElem i.isLt]
  rfl

theorem cells_eq_map_get {n : Nat} {α : Type} (t : Tab n α) : t.cells = (List.finRange n).map t.get := by
  obtain ⟨cells, size⟩ := t
  subst size
  exact (List.map_get_finRange cells).symm

theorem liveCounters_eq (s : State) : s.liveCounters =
    allPorts.flatMap (fun p =>
      [(s.cpe.get p).counters.keysCoalesced, (s.cpe.get p).counters.clicksCoalesced, (s.cpe.get p).counters.keysDiscarded,
        (s.cpe.get p).counters.stalls])
    ++ [s.hkm.misses, s.xpc.pendingReplaced, s.xpc.layoutsSuperseded] := by
  rw [State.liveCounters, cells_eq_map_get s.cpe, List.flatMap_map]
  rfl

theorem counterTable_cells (s : State) : s.counterTable.cells = s.liveCounters :=
  map_getD_finRange s.liveCounters (by rw [liveCounters_eq]; rfl)

/-- A port's engine once its counters are cleared (R182). -/
def Cpe.cleared (e : Cpe) : Cpe :=
  { e with counters := { keysCoalesced := 0, clicksCoalesced := 0, keysDiscarded := 0, stalls := 0 } }

theorem clearCounters_cpe (s : State) (p : Port) : s.clearCounters.cpe.get p = (s.cpe.get p).cleared :=
  (foldl_modCpe_get Cpe.cleared allPorts (List.nodup_finRange 6) s p).trans (if_pos (List.mem_finRange p))

theorem clearCounters_xpc (s : State) :
    s.clearCounters.xpc = { s.xpc with pendingReplaced := 0, layoutsSuperseded := 0 } := by
  have keeps : Keeps [.cpe] s (allPorts.foldl (fun s p => s.modCounters p (fun _ =>
      { keysCoalesced := 0, clicksCoalesced := 0, keysDiscarded := 0, stalls := 0 })) s) := by simp
  have xpc := keeps .xpc (by decide)
  exact congrArg (fun x : Xpc => { x with pendingReplaced := 0, layoutsSuperseded := 0 }) xpc

/-! ## The reads served -/

/-- The reply of a part of a section, and RANGE beyond the last (R178). -/
theorem bytesOrRange_sectionPart (b : List Byte) (part : Nat) : bytesOrRange (sectionPart b part) =
    if part * 56 < b.length then payloadReply (padTo 56 (b.drop (part * 56))) else plainReply .range := by
  unfold sectionPart
  split <;> rfl

section
variable (q : Request) (s : State) (managed : s.managed q.port = true) (idle : s.mfe.inFlight.get q.port = none)
  (enabled : (s.portEntry q.port).enabled = true) (up : (s.cpe.get q.port).link = .up)
include managed idle enabled up

theorem readEntry_served (b : Option (List Byte)) (named : readTable s.tables q.arg1 q.arg2 = some b) :
    exec (.readEntry q) s = .next { s with sent := s.sent ++ [.frame q.port (replyFrame 1 q (bytesOrRange b))] } :=
  request_answered managed idle enabled up (exec_readEntry q s named) [] (Keeps.refl [] s)

theorem readState_served (b : List Byte) (named : sectionBytes s q.arg1 = some b) :
    exec (.readState q) s =
      .next { s with sent := s.sent ++ [.frame q.port (replyFrame 11 q (bytesOrRange (sectionPart b q.arg2)))] } :=
  request_answered managed idle enabled up (exec_readState q s named) [] (Keeps.refl [] s)

theorem readCountersLatch_served : exec (.readCountersLatch q) s = .next { s with
    sent := s.sent ++ [.frame q.port (replyFrame 14 q (payloadReply (s.counterTable.cells.flatMap num2)))]
    mfe := { s.mfe with snapshot := s.counterTable } } := by
  have taken : exec (.readCountersLatch q) s =
      .next (serve 14 q (fun s => (latchCounters s, snapshotReply (latchCounters s))) s) := rfl
  exact request_answered managed idle enabled up taken [.mfe] (by simp)

theorem readCountersRepeat_served : exec (.readCountersRepeat q) s = .next { s with
    sent := s.sent ++ [.frame q.port (replyFrame 14 q (if q.arg1 = 2 then snapshotReply s else plainReply .range))] } := by
  have taken : exec (.readCountersRepeat q) s =
      .next (serve 14 q (fun s => (s, if q.arg1 = 2 then snapshotReply s else plainReply .range)) s) := rfl
  exact request_answered managed idle enabled up taken [] (Keeps.refl [] s)

/-- Latch and clear sends the counters as they were, and leaves every live one at 0 (R182). -/
theorem readCountersLatchAndClear_served : ∃ t, exec (.readCountersLatchAndClear q) s = .next t
    ∧ t.sent = s.sent ++ [.frame q.port (replyFrame 14 q (payloadReply (s.counterTable.cells.flatMap num2)))]
    ∧ t.mfe = { s.mfe with snapshot := s.counterTable }
    ∧ (∀ p : Port, (t.cpe.get p).counters = { keysCoalesced := 0, clicksCoalesced := 0, keysDiscarded := 0, stalls := 0 })
    ∧ t.hkm = { s.hkm with misses := 0 } ∧ t.xpc = { s.xpc with pendingReplaced := 0, layoutsSuperseded := 0 } := by
  have taken : exec (.readCountersLatchAndClear q) s =
      .next (serve 14 q (fun s => ((latchCounters s).clearCounters, snapshotReply (latchCounters s))) s) := rfl
  have keeps : Keeps [.cpe, .hkm, .xpc] (latchCounters s) (latchCounters s).clearCounters := by simp
  have entry : ((latchCounters s).clearCounters.portEntry q.port).enabled = true := by
    rw [State.portEntry, keeps.tables]
    exact enabled
  have link : ((latchCounters s).clearCounters.cpe.get q.port).link = .up := by
    rw [clearCounters_cpe]
    exact up
  refine ⟨_, taken.trans (congrArg Host.Outcome.next ((serve_free 14 q _ s managed idle).trans (sendReply_eq 14 q _ _ entry link))),
    ?_, keeps.mfe, fun p => congrArg Cpe.counters (clearCounters_cpe (latchCounters s) p), clearCounters_hkm (latchCounters s),
    clearCounters_xpc (latchCounters s)⟩
  exact congrArg (· ++ [Sent.frame q.port (replyFrame 14 q (snapshotReply (latchCounters s)))]) (keeps .sent (by decide))

end

/-! ## The six tables by their numbers (R177) -/

section
variable (t : Tables)

theorem readTable_desk : readTable t 1 1 = some (some (deskBytes t.desk)) := rfl

theorem readTable_port (p : Port) : readTable t 2 (p.val + 1) = some (some (portBytes (t.ports.get p))) := by
  rw [readTable, numbered_succ]
  rfl

theorem readTable_source (v : Source) : readTable t 3 (v.val + 1) = some (some (sourceBytes (t.sources.get v))) := by
  rw [readTable, numbered_succ]
  rfl

theorem readTable_screen (sc : Screen) : readTable t 4 (sc.val + 1) = some (some (screenBytes (t.screens.get sc))) := by
  rw [readTable, numbered_succ]
  rfl

theorem readTable_layout (l : LayoutNo) : readTable t 5 (l.val + 1) = some (some (layoutBytes (t.layouts.get l))) := by
  rw [readTable, numbered_succ]
  rfl

theorem readTable_hotkey (n : EntryNo) : readTable t 6 (n.val + 1) = some (some (hotkeyBytes (t.hotkeys.get n))) := by
  rw [readTable, numbered_succ]
  rfl

/-- Each table ends with its last entry (R177). -/
theorem readTable_beyond (number : Nat) (x : Nat × Nat) (table : x ∈ [(1, 1), (2, 6), (3, 16), (4, 8), (5, 16), (6, 32)])
    (beyond : ¬(1 ≤ number ∧ number ≤ x.2)) : readTable t x.1 number = some none := by
  have out := (numbered_eq_none x.2 number).mpr beyond
  simp only [List.mem_cons, List.not_mem_nil, or_false] at table
  rcases table with rfl | rfl | rfl | rfl | rfl | rfl <;> rw [readTable, out] <;> rfl

end

/-! ## Fields as single bytes (R186, R187) -/

/-- The byte of an on/off field. -/
def onByte (x : Bool) : Byte := if x then 1 else 0

theorem flagByte_bytes : flagByte = fun x => [onByte x] := by
  funext x
  cases x <;> rfl

/-- The byte of none or of a member numbered from 1 (log 18). -/
def memberByte {n : Nat} (o : Option (Fin n)) : Byte :=
  match o with
  | none => 0
  | some i => BitVec.ofNat 8 (i.val + 1)

theorem noneOrByte_bytes {n : Nat} : (noneOrByte : Option (Fin n) → List Byte) = fun o => [memberByte o] := by
  funext o
  cases o <;> rfl

theorem num1_off (x : Bool) : num1 (if x then 0 else 1) = [onByte (!x)] := by cases x <;> rfl

theorem flatMap_num1 {α : Type} (f : α → Nat) (l : List α) : l.flatMap (fun x => num1 (f x)) = l.map (fun x => BitVec.ofNat 8 (f x)) :=
  List.map_eq_flatMap.symm

theorem pendingBytes_bytes : pendingBytes = fun p =>
    memberByte p.target :: (num2 p.line ++ (num1 (routeCauseNum p.cause) ++ onByte p.quiet :: num2 p.number)) := by
  funext p
  simp only [pendingBytes, flagByte_bytes, noneOrByte_bytes, List.append_assoc, List.cons_append, List.nil_append]

/-- The four fields of a share mode, each optional one with its presence byte (log 17). -/
theorem shareModeBytes_bytes (m : ShareMode) : shareModeBytes m =
    match m with
    | .off => [0, 0, 0, 0]
    | .follow sc v => [1, 1, BitVec.ofNat 8 (sc.val + 1), 0, 1, memberByte v]
    | .fixed v => [2, 0, 1, BitVec.ofNat 8 (v.val + 1), 0] := by
  cases m with
  | off => rfl
  | follow sc v => cases v <;> rfl
  | fixed v => rfl

-- A stated `match` and the model's own are one once their matchers are unfolded, which smart unfolding leaves alone.
set_option smartUnfolding false in
/-- Settles O50: each read by what it answers, the tables by their numbers, the counters by their order, and each section and entry by
its fields in order. -/
theorem readsServed : Obligations.ReadsServed := by
  refine ⟨fun q s managed idle enabled up => ⟨fun b named => ?_, fun b named => ?_, ?_, ?_, ?_⟩, fun t number => ?_,
    fun s => (counterTable_cells s).trans (liveCounters_eq s), fun s => ?_, ?_⟩
  · rw [readEntry_served q s managed idle enabled up b named]
    cases b <;> rfl
  · rw [readState_served q s managed idle enabled up b named, bytesOrRange_sectionPart]
  · exact readCountersLatch_served q s managed idle enabled up
  · exact readCountersLatchAndClear_served q s managed idle enabled up
  · exact readCountersRepeat_served q s managed idle enabled up
  · exact ⟨readTable_desk t, readTable_port t, readTable_source t, readTable_screen t, readTable_layout t, readTable_hotkey t,
      readTable_beyond t number, fun table => readTable_eq_none t table number⟩
  · dsimp only
    refine ⟨?_, ?_, ?_, ?_, ?_, ?_, ?_, ?_, ?_, ?_, ?_, ?_, ?_⟩
    · simp only [sectionBytes, consoleSection, flagByte_bytes]
      rfl
    · simp only [sectionBytes, focusSection, flagByte_bytes, noneOrByte_bytes, posBytes, List.append_assoc]
      rfl
    · simp only [sectionBytes, portsSection, flagByte_bytes]
      rfl
    · simp only [sectionBytes, sourcesSection, sourceBytes, flagByte_bytes, noneOrByte_bytes, List.append_assoc]
      rfl
    · simp only [sectionBytes, screensSection, pendingBytes_bytes, flagByte_bytes, noneOrByte_bytes, num1_off, List.append_assoc,
        List.cons_append]
      rfl
    · simp only [sectionBytes, sharesSection, flagByte_bytes, noneOrByte_bytes, shareModeBytes_bytes, List.append_assoc]
      rfl
    · simp only [sectionBytes, settingsSection, flagByte_bytes]
      rfl
    · intro e
      simp only [deskBytes_eq, flagByte_bytes, num1, num2, numberByte, List.cons_append, List.nil_append]
      rfl
    · intro e
      simp only [portBytes, flagByte_bytes]
      rfl
    · intro e
      simp only [sourceBytes, flagByte_bytes, noneOrByte_bytes]
      rfl
    · intro e
      simp only [screenBytes, flagByte_bytes]
      rfl
    · intro e
      simp only [layoutBytes, flatMap_num1]
      rfl
    · intro e
      simp only [hotkeyBytes, flagByte_bytes, flatMap_num1]
      rfl
  · exact ⟨rfl, rfl, rfl, rfl, rfl, rfl, rfl, rfl, rfl⟩

end Sys2Proof.Machine

/-!
PROOFS. A command of one port, source, screen or wake record leaves those of the others as they stand, and no command touches a field
that is not listed for it.
-/

namespace Sys2Proof

/-! ## One cell of a table -/

/-- From one table to another no cell but that of one index changes. -/
def Tab.OnlyCell {n : Nat} {α : Type} (i : Fin n) (t u : Tab n α) : Prop := ∃ a : α, u = t.set i a

section
variable {n : Nat} {α : Type} {i : Fin n} {t u v : Tab n α}

theorem Tab.OnlyCell.refl (i : Fin n) (t : Tab n α) : OnlyCell i t t := ⟨t.get i, (Tab.set_get_self t i).symm⟩

theorem Tab.OnlyCell.trans (h : OnlyCell i t u) (k : OnlyCell i u v) : OnlyCell i t v := by
  obtain ⟨a, rfl⟩ := h
  obtain ⟨b, rfl⟩ := k
  exact ⟨b, Tab.set_set t i a b⟩

theorem Tab.OnlyCell.other (h : OnlyCell i t u) {j : Fin n} (other : j ≠ i) : u.get j = t.get j := by
  obtain ⟨a, rfl⟩ := h
  exact Tab.get_set_other t other a

end

end Sys2Proof

namespace Sys2Proof.Machine

/-! ## Expiries -/

/-- What holds when the timer is stopped and after the expiry of one that runs holds after an expiry row. -/
theorem onExpiry_invariant (P : State → Prop) (timer : Timer) (f : State → State) (s : State) (stopped : P s)
    (expired : ∀ e : Nat, P (f (s.reach e))) : P (s.onExpiry timer f) := by
  cases timer with
  | none => exact stopped
  | some e => exact expired e

/-! ## Commands of one port (chapter 5) -/

section
variable {p : Port} {s t u : State}

theorem OnlyPort.ite {c : Prop} [Decidable c] (yes : OnlyPort p s t) (no : OnlyPort p s u) : OnlyPort p s (if c then t else u) := by
  split
  · exact yes
  · exact no

/-- What leaves every port alone leaves the other ports alone. -/
theorem OnlyPort.of_keeps {m : List StateField} (k : Keeps m s t) (out : .cpe ∉ m := by decide) : OnlyPort p s t :=
  ⟨s.cpe.get p, (k .cpe out).trans (Tab.set_get_self _ _).symm⟩

theorem OnlyPort.onLink {f : State → State} (event : OnlyPort p s (f s)) : OnlyPort p s (s.onLink f) := .ite (.refl p s) event

end

section
variable (p : Port) (s : State)

theorem onlyPort_modCpe (f : Cpe → Cpe) : OnlyPort p s (s.modCpe p f) := ⟨f (s.cpe.get p), rfl⟩

theorem onlyPort_send (o : Sent) : OnlyPort p s (s.send o) := .of_keeps (m := [.sent]) (by simp)

theorem onlyPort_hand (b : Block) (c : Instr) : OnlyPort p s (s.hand b c) := .of_keeps (m := [.handoffs]) (by simp)

theorem onlyPort_raise (b : Block) (k : NoticeKind) : OnlyPort p s (s.raise b k) := .of_keeps (m := [.handoffs]) (by simp)

theorem onlyPort_taking (c : Instr) : OnlyPort p s (s.taking c) := .of_keeps (m := [.handoffs]) (by simp)

theorem onlyPort_reach (n : Nat) : OnlyPort p s (s.reach n) := .of_keeps (m := [.timebase]) (by simp)

theorem onlyPort_modCounters (f : PortCounters → PortCounters) : OnlyPort p s (s.modCounters p f) := onlyPort_modCpe p s _

theorem onlyPort_startStall : OnlyPort p s (startStall p s) := onlyPort_modCpe p s _

theorem onlyPort_startStallIf (before : Cpe) : OnlyPort p s (startStallIf before p s) := .ite (onlyPort_startStall p s) (.refl p s)

theorem onlyPort_queueSnapshot (x : Snapshot) : OnlyPort p s (queueSnapshot p x s) :=
  .ite ((onlyPort_modCpe p s _).trans (onlyPort_startStallIf p _ _))
    ((onlyPort_modCpe p s _).trans ((onlyPort_modCounters p _ _).trans (onlyPort_raise p _ _ _)))

theorem onlyPort_queueReport (r : PointerReport) : OnlyPort p s (queueReport p r s) := by
  have join : OnlyPort p s
      (startStallIf (s.cpe.get p) p (s.modCpe p (fun e => { e with pointerQueue := e.pointerQueue ++ [r] }))) :=
    (onlyPort_modCpe p s _).trans (onlyPort_startStallIf p _ _)
  unfold queueReport
  dsimp only
  split
  · exact join
  · exact .ite (onlyPort_modCpe p s _) (.ite join
      ((onlyPort_modCpe p s _).trans ((onlyPort_modCounters p _ _).trans (onlyPort_raise p _ _ _))))

/-- A change of the port's record and then a change of its link state (R82). -/
theorem onlyPort_modCpe_moveLink (f : Cpe → Cpe) (st : LinkState) : OnlyPort p s (moveLink p st (s.modCpe p f)) :=
  (onlyPort_modCpe p s f).trans (onlyPort_moveLink p _ st)

theorem onlyPort_setLamps (lamps : Lamps) : OnlyPort p s (setLamps p lamps s) :=
  .ite (.refl p s) ((onlyPort_modCpe p s _).trans (onlyPort_hand p _ _ _))

theorem onlyPort_linkDown : OnlyPort p s (linkDown p s) :=
  (onlyPort_modCpe p s _).trans ((onlyPort_setLamps p _ _).trans (onlyPort_modCpe_moveLink p _ emptied .detached))

theorem onlyPort_linkUp : OnlyPort p s (linkUp p s) :=
  have detached : OnlyPort p s (if (s.cpe.get p).linkState = .detached then s else linkDown p s) := .ite (.refl p s) (onlyPort_linkDown p s)
  detached.trans ((onlyPort_modCpe p _ _).trans (onlyPort_retake p _))

theorem onlyPort_linkSuspend : OnlyPort p s (linkSuspend p s) := by
  refine (onlyPort_modCpe p s (fun e => { e with link := .asleep })).trans ?_
  unfold linkSuspend
  dsimp only
  split
  case h_1 => exact onlyPort_modCpe_moveLink p _ _ _
  case h_2 | h_3 | h_4 => exact onlyPort_modCpe_moveLink p _ flushed _
  all_goals exact .refl p _

theorem onlyPort_linkResume : OnlyPort p s (linkResume p s) := by
  refine (onlyPort_modCpe p s (fun e => { e with link := .up })).trans ?_
  unfold linkResume
  dsimp only
  split
  case h_1 | h_2 => exact onlyPort_moveLink p _ _
  all_goals exact .refl p _

theorem onlyPort_pollStall : OnlyPort p s (pollStall p s) := .ite (onlyPort_modCpe p s _) (onlyPort_startStall p s)

theorem onlyPort_answerKeyboard : OnlyPort p s (answerKeyboard p s) :=
  (onlyPort_modCpe p s _).trans ((onlyPort_send p _ _).trans (onlyPort_pollStall p _))

theorem onlyPort_answerPointer : OnlyPort p s (answerPointer p s) :=
  (onlyPort_modCpe p s _).trans ((onlyPort_send p _ _).trans (onlyPort_pollStall p _))

theorem onlyPort_settleCount : OnlyPort p s (settleCount p s) :=
  (onlyPort_modCpe p s _).trans (.ite (onlyPort_enterActive p _) (.refl p _))

theorem onlyPort_keyboardPolled : OnlyPort p s (keyboardPolled p s) := by
  have noChange := onlyPort_send p s (.keyboardAnswer p none)
  unfold keyboardPolled
  split
  · exact onlyPort_answerKeyboard p s
  · exact (onlyPort_enterActive p s).trans (onlyPort_answerKeyboard p _)
  · exact (onlyPort_send p s _).trans (onlyPort_settleCount p _)
  · exact noChange
  · exact noChange
  · exact noChange
  · exact .ite noChange (.refl p s)

theorem onlyPort_pointerPolled : OnlyPort p s (pointerPolled p s) := by
  have noChange := onlyPort_send p s (.pointerAnswer p none)
  unfold pointerPolled
  split
  · exact onlyPort_answerPointer p s
  · exact (onlyPort_enterActive p s).trans (onlyPort_answerPointer p _)
  · exact (onlyPort_send p s _).trans (onlyPort_settleCount p _)
  · exact noChange
  · exact noChange
  · exact noChange
  · exact .ite noChange (.refl p s)

theorem onlyPort_reportKey (k : Key) : OnlyPort p s (reportKey p k s) :=
  (onlyPort_modCpe p s _).trans (onlyPort_queueSnapshot p _ _)

theorem onlyPort_keyPressed (k : Key) : OnlyPort p s (keyPressed p k s) := by
  have reported := onlyPort_reportKey p s k
  have ignored : OnlyPort p s (ignoreKey p k s) := onlyPort_modCpe p s _
  refine .ite (.refl p s) ?_
  split
  · exact reported
  · exact reported
  · exact reported
  · exact reported
  · exact ignored
  · exact .ite (reported.trans (onlyPort_hand p _ _ _)) (ignored.trans (onlyPort_modCounters p _ _))
  · exact .refl p s

theorem onlyPort_keyReleased (k : Key) : OnlyPort p s (keyReleased p k s) :=
  .ite (.refl p s) (.ite ((onlyPort_modCpe p s _).trans (onlyPort_queueSnapshot p _ _)) (onlyPort_modCpe p s _))

theorem onlyPort_ignoreReleased (k : Key) : OnlyPort p s (ignoreReleased p k s) := .ite (.refl p s) (onlyPort_modCpe p s _)

theorem onlyPort_releaseAll : OnlyPort p s (releaseAll p s) := (onlyPort_queueSnapshot p s _).trans (onlyPort_modCpe p _ _)

theorem onlyPort_leaveTaken : OnlyPort p s (leaveTaken p s) := by
  have released := onlyPort_releaseAll p s
  unfold leaveTaken
  split
  · exact released
  · exact released
  · exact released
  · exact released
  · exact .ite (.refl p s) released
  · exact .refl p s
  · exact .refl p s

theorem onlyPort_joinTaken (keys : KeySet) : OnlyPort p s (joinTaken p keys s) := .ite (.refl p s) (onlyPort_modCpe p s _)

theorem onlyPort_pointerReported (r : PointerReport) : OnlyPort p s (pointerReported p r s) := by
  refine (onlyPort_modCpe p s (fun e => { e with lastReport := some r })).trans ?_
  unfold pointerReported
  dsimp only
  split
  case h_1 | h_2 | h_3 | h_4 => exact onlyPort_queueReport p _ r
  all_goals exact .refl p _

theorem onlyPort_wakeBegun : OnlyPort p s (wakeBegun p s) := .ite (onlyPort_moveLink p s _) (onlyPort_hand p s _ _)

theorem onlyPort_wakeFell : OnlyPort p s (wakeFell p s) := .ite (onlyPort_modCpe_moveLink p s flushed _) (.refl p s)

theorem onlyPort_recovered : OnlyPort p s (recovered p s) := .ite (onlyPort_enterActive p s) (.refl p s)

theorem onlyPort_stalled : OnlyPort p s (stalled p s) :=
  (onlyPort_modCpe_moveLink p s flushed .stalled).trans ((onlyPort_modCounters p _ _).trans (onlyPort_raise p _ _ _))

end

/-- A command that one port's engine takes leaves the other ports as they stand. The first line of cases leaves just those commands. -/
theorem exec_onlyPort (c : Instr) (s t : State) (p : Port) (engine : engineOf c = some (.cpe p)) (next : exec c s = .next t) :
    OnlyPort p s t := by
  have taken (c : Instr) {u : State} (after : OnlyPort p (s.taking c) u) : OnlyPort p s u := (onlyPort_taking p s c).trans after
  cases c <;> cases engine <;> cases next
  case linkConfigured => exact .onLink (onlyPort_linkUp p s)
  case linkSuspended => exact .onLink (onlyPort_linkSuspend p s)
  case linkResumed => exact .onLink (onlyPort_linkResume p s)
  case linkDetached => exact .onLink (onlyPort_linkDown p s)
  case keyboardPoll => exact .onLink (onlyPort_keyboardPolled p s)
  case pointerPoll => exact .onLink (onlyPort_pointerPolled p s)
  case wakeArmed | wakeDisarmed => exact .onLink (onlyPort_modCpe p s _)
  case ledOutputReport lamps => exact .onLink (onlyPort_setLamps p s lamps)
  case portKeyPress k => exact taken _ (onlyPort_keyPressed p _ k)
  case portKeyRelease k => exact taken _ (onlyPort_keyReleased p _ k)
  case ignoreRelease k => exact taken _ (onlyPort_ignoreReleased p _ k)
  case leaveIndication => exact taken _ (onlyPort_leaveTaken p _)
  case joinIndication keys => exact taken _ (onlyPort_joinTaken p _ keys)
  case portPointerReport r => exact taken _ (onlyPort_pointerReported p _ r)
  case wakeBegins => exact taken _ (onlyPort_wakeBegun p _)
  case wakeFailed => exact taken _ (onlyPort_wakeFell p _)
  case recoveryEnded => exact taken _ (onlyPort_recovered p _)
  case stallTimerExpiry =>
    exact onExpiry_invariant (OnlyPort p s) _ _ s (.refl p s) fun e => (onlyPort_reach p s e).trans (onlyPort_stalled p _)

/-! ## Commands of one source's monitor (chapter 6) -/

/-- From one state to another no Frame Monitor but one changes. -/
def OnlyMonitor (v : Source) (s t : State) : Prop := s.fmn.OnlyCell v t.fmn

section
variable {v : Source} {s t u : State}

theorem OnlyMonitor.refl (v : Source) (s : State) : OnlyMonitor v s s := Tab.OnlyCell.refl v s.fmn

theorem OnlyMonitor.trans (h : OnlyMonitor v s t) (k : OnlyMonitor v t u) : OnlyMonitor v s u := Tab.OnlyCell.trans h k

end

section
variable (v : Source) (s : State)

theorem onlyMonitor_reach (n : Nat) : OnlyMonitor v s (s.reach n) := .refl v s

theorem onlyMonitor_signalLost : OnlyMonitor v s (signalLost v s) := ⟨Fmn.reset, by rw [signalLost_eq]⟩

theorem onlyMonitor_frameResults (old : SourceState) (f : Fmn → Fmn) : OnlyMonitor v s (frameResults v old (s.modFmn v f)) :=
  ⟨f (s.fmn.get v), by rw [frameResults_eq, modFmn_eq]⟩

theorem onlyMonitor_takeFrameStart (now : Nat) : OnlyMonitor v s (takeFrameStart v now s) := by
  refine (onlyMonitor_reach v s now).trans ?_
  unfold takeFrameStart
  dsimp only
  split
  · exact (onlyMonitor_signalLost v _).trans (onlyMonitor_frameResults v _ _ _)
  · exact onlyMonitor_frameResults v _ _ _

theorem onlyMonitor_takeLineStart : OnlyMonitor v s (takeLineStart v s) := by
  unfold takeLineStart
  dsimp only
  split
  · exact .refl v s
  · have counted : OnlyMonitor v s (s.modFmn v (fun f => { f with currentLine := f.currentLine + 1 })) := ⟨_, rfl⟩
    split
    · exact counted
    · exact counted

end

/-- A command that one source's monitor takes leaves the other sources' monitors as they stand. -/
theorem exec_onlyMonitor (c : Instr) (s t : State) (v : Source) (engine : engineOf c = some (.fmn v)) (next : exec c s = .next t) :
    OnlyMonitor v s t := by
  cases c <;> cases engine <;> cases next
  case frameStart now => exact onlyMonitor_takeFrameStart v s now
  case lineStart => exact onlyMonitor_takeLineStart v s
  case lossTimerExpiry =>
    exact onExpiry_invariant (OnlyMonitor v s) _ _ s (.refl v s) fun e =>
      (onlyMonitor_reach v s e).trans (onlyMonitor_signalLost v _)

/-! ## Commands of one screen's Dim Stage (chapter 8) -/

/-- From one state to another no Dim Stage but one changes. -/
def OnlyStage (sc : Screen) (s t : State) : Prop := s.dms.OnlyCell sc t.dms

section
variable {sc : Screen} {s t u : State}

theorem OnlyStage.refl (sc : Screen) (s : State) : OnlyStage sc s s := Tab.OnlyCell.refl sc s.dms

theorem OnlyStage.trans (h : OnlyStage sc s t) (k : OnlyStage sc t u) : OnlyStage sc s u := Tab.OnlyCell.trans h k

theorem OnlyStage.ite {c : Prop} [Decidable c] (yes : OnlyStage sc s t) (no : OnlyStage sc s u) :
    OnlyStage sc s (if c then t else u) := by
  split
  · exact yes
  · exact no

end

section
variable (sc : Screen) (s : State)

theorem onlyStage_modDms (f : Dms → Dms) : OnlyStage sc s (s.modDms sc f) := ⟨f (s.dms.get sc), rfl⟩

theorem onlyStage_reach (n : Nat) : OnlyStage sc s (s.reach n) := .refl sc s

theorem onlyStage_retarget : OnlyStage sc s (retarget sc s) := onlyStage_modDms sc s _

theorem onlyStage_enterPhase (ph : FadePhase) : OnlyStage sc s (enterPhase sc ph s) :=
  (onlyStage_modDms sc s _).trans (onlyStage_retarget sc _)

theorem onlyStage_reportFadeWait : OnlyStage sc s (reportFadeWait sc s) := by
  rw [OnlyStage, reportFadeWait_dms]
  exact OnlyStage.refl sc s

theorem onlyStage_enterFadeWait : OnlyStage sc s (enterFadeWait sc s) :=
  (onlyStage_enterPhase sc s _).trans (onlyStage_reportFadeWait sc _)

theorem onlyStage_dimStep : OnlyStage sc s (dimStep sc s) := by
  refine (onlyStage_modDms sc s (fun d => { d with level := stepLevel s.tables.desk.rampRate d.level d.target })).trans ?_
  unfold dimStep
  dsimp only
  split
  · exact .ite (onlyStage_enterFadeWait sc _) (.refl sc _)
  · exact .ite (onlyStage_enterPhase sc _ _) (.refl sc _)
  · exact .refl sc _
  · exact .refl sc _

theorem onlyStage_frameStepped (v : Source) : OnlyStage sc s (frameStepped sc v s) :=
  .ite (onlyStage_dimStep sc s) (.refl sc s)

theorem onlyStage_takeFade (n : Nat) : OnlyStage sc s (takeFade sc n s) := by
  refine (onlyStage_modDms sc s (fun d => { d with inHand := some n, number := n })).trans ?_
  unfold takeFade
  dsimp only
  split
  case h_1 | h_2 => exact .ite (onlyStage_enterFadeWait sc _) (onlyStage_enterPhase sc _ _)
  case h_4 => exact onlyStage_reportFadeWait sc _
  case h_7 | h_8 => exact onlyStage_enterPhase sc _ _
  all_goals exact .refl sc _

theorem onlyStage_takeDrop : OnlyStage sc s (takeDrop sc s) := by
  have dropped := (onlyStage_modDms sc s (fun d => { d with inHand := none })).trans (onlyStage_enterPhase sc _ .fadeIn)
  unfold takeDrop
  split
  · exact dropped
  · exact dropped
  · exact .refl sc s
  · exact .refl sc s

theorem onlyStage_tickUpdate (locked : Bool) : OnlyStage sc s (tickUpdate sc locked s) := onlyStage_modDms sc s _

theorem onlyStage_tickExpires : OnlyStage sc s (tickExpires sc s) := (onlyStage_modDms sc s _).trans (onlyStage_dimStep sc _)

theorem onlyStage_dimSourceChange (v : Source) (st : SourceState) : OnlyStage sc s (dimSourceChange sc v st s) :=
  .ite (onlyStage_tickUpdate sc s _) (.refl sc s)

theorem onlyStage_dimSwitch (source : Option Source) : OnlyStage sc s (dimSwitch sc source s) :=
  (onlyStage_modDms sc s _).trans ((onlyStage_enterPhase sc _ _).trans (onlyStage_tickUpdate sc _ _))

theorem onlyStage_dimWake : OnlyStage sc s (dimWake sc s) := by
  refine (onlyStage_modDms sc s (fun d => { d with level := 0 })).trans ?_
  unfold dimWake
  dsimp only
  split
  case h_1 => exact onlyStage_enterFadeWait sc _
  all_goals exact onlyStage_retarget sc _

end

/-- A command that one screen's Dim Stage takes leaves the other screens' stages as they stand. -/
theorem exec_onlyStage (c : Instr) (s t : State) (sc : Screen) (engine : engineOf c = some (.dms sc)) (next : exec c s = .next t) :
    OnlyStage sc s t := by
  have taken (c : Instr) {u : State} (after : OnlyStage sc (s.taking c) u) : OnlyStage sc s u := after
  cases c <;> cases engine <;> cases next
  case rampStep v => exact taken _ (onlyStage_frameStepped sc _ v)
  case substituteTickExpiry =>
    exact onExpiry_invariant (OnlyStage sc s) _ _ s (.refl sc s) fun e =>
      (onlyStage_reach sc s e).trans (onlyStage_tickExpires sc _)
  case stateChangeAtDimStage v st => exact taken _ (onlyStage_dimSourceChange sc _ v st)
  case fadeRequest n => exact taken _ (onlyStage_takeFade sc _ n)
  case drop => exact taken _ (onlyStage_takeDrop sc _)
  case switchAtDimStage source => exact taken _ (onlyStage_dimSwitch sc _ source)
  case targetRefresh => exact taken _ (onlyStage_retarget sc _)
  case screenWake => exact taken _ (onlyStage_dimWake sc _)

/-! ## Commands of one wake record (section 10.2) -/

/-- From one state to another nothing of the Wake Controller but the wake record of one port changes. -/
structure OnlyWakeRecord (p : Port) (s t : State) : Prop where
  wakes : s.wkc.wakes.OnlyCell p t.wkc.wakes
  power : t.wkc.power = s.wkc.power
  deskAsleep : t.wkc.deskAsleep = s.wkc.deskAsleep

section
variable {p : Port} {s t u : State}

theorem OnlyWakeRecord.refl (p : Port) (s : State) : OnlyWakeRecord p s s := ⟨.refl p s.wkc.wakes, rfl, rfl⟩

theorem OnlyWakeRecord.trans (h : OnlyWakeRecord p s t) (k : OnlyWakeRecord p t u) : OnlyWakeRecord p s u :=
  ⟨h.wakes.trans k.wakes, k.power.trans h.power, k.deskAsleep.trans h.deskAsleep⟩

theorem OnlyWakeRecord.ite {c : Prop} [Decidable c] (yes : OnlyWakeRecord p s t) (no : OnlyWakeRecord p s u) :
    OnlyWakeRecord p s (if c then t else u) := by
  split
  · exact yes
  · exact no

/-- What leaves the Wake Controller alone. -/
theorem OnlyWakeRecord.of_keeps {m : List StateField} (k : Keeps m s t) (out : .wkc ∉ m := by decide) : OnlyWakeRecord p s t := by
  have same : t.wkc = s.wkc := k .wkc out
  constructor <;> rw [same]
  exact .refl p s.wkc.wakes

end

section
variable (p : Port) (s : State)

theorem onlyWakeRecord_modWake (f : WakeRecord → WakeRecord) : OnlyWakeRecord p s (s.modWake p f) := ⟨⟨_, rfl⟩, rfl, rfl⟩

theorem onlyWakeRecord_hand (b : Block) (c : Instr) : OnlyWakeRecord p s (s.hand b c) := .of_keeps (m := [.handoffs]) (by simp)

theorem onlyWakeRecord_raise (b : Block) (k : NoticeKind) : OnlyWakeRecord p s (s.raise b k) :=
  .of_keeps (m := [.handoffs]) (by simp)

theorem onlyWakeRecord_taking (c : Instr) : OnlyWakeRecord p s (s.taking c) := .of_keeps (m := [.handoffs]) (by simp)

theorem onlyWakeRecord_reach (n : Nat) : OnlyWakeRecord p s (s.reach n) := .of_keeps (m := [.timebase]) (by simp)

theorem onlyWakeRecord_wakeRefused : OnlyWakeRecord p s (wakeRefused s) := onlyWakeRecord_raise p s _ _

theorem onlyWakeRecord_takeWakeRequest : OnlyWakeRecord p s (takeWakeRequest p s) := by
  refine .ite (.refl p s) ?_
  split
  case h_1 => exact .ite ((onlyWakeRecord_hand p s _ _).trans (onlyWakeRecord_modWake p _ _)) (onlyWakeRecord_wakeRefused p s)
  case h_2 => exact onlyWakeRecord_wakeRefused p s
  all_goals exact .refl p s

theorem onlyWakeRecord_wakeBeginsRefused : OnlyWakeRecord p s (wakeBeginsRefused p s) :=
  .ite ((onlyWakeRecord_modWake p s _).trans (onlyWakeRecord_wakeRefused p _)) (.refl p s)

theorem onlyWakeRecord_startAttempt : OnlyWakeRecord p s (startAttempt p s) := onlyWakeRecord_modWake p s _

theorem onlyWakeRecord_linkStateChanged (st : LinkState) : OnlyWakeRecord p s (linkStateChanged p st s) := by
  cases st with
  | waking => exact .ite ((onlyWakeRecord_modWake p s _).trans (onlyWakeRecord_startAttempt p _)) (.refl p s)
  | recovering | detached | settling | active | stalled | suspended => exact onlyWakeRecord_modWake p s _

theorem onlyWakeRecord_wakeSignalEnds : OnlyWakeRecord p s (wakeSignalEnds p s) := onlyWakeRecord_modWake p s _

theorem onlyWakeRecord_wakeTimerExpires : OnlyWakeRecord p s (wakeTimerExpires p s) :=
  (onlyWakeRecord_modWake p s (fun w => { w with timer := none })).trans
    (.ite (.refl p _) (.ite ((onlyWakeRecord_modWake p _ _).trans (onlyWakeRecord_startAttempt p _))
      ((onlyWakeRecord_modWake p _ _).trans ((onlyWakeRecord_raise p _ _ _).trans (onlyWakeRecord_hand p _ _ _)))))

theorem onlyWakeRecord_recoveryExpires : OnlyWakeRecord p s (recoveryExpires p s) :=
  (onlyWakeRecord_modWake p s (fun w => { w with recovery := none })).trans (.ite (onlyWakeRecord_hand p _ _ _) (.refl p _))

/-- An expiry of a wake record's timer, whose effect leaves the others alone. -/
theorem onlyWakeRecord_onExpiry (timer : Timer) (f : State → State) (effect : ∀ t : State, OnlyWakeRecord p t (f t)) :
    OnlyWakeRecord p s (s.onExpiry timer f) :=
  onExpiry_invariant (OnlyWakeRecord p s) timer f s (.refl p s) fun e => (onlyWakeRecord_reach p s e).trans (effect _)

end

/-- A command that concerns the wake record of one port leaves the rest of the Wake Controller as it stands. -/
theorem exec_onlyWakeRecord (c : Instr) (s t : State) (p : Port) (concerns : wakePortOf c = some p) (next : exec c s = .next t) :
    OnlyWakeRecord p s t := by
  have taken (c : Instr) {u : State} (after : OnlyWakeRecord p (s.taking c) u) : OnlyWakeRecord p s u :=
    (onlyWakeRecord_taking p s c).trans after
  cases c <;> cases concerns <;> cases next
  case wakeRequest => exact taken _ (onlyWakeRecord_takeWakeRequest p _)
  case wakeBeginsRefusal => exact taken _ (onlyWakeRecord_wakeBeginsRefused p _)
  case linkStateChange st => exact taken _ (onlyWakeRecord_linkStateChanged p _ st)
  case wakeSignalEnd => exact onlyWakeRecord_onExpiry p s _ _ (onlyWakeRecord_wakeSignalEnds p)
  case wakeTimerExpiry => exact onlyWakeRecord_onExpiry p s _ _ (onlyWakeRecord_wakeTimerExpires p)
  case recoveryTimerExpiry => exact onlyWakeRecord_onExpiry p s _ _ (onlyWakeRecord_recoveryExpires p)

/-! ## Every command -/

/-- Settles O3: by the frame of every command, and by what the commands of one port, source, screen and wake record leave of the
others. -/
theorem commandsKeepTheirFrames : Obligations.CommandsKeepTheirFrames := by
  constructor
  · intro c s
    obtain ⟨t, next⟩ := exec_next c s
    exact ⟨t, next, exec_keeps c s t next⟩
  · intro c s
    obtain ⟨t, next⟩ := exec_next c s
    refine ⟨t, next, fun p q engine other => ?_, fun v w engine other => ?_, fun sc d engine other => ?_,
      fun p q concerns other => ?_, fun p concerns => ?_⟩
    · exact (exec_onlyPort c s t p engine next).other other
    · exact (exec_onlyMonitor c s t v engine next).other other
    · exact (exec_onlyStage c s t sc engine next).other other
    · exact (exec_onlyWakeRecord c s t p concerns next).wakes.other other
    · obtain ⟨-, power, deskAsleep⟩ := exec_onlyWakeRecord c s t p concerns next
      exact ⟨power, deskAsleep⟩

end Sys2Proof.Machine

/-!
PROOFS. What a step is: the command in front of the queue, or with none waiting the part going on by itself (log 2).
-/

namespace Sys2Proof.Machine

section
variable (s : State)

theorem step_front (c : Instr) (rest : List Instr) : step { s with pending := c :: rest } = exec c { s with pending := rest } := rfl

theorem step_idle (idle : s.pending = []) : step s = goOn s := by
  unfold step
  rw [idle]

/-- With no move open, a microsecond passes. -/
theorem goOn_noMove (idle : moves s = []) : goOn s = .next { s with timebase := s.timebase + 1 } := by
  unfold goOn
  rw [idle]

/-- The only move that is open is made. -/
theorem goOn_onlyMove (m : Option Instr) (only : moves s = [m]) : goOn s = makeMove m s := by
  unfold goOn
  rw [only]

end

/-- Settles O1, by the step's case of a queue with a command in front. -/
theorem stepTakesFront : Obligations.StepTakesFront := fun c rest s => step_front s c rest

/-- Settles O2, by the cases of going on with no move and with one. -/
theorem idlePartGoesOn : Obligations.IdlePartGoesOn := by
  intro s idle
  rw [step_idle s idle]
  exact ⟨goOn_noMove s, fun c => goOn_onlyMove s (some c), goOn_onlyMove s none⟩

end Sys2Proof.Machine
